-- ==== Sys2Proof/Word.lean ====
section
/-! DEFINITION. The plain types below the commands: bytes, tags and sparse tables. -/

namespace Sys2Proof

/-- One byte of a frame or of a telemetry item. -/
abbrev Byte := BitVec 8

/-- A tag names a field channel by (concentrator, channel), each 0-255 (00 §1.6). -/
structure Tag where
  concentrator : Nat
  channel : Nat
deriving DecidableEq, Repr, Inhabited

/-- A sparse table: (number, record) pairs with strictly rising numbers.
A number that is not listed is a free slot. -/
abbrev Table (α : Type) := List (Nat × α)

/-- A set of notice classes as R187 carries it: bit 0 PRESSURE up to bit 7 MODEL. -/
abbrev NoticeSet := BitVec 8

end Sys2Proof
end

