-- ==== Sys2Proof/Syntax.lean ====
section
/-! DEFINITION. The commands of the block: one constructor of `Instr` for each row of
spec/opcode_table.json. Operands are the fields a frame or a pin carries, as numbers: an enumerated field
is its code (R187), an optional field is an Option. Their meaning is in Machine/. -/

namespace Sys2Proof

/-- The header of a request frame that an answer depends on: the desk and the request tag (R186). -/
structure Header where
  desk : Nat
  tag : Nat
deriving DecidableEq, Repr, Inhabited

/-- What the telemetry port samples on one rising edge of its clock (R194). -/
structure BitSample where
  data : Bool
  mark : Bool
deriving DecidableEq, Repr

/-- The two edges of the RESET input (R193). The rising edge says whether a request transaction is in
progress when it comes. Power-up is the falling edge and then the rising edge. -/
inductive ResetEdge where
  | falls
  | rises (midTransaction : Bool)
deriving DecidableEq, Repr

/-- The commands of the block. The first 52 are the requests, in the order of the request catalogue. -/
inductive Instr where
  | defineSegment (h : Header) (segment tier zone customers : Nat)
  | defineValve (h : Header) (valve kind : Nat) (endA endB : Option Nat) (normal operation : Nat)
      (tag : Option Tag) (reported : Nat)
  | openModel (h : Header)
  | alterSegment (h : Header) (segment : Nat) (zone customers : Option Nat)
  | splitSegment (h : Header) (segment : Nat) (valves points : List Nat) (customers : Nat)
  | mergeAtStop (h : Header) (valve : Nat)
  | readSegment (h : Header) (segment : Nat)
  | readValve (h : Header) (valve : Nat)
  | readStrays (h : Header) (concentrator : Option Nat)
  | linkReset (h : Header)
  | definePoint (h : Header) (point : Nat) (tag : Tag)
      (segment offset gain group persistence hysteresis staleLimit : Nat)
  | alterPoint (h : Header) (point : Nat) (offset gain group persistence hysteresis staleLimit : Option Nat)
  | setProfile (h : Header) (entry group periodValue periodMask ll l hi hh : Nat) (enabled : Bool)
  | readTrace (h : Header)
  | readOutage (h : Header) (outage start : Nat)
  | reportRelit (h : Header) (segment count : Nat)
  | reportCall (h : Header) (ref segment : Nat) (indoor damage newIncident : Bool) (mergeInto : Option Nat)
  | regrade (h : Header) (incident : Nat) (adjustment : Int)
  | setAllowances (h : Header) (a b c : Nat)
  | declareControlled (h : Header) (incident : Nat)
  | closeIncident (h : Header) (incident : Nat)
  | readIncident (h : Header) (incident : Nat)
  | offerNext (h : Header) (value mask : Nat)
  | acceptOffer (h : Header) (incident : Nat)
  | declineOffer (h : Header) (incident : Nat)
  | dispatchDirect (h : Header) (incident : Nat)
  | reportAttended (h : Header) (incident : Nat)
  | setOfferTime (h : Header) (seconds : Nat)
  | createPlan (h : Header) (incident target : Option Nat) (mode : Nat) (window rise keep : Option Nat)
  | deletePlan (h : Header) (plan : Nat)
  | lockDraft (h : Header) (plan : Nat) (copyActive : Bool)
  | addValve (h : Header) (plan valve : Nat)
  | removeValve (h : Header) (plan valve : Nat)
  | commitDraft (h : Header) (plan : Nat)
  | unlockDraft (h : Header) (plan : Nat)
  | releasePlan (h : Header) (plan : Nat)
  | readPlan (h : Header) (plan : Nat)
  | reportValve (h : Header) (valve position : Nat)
  | fetchOrder (h : Header)
  | withdrawOrder (h : Header) (serial : Nat)
  | reissueValve (h : Header) (valve : Nat)
  | declareInoperable (h : Header) (valve : Nat)
  | restoreOperable (h : Header) (valve : Nat)
  | setOrderTimes (h : Header) (remote crew : Nat)
  | readOrders (h : Header) (start selection : Nat)
  | setClock (h : Header) (count : Nat)
  | setDayClass (h : Header) (dayClass : Nat)
  | setNoticeEnables (h : Header) (enables : NoticeSet)
  | getNotices (h : Header)
  | peekNotices (h : Header)
  | listChanged (h : Header) (recordClass maximum : Nat)
  | setDeskArea (h : Header) (desk base limit : Nat)
  /-- A transaction on the request port, with the whole bytes the host moved in. -/
  | malformedRequestFrame (bytes : List Byte)
  | requestDiscarded
  | answerPlaced
  /-- A read transaction, with the number of whole bytes the host clocks after the read marker. -/
  | readTransaction (clocks : Nat)
  | telemetryByte (samples : List BitSample)
  | readingItem
  | holdItem
  | positionItem
  | linkUpItem
  | linkDownItem
  | badItem
  | publication
  | secondEvent
  | pointStale
  | incidentOverdue
  | offerExpiry
  | orderTimeout
  | windowEnd
  | coldReset (edge : ResetEdge)
deriving DecidableEq, Repr

end Sys2Proof
end

