-- ==== Sys2Proof/Decode.lean ====
section
/-! DEFINITION. The command a word of spec/opcode_table.json spells. No row of the table gives any bits, so
no word spells a command. Request frames are read by their bytes, in Machine/Frames.lean. -/

namespace Sys2Proof

/-- The command that an `nbits`-wide word `w` spells by the table's bits: none, since no row gives bits. -/
def decodeTableWord (_nbits _w : Nat) : Option Instr := none

end Sys2Proof
end

