-- ==== Sys2Proof/Config.lean ====
section
/-! DEFINITION. The capacities the spec fixes (00 §1.2, §1.6) and the one free value. -/

namespace Sys2Proof.Config

def segmentSlots : Nat := 4096
def valveSlots : Nat := 6144
def pointSlots : Nat := 1024
def profileSlots : Nat := 256
def incidentSlots : Nat := 512
def planSlots : Nat := 64
def outageSlots : Nat := 128
def orderCapacity : Nat := 256
def stopCapacity : Nat := 256
def queueCapacity : Nat := 64
def strayCapacity : Nat := 8
def callEntryCapacity : Nat := 8
def draftCapacity : Nat := 24
def segmentValveCapacity : Nat := 12
def segmentPointCapacity : Nat := 4

/-- The largest network second, 4,294,967,295 (R172). -/
def lastSecond : Nat := 4294967295

/-- The largest pressure, 1,048,575 Pa (00 §1.6). -/
def topPressure : Nat := 1048575

/-- The largest customers count of a segment (R1). -/
def topCustomers : Nat := 65535

/-- FREE VALUE (log 12). The byte the part sends at an offset of the n-th answer where an optional
field holds none: R187 gives such a value byte no meaning. It has no body, so nothing can be proved of it. -/
opaque absentByte : Nat → Nat → Byte

end Sys2Proof.Config
end

