-- ==== Sys2Proof/Machine/State.lean ====
section
/-! DEFINITION. Everything the spec gives the part: the enumerations, the records, the state of each block
and the state after cold reset. Constructors stand in the order in which the spec lists a field's values,
which is the order of their codes (R187). -/

namespace Sys2Proof.Machine

/-! ## Enumerated fields -/

inductive ModelState where | loading | running deriving DecidableEq, Repr, Inhabited
inductive Tier where | lp | mp | ip deriving DecidableEq, Repr, Inhabited
inductive ValveKind where | line | governor | offtake | stop deriving DecidableEq, Repr, Inhabited
/-- A normal or wanted position. -/
inductive Position where | opened | closed deriving DecidableEq, Repr, Inhabited
inductive Operation where | remote | manual deriving DecidableEq, Repr, Inhabited
/-- A reported position. -/
inductive Reported where | opened | closed | moving | unknown deriving DecidableEq, Repr, Inhabited
inductive OrderStatus where | none | queued | fetched | stalled | waiting deriving DecidableEq, Repr, Inhabited
inductive Supply where | supplied | unsupplied | relight deriving DecidableEq, Repr, Inhabited
inductive Condition where | ok | stale | sensorFault | overRange | unbanded deriving DecidableEq, Repr, Inhabited
inductive Band where | normal | low | lowLow | high | highHigh deriving DecidableEq, Repr, Inhabited
inductive LinkState where | unknown | up | down deriving DecidableEq, Repr, Inhabited
inductive OutageState where | active | restoring deriving DecidableEq, Repr, Inhabited
inductive IncidentKind where | escape | damage | pressure deriving DecidableEq, Repr, Inhabited
inductive Grade where | a | b | c deriving DecidableEq, Repr, Inhabited
inductive Attendance where | unassigned | offered | dispatched | attended deriving DecidableEq, Repr, Inhabited
inductive Safety where | opened | makingSafe | controlled deriving DecidableEq, Repr, Inhabited
inductive PlanMode where | cumulative | replace deriving DecidableEq, Repr, Inhabited
inductive DraftState where | empty | edit | committed deriving DecidableEq, Repr, Inhabited
inductive ActiveState where | idle | issuing | secured | tight | passing | releasing
deriving DecidableEq, Repr, Inhabited
inductive Verdict where | none | untested | tight | passing deriving DecidableEq, Repr, Inhabited
inductive EntryState where | testing | dropped deriving DecidableEq, Repr, Inhabited
inductive OrderAction where | close | opening deriving DecidableEq, Repr, Inhabited
inductive Channel where | remote | crew deriving DecidableEq, Repr, Inhabited
inductive FetchState where | queued | fetched deriving DecidableEq, Repr, Inhabited
inductive RecordClass where | segment | valve | point | incident | plan | outage
deriving DecidableEq, Repr, Inhabited
inductive OrderSelection where | all | queued | fetched deriving DecidableEq, Repr, Inhabited
/-- The notice classes of R176, in the order of their bits (R187). -/
inductive Notice where | pressure | incident | dispatch | plan | order | outage | telemetry | model
deriving DecidableEq, Repr, Inhabited
/-- The result codes of 00 §1.7, in the order of their values 1-12 (R186). -/
inductive Result where
  | done | notRunning | modelLocked | noRecord | outOfArea | wrongState
  | busy | full | duplicate | badField | tooLate | unknownRequest
deriving DecidableEq, Repr, Inhabited
/-- The blocks' timed work at a second event, in the order of R173. -/
inductive TimedWork where | staleness | overdue | expiry | timeout | windowEnd
deriving DecidableEq, Repr, Inhabited

/-! ## Records -/

/-- A segment record (R1). Its number is its key in the table, its attention flag stands in `Notices`. -/
structure Segment where
  tier : Tier
  zone : Nat
  customers : Nat
  valveList : List Nat
  pointList : List Nat
  supply : Supply
  outage : Option Nat
  relit : Nat
  openIncidents : Nat
deriving DecidableEq, Repr, Inhabited

/-- A valve record (R3). -/
structure Valve where
  kind : ValveKind
  endA : Option Nat
  endB : Nat
  normal : Position
  operation : Operation
  tag : Option Tag
  reported : Reported
  unconfirmed : Bool
  inoperable : Bool
  orderState : OrderStatus
  orderSerial : Option Nat
  followUp : Bool
  waitingSince : Option Nat
  hold : Nat
  lastReport : Nat
deriving DecidableEq, Repr, Inhabited

/-- A pressure point record (R39). -/
structure Point where
  tag : Tag
  segment : Nat
  zero : Nat
  gain : Nat
  group : Nat
  persistence : Nat
  hysteresis : Nat
  staleLimit : Nat
  lastRaw : Option Nat
  lastPressure : Option Nat
  valid : Bool
  lastContact : Nat
  condition : Condition
  band : Band
  candidate : Option Band
  count : Nat
  selected : Option Nat
deriving DecidableEq, Repr, Inhabited

/-- A profile entry (R48). -/
structure Profile where
  group : Nat
  periodValue : Nat
  periodMask : Nat
  ll : Nat
  l : Nat
  h : Nat
  hh : Nat
  enabled : Bool
deriving DecidableEq, Repr, Inhabited

/-- A concentrator record (R34). -/
structure Concentrator where
  state : LinkState
  lastChange : Nat
deriving DecidableEq, Repr, Inhabited

/-- One call of an incident (R86). -/
structure CallEntry where
  ref : Nat
  second : Nat
  indoor : Bool
  damage : Bool
deriving DecidableEq, Repr, Inhabited

/-- An incident record (R86). -/
structure Incident where
  kind : IncidentKind
  segment : Nat
  firstReport : Nat
  deadline : Nat
  score : Nat
  grade : Grade
  overdue : Bool
  indoor : Bool
  damage : Bool
  callCount : Nat
  entries : List CallEntry
  attendance : Attendance
  offerDesk : Option Nat
  offerExpiry : Option Nat
  safety : Safety
  plan : Option Nat
  adjustment : Int
deriving DecidableEq, Repr, Inhabited

/-- One point of a decay test (R163). -/
structure TestEntry where
  point : Nat
  p0 : Nat
  latest : Nat
  state : EntryState
deriving DecidableEq, Repr, Inhabited

/-- What a test in RUNNING or ENDED holds (R163). -/
structure TestData where
  t0 : Nat
  windowEnd : Nat
  entries : List TestEntry
deriving DecidableEq, Repr, Inhabited

/-- The decay test of a plan slot (R163). -/
inductive DecayTest where
  | none
  | running (d : TestData)
  | ended (d : TestData)
deriving DecidableEq, Repr, Inhabited

/-- An isolation plan record (R118) with the test the Verification Unit holds for its slot (R163). -/
structure Plan where
  incident : Option Nat
  target : Nat
  mode : PlanMode
  window : Nat
  rise : Nat
  keep : Nat
  draftState : DraftState
  editor : Option Nat
  draft : List Nat
  activeState : ActiveState
  active : List Nat
  verdict : Verdict
  orderFailed : Bool
  needsRevision : Bool
  test : DecayTest
deriving DecidableEq, Repr, Inhabited

/-- An outage record (R71). -/
structure Outage where
  state : OutageState
  start : Nat
  restoring : Option Nat
  members : Nat
  customersOff : Nat
  customersRelit : Nat
deriving DecidableEq, Repr, Inhabited

/-- A valve order (R145). Its serial is its key in the order list. -/
structure Order where
  valve : Nat
  action : OrderAction
  channel : Channel
  state : FetchState
  queued : Nat
  fetched : Option Nat
  expiry : Option Nat
deriving DecidableEq, Repr, Inhabited

/-- A desk's window (R190). -/
structure Window where
  base : Nat
  limit : Nat
deriving DecidableEq, Repr, Inhabited

/-! ## Blocks -/

/-- A complete telemetry item (R25, R186). The spare byte is not examined and not kept (log 24). -/
structure Item where
  kind : Nat
  tag : Tag
  value : Nat
deriving DecidableEq, Repr, Inhabited

/-- The receiver of the telemetry port (R26). The byte count of RECEIVING is the number of bytes held. -/
inductive Receiver where
  | seeking
  | idle
  | receiving (bytes : List Byte)
  | discarding (count : Nat)
deriving DecidableEq, Repr, Inhabited

/-- What READ STRAYS reports and clears (R38): the stray tag set and the intake indications. -/
structure IntakeReport where
  strays : List Tag
  moreStrays : Bool
  badItem : Bool
  overrun : Bool
  framing : Bool
deriving DecidableEq, Repr, Inhabited

/-- The Telemetry Intake but for the concentrator table. `next` is present from the taking of a READ STRAYS
until its answer is placed: it gathers what is to be kept for the next READ STRAYS (R38). -/
structure Intake where
  receiver : Receiver
  queue : List Item
  report : IntakeReport
  next : Option IntakeReport
deriving DecidableEq, Repr, Inhabited

/-- What a trace pass took of a valve (R65). -/
structure PassValve where
  kind : ValveKind
  endA : Option Nat
  endB : Nat
  passes : Bool
deriving DecidableEq, Repr, Inhabited

/-- The inputs of a trace pass (R65), and the segment slots freed since it began (R69). -/
structure PassInputs where
  segments : List Nat
  valves : List PassValve
  freed : List Nat
deriving DecidableEq, Repr, Inhabited

/-- The trace pass (R63). -/
inductive Pass where
  | idle
  | running (inputs : PassInputs)
deriving DecidableEq, Repr, Inhabited

/-- The pass state of the Supply Tracer (R63). -/
structure Tracer where
  pass : Pass
  restarts : Nat
  rerun : Bool
  generation : Nat
  lastPublication : Option Nat
  overflow : Bool
  unassigned : Nat
deriving DecidableEq, Repr, Inhabited

/-- The Incident Register but for its tables (R94, R97). -/
structure Register where
  allowanceA : Nat
  allowanceB : Nat
  allowanceC : Nat
  full : Bool
  lastRefused : Option Nat
deriving DecidableEq, Repr, Inhabited

/-- The Dispatch Selector (R108): the desks' outstanding offers, desk to incident, and the offer time. -/
structure Dispatch where
  offers : Table Nat
  offerTime : Nat
deriving DecidableEq, Repr, Inhabited

/-- An order indication with the last valve concerned (R145). -/
structure Indication where
  set : Bool
  valve : Option Nat
deriving DecidableEq, Repr, Inhabited

/-- The Order Unit but for the order list (R145). -/
structure OrderUnit where
  nextSerial : Nat
  remoteTime : Nat
  crewTime : Nat
  unplanned : Indication
  timeout : Indication
deriving DecidableEq, Repr, Inhabited

/-- The Timebase (R172), and the timed work of the latest second event that is not yet done (R173). -/
structure Clock where
  second : Nat
  dayClass : Nat
  due : List TimedWork
deriving DecidableEq, Repr, Inhabited

/-- The attention flags (R179): for each table the flagged slots, rising, free slots included. -/
structure Attention where
  segments : List Nat
  valves : List Nat
  points : List Nat
  incidents : List Nat
  plans : List Nat
  outages : List Nat
deriving DecidableEq, Repr, Inhabited

/-- The Notice Unit (R176, R179). -/
structure Notices where
  raised : NoticeSet
  enabled : NoticeSet
  flags : Attention
deriving DecidableEq, Repr, Inhabited

/-- One field of an answer body, by its width (R187). -/
inductive Field where
  | u8 (n : Nat)
  | u16 (n : Nat)
  | u32 (n : Nat)
  | s8 (z : Int)
  /-- The value bytes of an optional field that holds none (log 12). -/
  | absent (width : Nat)
deriving DecidableEq, Repr, Inhabited

/-- What an action on a request answers: result, CLAMPED and body (R189). -/
structure Reply where
  result : Result
  clamped : Bool
  body : List Field
deriving DecidableEq, Repr, Inhabited

/-- An answer frame (R186). `number` counts the answers placed before it: the argument of the free value
`Config.absentByte`. -/
structure AnswerFrame where
  tag : Nat
  reply : Reply
  discarded : Bool
  number : Nat
deriving DecidableEq, Repr, Inhabited

/-- The request port (R183). ACTING holds the request tag and the reply that is to be placed. -/
inductive PortState where
  | idle
  | acting (tag : Nat) (reply : Reply)
  | answered (frame : AnswerFrame)
deriving DecidableEq, Repr, Inhabited

/-- What the placing of the answer still clears (R189): the classes GET NOTICES reported, the slots
LIST CHANGED listed, the incident-full indication and the order indications. Strays: see `Intake.next`. -/
structure PlaceClear where
  notices : NoticeSet
  slots : Option (RecordClass × List Nat)
  incidentFull : Bool
  orderIndications : Bool
deriving DecidableEq, Repr, Inhabited

/-- The Request Port and the RESET input (R183, R193). `sent` is what SDO carried in the latest read
transaction (log 23), `drawn` the number of answers placed (log 12). -/
structure Port where
  state : PortState
  discarded : Bool
  onPlace : PlaceClear
  held : Bool
  skip : Bool
  sent : List Byte
  drawn : Nat
deriving DecidableEq, Repr, Inhabited

/-! ## The state -/

/-- The whole state of the part, and the queue of commands that wait. -/
structure State where
  model : ModelState
  stopCount : Nat
  segments : Table Segment
  valves : Table Valve
  points : Table Point
  profiles : Table Profile
  concentrators : Table Concentrator
  incidents : Table Incident
  plans : Table Plan
  outages : Table Outage
  orders : Table Order
  windows : Table Window
  intake : Intake
  tracer : Tracer
  register : Register
  dispatch : Dispatch
  orderUnit : OrderUnit
  clock : Clock
  notices : Notices
  port : Port
  pending : List Instr
deriving DecidableEq, Repr

/-- Nothing is to be cleared at the placing of the answer. -/
def PlaceClear.nothing : PlaceClear :=
  { notices := 0, slots := none, incidentFull := false, orderIndications := false }

/-- The empty stray tag set with the more-strays flag and the indications clear (R33, R37). -/
def IntakeReport.clear : IntakeReport :=
  { strays := [], moreStrays := false, badItem := false, overrun := false, framing := false }

/-- An indication that is no, with no last valve (R145). -/
def Indication.clear : Indication := { set := false, valve := none }

/-- The window of cold reset, which gives no write authority (R190). -/
def Window.reset : Window := { base := 1, limit := 0 }

/-- The record of a concentrator after cold reset (R34). -/
def Concentrator.reset : Concentrator := { state := .unknown, lastChange := 0 }

/-- The state right after cold reset, RESET having risen (R193): each field as its chapter gives it. -/
def State.reset : State where
  model := .loading
  stopCount := 0
  segments := []
  valves := []
  points := []
  profiles := []
  concentrators := []
  incidents := []
  plans := []
  outages := []
  orders := []
  windows := []
  intake := { receiver := .seeking, queue := [], report := .clear, next := none }
  tracer :=
    { pass := .idle, restarts := 0, rerun := false, generation := 0,
      lastPublication := none, overflow := false, unassigned := 0 }
  register := { allowanceA := 60, allowanceB := 120, allowanceC := 1440, full := false, lastRefused := none }
  dispatch := { offers := [], offerTime := 120 }
  orderUnit :=
    { nextSerial := 1, remoteTime := 3, crewTime := 90, unplanned := .clear, timeout := .clear }
  clock := { second := 0, dayClass := 0, due := [] }
  notices :=
    { raised := 0, enabled := 0,
      flags := { segments := [], valves := [], points := [], incidents := [], plans := [], outages := [] } }
  port :=
    { state := .idle, discarded := false, onPlace := .nothing, held := false, skip := false,
      sent := [], drawn := 0 }
  pending := []

/-! ## Stops -/

/-- The faults of the model. There is none: the spec gives every command an effect or an answer in every
state, so nothing raises a fault. -/
inductive Fault where
deriving DecidableEq, Repr

/-- The refusals of the model. -/
inductive Refusal where
  /-- Raised by an arm of `exec` alone, for a command that has no meaning yet. Safe: the model stops.
  No arm raises it now. -/
  | notModelled (mnemonic : String)
deriving DecidableEq, Repr

end Sys2Proof.Machine
end

