-- ==== Sys2Proof/Machine/Codes.lean ====
section
/-! DEFINITION. The codes of enumerated fields (R187): 0 for the first value listed where the field is
specified, 1 for the next, and so on; and the values of the result codes (R186). -/

namespace Sys2Proof.Machine

def ModelState.code : ModelState → Nat
  | .loading => 0
  | .running => 1

def Tier.code : Tier → Nat
  | .lp => 0
  | .mp => 1
  | .ip => 2

def ValveKind.code : ValveKind → Nat
  | .line => 0
  | .governor => 1
  | .offtake => 2
  | .stop => 3

def Position.code : Position → Nat
  | .opened => 0
  | .closed => 1

def Operation.code : Operation → Nat
  | .remote => 0
  | .manual => 1

def Reported.code : Reported → Nat
  | .opened => 0
  | .closed => 1
  | .moving => 2
  | .unknown => 3

def OrderStatus.code : OrderStatus → Nat
  | .none => 0
  | .queued => 1
  | .fetched => 2
  | .stalled => 3
  | .waiting => 4

def Supply.code : Supply → Nat
  | .supplied => 0
  | .unsupplied => 1
  | .relight => 2

def Condition.code : Condition → Nat
  | .ok => 0
  | .stale => 1
  | .sensorFault => 2
  | .overRange => 3
  | .unbanded => 4

def Band.code : Band → Nat
  | .normal => 0
  | .low => 1
  | .lowLow => 2
  | .high => 3
  | .highHigh => 4

def LinkState.code : LinkState → Nat
  | .unknown => 0
  | .up => 1
  | .down => 2

def OutageState.code : OutageState → Nat
  | .active => 0
  | .restoring => 1

def IncidentKind.code : IncidentKind → Nat
  | .escape => 0
  | .damage => 1
  | .pressure => 2

def Grade.code : Grade → Nat
  | .a => 0
  | .b => 1
  | .c => 2

def Attendance.code : Attendance → Nat
  | .unassigned => 0
  | .offered => 1
  | .dispatched => 2
  | .attended => 3

def Safety.code : Safety → Nat
  | .opened => 0
  | .makingSafe => 1
  | .controlled => 2

def PlanMode.code : PlanMode → Nat
  | .cumulative => 0
  | .replace => 1

def DraftState.code : DraftState → Nat
  | .empty => 0
  | .edit => 1
  | .committed => 2

def ActiveState.code : ActiveState → Nat
  | .idle => 0
  | .issuing => 1
  | .secured => 2
  | .tight => 3
  | .passing => 4
  | .releasing => 5

def Verdict.code : Verdict → Nat
  | .none => 0
  | .untested => 1
  | .tight => 2
  | .passing => 3

def EntryState.code : EntryState → Nat
  | .testing => 0
  | .dropped => 1

def OrderAction.code : OrderAction → Nat
  | .close => 0
  | .opening => 1

def Channel.code : Channel → Nat
  | .remote => 0
  | .crew => 1

def FetchState.code : FetchState → Nat
  | .queued => 0
  | .fetched => 1

def RecordClass.code : RecordClass → Nat
  | .segment => 0
  | .valve => 1
  | .point => 2
  | .incident => 3
  | .plan => 4
  | .outage => 5

def Notice.code : Notice → Nat
  | .pressure => 0
  | .incident => 1
  | .dispatch => 2
  | .plan => 3
  | .order => 4
  | .outage => 5
  | .telemetry => 6
  | .model => 7

/-- The value a code names, none where the code is beyond the last listed. -/
def Tier.ofCode? : Nat → Option Tier
  | 0 => some .lp
  | 1 => some .mp
  | 2 => some .ip
  | _ => none

/-- The value a code names, none where the code is beyond the last listed. -/
def ValveKind.ofCode? : Nat → Option ValveKind
  | 0 => some .line
  | 1 => some .governor
  | 2 => some .offtake
  | 3 => some .stop
  | _ => none

/-- The value a code names, none where the code is beyond the last listed. -/
def Position.ofCode? : Nat → Option Position
  | 0 => some .opened
  | 1 => some .closed
  | _ => none

/-- The value a code names, none where the code is beyond the last listed. -/
def Operation.ofCode? : Nat → Option Operation
  | 0 => some .remote
  | 1 => some .manual
  | _ => none

/-- The value a code names, none where the code is beyond the last listed. -/
def Reported.ofCode? : Nat → Option Reported
  | 0 => some .opened
  | 1 => some .closed
  | 2 => some .moving
  | 3 => some .unknown
  | _ => none

/-- The value a code names, none where the code is beyond the last listed. -/
def PlanMode.ofCode? : Nat → Option PlanMode
  | 0 => some .cumulative
  | 1 => some .replace
  | _ => none

/-- The value a code names, none where the code is beyond the last listed. -/
def RecordClass.ofCode? : Nat → Option RecordClass
  | 0 => some .segment
  | 1 => some .valve
  | 2 => some .point
  | 3 => some .incident
  | 4 => some .plan
  | 5 => some .outage
  | _ => none

/-- The value a code names, none where the code is beyond the last listed. -/
def OrderSelection.ofCode? : Nat → Option OrderSelection
  | 0 => some .all
  | 1 => some .queued
  | 2 => some .fetched
  | _ => none

/-- The result values of R186. -/
def Result.value : Result → Nat
  | .done => 1
  | .notRunning => 2
  | .modelLocked => 3
  | .noRecord => 4
  | .outOfArea => 5
  | .wrongState => 6
  | .busy => 7
  | .full => 8
  | .duplicate => 9
  | .badField => 10
  | .tooLate => 11
  | .unknownRequest => 12

/-- The set byte that holds one notice class (R187). -/
def Notice.bit (c : Notice) : NoticeSet := BitVec.twoPow 8 c.code

end Sys2Proof.Machine
end

