-- ==== Sys2Proof/Machine/Tables.lean ====
section
/-! DEFINITION. Operations over sparse tables and over the lists of numbers that records hold. -/

namespace Sys2Proof.Machine

/-- The record of a slot, none where the slot is free. -/
def Table.at? {α : Type} : Table α → Nat → Option α
  | [], _ => none
  | (k, a) :: t, n => if k = n then some a else Table.at? t n

/-- Write the whole record of a slot, which comes into use if it was free. -/
def Table.put {α : Type} : Table α → Nat → α → Table α
  | [], n, a => [(n, a)]
  | (k, b) :: t, n, a =>
    if n < k then (n, a) :: (k, b) :: t
    else if n = k then (n, a) :: t
    else (k, b) :: Table.put t n a

/-- Return a slot to the free state. -/
def Table.del {α : Type} (t : Table α) (n : Nat) : Table α := t.filter (fun r => r.1 != n)

/-- Change the record of a slot in use; a free slot stays free. -/
def Table.upd {α : Type} (t : Table α) (n : Nat) (f : α → α) : Table α :=
  t.map (fun r => if r.1 = n then (r.1, f r.2) else r)

/-- The numbers in use, in ascending order. -/
def Table.keys {α : Type} (t : Table α) : List Nat := t.map Prod.fst

/-- A slot is in use. -/
def Table.has {α : Type} (t : Table α) (n : Nat) : Bool := (Table.at? t n).isSome

/-- A slot is in use and its record meets `p`. -/
def Table.test {α : Type} (t : Table α) (n : Nat) (p : α → Bool) : Bool := (Table.at? t n).any p

/-- The numbers in use whose records meet `p`, in ascending order. -/
def Table.which {α : Type} (t : Table α) (p : α → Bool) : List Nat := Table.keys (t.filter (fun r => p r.2))

/-- How many records meet `p`. -/
def Table.count {α : Type} (t : Table α) (p : α → Bool) : Nat := (t.filter (fun r => p r.2)).length

/-- The lowest-numbered free slot of a table of `cap` slots (00 §1.6). Among the first `t.length + 1`
numbers one is not listed, so the search is over those. -/
def Table.lowestFree {α : Type} (t : Table α) (cap : Nat) : Option Nat :=
  ((List.range (t.length + 1)).find? (fun n => !Table.has t n)).filter (fun n => n < cap)

/-- The next number in use above `n`, or none (R106, R142). -/
def Table.nextAbove {α : Type} (t : Table α) (n : Nat) : Option Nat := (Table.keys t).find? (fun k => n < k)

/-- The canonical form: numbers strictly rising and below `cap`. -/
def Table.wf {α : Type} (t : Table α) (cap : Nat) : Prop :=
  (Table.keys t).Pairwise (· < ·) ∧ ∀ n ∈ Table.keys t, n < cap

/-- Put a number into a rising list without doubles. -/
def insertNat : Nat → List Nat → List Nat
  | n, [] => [n]
  | n, k :: t => if n < k then n :: k :: t else if n = k then k :: t else k :: insertNat n t

/-- A list of numbers in rising order without doubles. -/
def sortNat (l : List Nat) : List Nat := l.foldr insertNat []

/-- No number stands twice. -/
def distinct : List Nat → Bool
  | [] => true
  | n :: t => !t.contains n && distinct t

/-- The first element that no other comes before, by `lt`. -/
def leastBy {α : Type} (lt : α → α → Bool) : List α → Option α
  | [] => none
  | a :: t =>
    match leastBy lt t with
    | none => some a
    | some b => if lt b a then some b else some a

/-- Insertion sort by `lt`, which keeps the order of equal elements. -/
def sortBy {α : Type} (lt : α → α → Bool) (l : List α) : List α := l.foldr ins []
where
  ins (a : α) : List α → List α
    | [] => [a]
    | b :: t => if lt b a then b :: ins a t else a :: b :: t

/-- Apply `f` `n` times. -/
def iterate {α : Type} (f : α → α) : Nat → α → α
  | 0, a => a
  | n + 1, a => iterate f n (f a)

end Sys2Proof.Machine
end

