-- ==== Sys2Proof/Machine/Update.lean ====
section
/-! DEFINITION. One named update for each field of the state, and updates of one record of a table.
Every meaning changes the state through these, so that a lemma per field says what it leaves alone
(Laws/State.lean). -/

namespace Sys2Proof.Machine

def State.setModel (s : State) (x : ModelState) : State := { s with model := x }
def State.setStopCount (s : State) (x : Nat) : State := { s with stopCount := x }
def State.setSegments (s : State) (x : Table Segment) : State := { s with segments := x }
def State.setValves (s : State) (x : Table Valve) : State := { s with valves := x }
def State.setPoints (s : State) (x : Table Point) : State := { s with points := x }
def State.setProfiles (s : State) (x : Table Profile) : State := { s with profiles := x }
def State.setConcentrators (s : State) (x : Table Concentrator) : State := { s with concentrators := x }
def State.setIncidents (s : State) (x : Table Incident) : State := { s with incidents := x }
def State.setPlans (s : State) (x : Table Plan) : State := { s with plans := x }
def State.setOutages (s : State) (x : Table Outage) : State := { s with outages := x }
def State.setOrders (s : State) (x : Table Order) : State := { s with orders := x }
def State.setWindows (s : State) (x : Table Window) : State := { s with windows := x }
def State.setIntake (s : State) (x : Intake) : State := { s with intake := x }
def State.setTracer (s : State) (x : Tracer) : State := { s with tracer := x }
def State.setRegister (s : State) (x : Register) : State := { s with register := x }
def State.setDispatch (s : State) (x : Dispatch) : State := { s with dispatch := x }
def State.setOrderUnit (s : State) (x : OrderUnit) : State := { s with orderUnit := x }
def State.setClock (s : State) (x : Clock) : State := { s with clock := x }
def State.setNotices (s : State) (x : Notices) : State := { s with notices := x }
def State.setPort (s : State) (x : Port) : State := { s with port := x }
def State.setPending (s : State) (x : List Instr) : State := { s with pending := x }

/-- Write the whole record of segment slot `n`. -/
def State.putSegment (s : State) (n : Nat) (x : Segment) : State := s.setSegments (Table.put s.segments n x)
/-- Change the record of segment slot `n`, if it is in use. -/
def State.updSegment (s : State) (n : Nat) (f : Segment → Segment) : State := s.setSegments (Table.upd s.segments n f)

/-- Write the whole record of valve slot `n`. -/
def State.putValve (s : State) (n : Nat) (x : Valve) : State := s.setValves (Table.put s.valves n x)
/-- Change the record of valve slot `n`, if it is in use. -/
def State.updValve (s : State) (n : Nat) (f : Valve → Valve) : State := s.setValves (Table.upd s.valves n f)

/-- Write the whole record of point slot `n`. -/
def State.putPoint (s : State) (n : Nat) (x : Point) : State := s.setPoints (Table.put s.points n x)
/-- Change the record of point slot `n`, if it is in use. -/
def State.updPoint (s : State) (n : Nat) (f : Point → Point) : State := s.setPoints (Table.upd s.points n f)

/-- Write the whole record of incident slot `n`. -/
def State.putIncident (s : State) (n : Nat) (x : Incident) : State := s.setIncidents (Table.put s.incidents n x)
/-- Change the record of incident slot `n`, if it is in use. -/
def State.updIncident (s : State) (n : Nat) (f : Incident → Incident) : State := s.setIncidents (Table.upd s.incidents n f)

/-- Write the whole record of plan slot `n`. -/
def State.putPlan (s : State) (n : Nat) (x : Plan) : State := s.setPlans (Table.put s.plans n x)
/-- Change the record of plan slot `n`, if it is in use. -/
def State.updPlan (s : State) (n : Nat) (f : Plan → Plan) : State := s.setPlans (Table.upd s.plans n f)

/-- Write the whole record of outage slot `n`. -/
def State.putOutage (s : State) (n : Nat) (x : Outage) : State := s.setOutages (Table.put s.outages n x)
/-- Change the record of outage slot `n`, if it is in use. -/
def State.updOutage (s : State) (n : Nat) (f : Outage → Outage) : State := s.setOutages (Table.upd s.outages n f)

/-- Write the whole record of order slot `n`. -/
def State.putOrder (s : State) (n : Nat) (x : Order) : State := s.setOrders (Table.put s.orders n x)
/-- Change the record of order slot `n`, if it is in use. -/
def State.updOrder (s : State) (n : Nat) (f : Order → Order) : State := s.setOrders (Table.upd s.orders n f)

/-- Now: the network second (R172). -/
def State.now (s : State) : Nat := s.clock.second

/-- The model is RUNNING (R6). -/
def State.running (s : State) : Bool := s.model = .running

end Sys2Proof.Machine
end

