-- ==== Sys2Proof/Machine/Flags.lean ====
section
/-! DEFINITION. Notices and attention flags (R176, R179), the output pins that follow them, and what the
placing of an answer still has to clear (R189). -/

namespace Sys2Proof.Machine

/-- Raise a notice class: it joins the pending set whether or not it is enabled (R176). A class raised while
the answer to a GET NOTICES waits to be placed is not cleared with it (R178). -/
def raise (c : Notice) (s : State) : State :=
  (s.setNotices { s.notices with raised := s.notices.raised ||| c.bit }).setPort
    { s.port with onPlace := { s.port.onPlace with notices := s.port.onPlace.notices &&& ~~~ c.bit } }

/-- The flagged slots of a class. -/
def Attention.of (a : Attention) : RecordClass → List Nat
  | .segment => a.segments
  | .valve => a.valves
  | .point => a.points
  | .incident => a.incidents
  | .plan => a.plans
  | .outage => a.outages

/-- Replace the flagged slots of a class. -/
def Attention.replace (a : Attention) (l : List Nat) : RecordClass → Attention
  | .segment => { a with segments := l }
  | .valve => { a with valves := l }
  | .point => { a with points := l }
  | .incident => { a with incidents := l }
  | .plan => { a with plans := l }
  | .outage => { a with outages := l }

/-- Replace the flagged slots of a class in the state. -/
def setFlags (c : RecordClass) (l : List Nat) (s : State) : State :=
  s.setNotices { s.notices with flags := s.notices.flags.replace l c }

/-- What is left to clear when slot `n` of class `c` is flagged anew. -/
def keepSlot (c : RecordClass) (n : Nat) : Option (RecordClass × List Nat) → Option (RecordClass × List Nat)
  | none => none
  | some (d, l) => if c = d then some (d, l.filter (fun k => k != n)) else some (d, l)

/-- Set the attention flag of a slot (R179). A slot flagged while the answer to a LIST CHANGED that listed it
waits to be placed keeps its flag (R180). -/
def flag (c : RecordClass) (n : Nat) (s : State) : State :=
  (setFlags c (insertNat n (s.notices.flags.of c)) s).setPort
    { s.port with onPlace := { s.port.onPlace with slots := keepSlot c n s.port.onPlace.slots } }

/-- Clear the attention flag of a slot, as a definition does (R179). -/
def unflag (c : RecordClass) (n : Nat) (s : State) : State :=
  setFlags c ((s.notices.flags.of c).filter (fun k => k != n)) s

/-- Whether a slot's attention flag is set. -/
def flagged (c : RecordClass) (n : Nat) (s : State) : Bool := (s.notices.flags.of c).contains n

/-- Flag each of a list of slots. -/
def flagAll (c : RecordClass) (l : List Nat) (s : State) : State := l.foldl (fun s n => flag c n s) s

/-- Flag a slot and raise a notice: what most changes of a record do. -/
def mark (c : RecordClass) (n : Nat) (v : Notice) (s : State) : State := raise v (flag c n s)

/-- A change of a plan record: its flag and the PLAN notice (R141). -/
def markPlan (p : Nat) (s : State) : State := mark .plan p .plan s

/-- A change of a valve's order fields, reported position or flags: its flag and the ORDER notice (R144). -/
def markValve (v : Nat) (s : State) : State := mark .valve v .order s

/-- A change of an incident that the Register owns: its flag and the INCIDENT notice. -/
def markIncident (i : Nat) (s : State) : State := mark .incident i .incident s

/-- A change of attendance or offer fields: the incident's flag and the DISPATCH notice (R108). -/
def markDispatch (i : Nat) (s : State) : State := mark .incident i .dispatch s

/-- A change of a point's condition or band: its flag and the PRESSURE notice (R58, R59). -/
def markPoint (p : Nat) (s : State) : State := mark .point p .pressure s

/-- The NOTICE output: at least one class is both pending and enabled (R176). -/
def noticePin (s : State) : Bool := (s.notices.raised &&& s.notices.enabled) != 0

/-- The READY output: the intake queue has room (R27). -/
def readyPin (s : State) : Bool := s.intake.queue.length < Config.queueCapacity

/-- The ANSWER output: the port is in ANSWERED (R184). -/
def answerPin (s : State) : Bool :=
  match s.port.state with
  | .answered _ => true
  | _ => false

end Sys2Proof.Machine
end

