-- ==== Sys2Proof/Machine/Operands.lean ====
section
/-! DEFINITION. How a request's fields are tested and taken: the ordered tests, the clamping of operational
parameters (00 §1.6), the desk windows (R190), and the fields of an answer body (R187). -/

namespace Sys2Proof.Machine

/-- The tests of a request, in order: the first that fails gives the answer. -/
def firstFailure : List (Bool × Result) → Option Result
  | [] => none
  | (ok, r) :: t => if ok then firstFailure t else some r

/-- A parameter at the nearest limit of its range. -/
def clamp (lo hi n : Nat) : Nat := if n < lo then lo else if hi < n then hi else n

/-- The signed parameter at the nearest limit of its range. -/
def clampInt (lo hi z : Int) : Int := if z < lo then lo else if hi < z then hi else z

/-- A sum of seconds, taken as 4,294,967,295 where it would be larger. -/
def addSeconds (a b : Nat) : Nat := min Config.lastSecond (a + b)

/-- Segment `n` lies within the window of `desk`; desk 0 is unrestricted (R190). -/
def inWindow (s : State) (desk n : Nat) : Bool :=
  desk = 0 ||
    (let w := (Table.at? s.windows desk).getD Window.reset
     w.base ≤ n && n ≤ w.limit)

/-- At least one end of the valve lies within the window; an OFFTAKE is tested by its end B (R190). -/
def Valve.inWindow (a : Valve) (s : State) (desk : Nat) : Bool :=
  a.endA.any (fun n => Sys2Proof.Machine.inWindow s desk n) || Sys2Proof.Machine.inWindow s desk a.endB

/-! ## Answers -/

/-- A refusal with an empty body (R189). -/
def Reply.refusal (r : Result) : Reply := { result := r, clamped := false, body := [] }

/-- A refusal whose chapter gives it a body (R189). -/
def Reply.refusalWith (r : Result) (body : List Field) : Reply := { result := r, clamped := false, body := body }

/-- DONE with a body. -/
def Reply.done (body : List Field) : Reply := { result := .done, clamped := false, body := body }

/-- DONE with the CLAMPED flag as given. -/
def Reply.doneClamped (clamped : Bool) (body : List Field) : Reply :=
  { result := .done, clamped := clamped, body := body }

/-- A yes/no flag (R187). -/
def yes (b : Bool) : Field := .u8 (if b then 1 else 0)

/-- An optional field: a presence byte, then the value (R187). -/
def opt8 : Option Nat → List Field
  | none => [.u8 0, .absent 1]
  | some n => [.u8 1, .u8 n]
def opt16 : Option Nat → List Field
  | none => [.u8 0, .absent 2]
  | some n => [.u8 1, .u16 n]
def opt32 : Option Nat → List Field
  | none => [.u8 0, .absent 4]
  | some n => [.u8 1, .u32 n]

/-- A tag: concentrator, then channel (R187). -/
def tagFields (t : Tag) : List Field := [.u8 t.concentrator, .u8 t.channel]
def optTag : Option Tag → List Field
  | none => [.u8 0, .absent 2]
  | some t => .u8 1 :: tagFields t

/-- A list: its count, then its entries (R187). -/
def listOf {α : Type} (f : α → List Field) (l : List α) : List Field := .u8 l.length :: l.flatMap f

/-- A list of numbers two bytes wide. -/
def list16 (l : List Nat) : List Field := listOf (fun n => [.u16 n]) l

/-- An order serial, with 0 for none and no presence byte (R187). -/
def serialField (n : Option Nat) : Field := .u16 (n.getD 0)

/-- A set of notice classes (R187). -/
def setField (n : NoticeSet) : Field := .u8 n.toNat

end Sys2Proof.Machine
end

