-- ==== Sys2Proof/Machine/Ops.lean ====
section
/-! DEFINITION. Operations several blocks share: the derived properties of a valve (R5), the period code
(R174), matching of tags (R32), the area of a valve, and the taking of a request at the port (R183). -/

namespace Sys2Proof.Machine

/-! ## Derived properties -/

/-- Wanted position: CLOSED if the hold count is above 0, otherwise the normal position (R5). -/
def Valve.wanted (a : Valve) : Position := if 0 < a.hold then .closed else a.normal

/-- A reported position passes gas unless it is CLOSED (R5). -/
def Reported.passesGas (r : Reported) : Bool := r != .closed

/-- Passes gas: the reported position is other than CLOSED (R5). -/
def Valve.passesGas (a : Valve) : Bool := a.reported.passesGas

/-- The reported position that equals a wanted one. -/
def Position.reported : Position → Reported
  | .opened => .opened
  | .closed => .closed

/-- The reported position equals the wanted position, as a whole value (R147). -/
def Valve.atWanted (a : Valve) : Bool := a.reported = a.wanted.reported

/-- One end of the valve names segment `n`. -/
def Valve.ends (a : Valve) (n : Nat) : Bool := a.endA = some n || a.endB = n

/-- The hour of day of a network second (00 §1.6). -/
def hourOf (second : Nat) : Nat := second % 86400 / 3600

/-- The period code: day class × 32 + hour of day (R174). -/
def periodCode (c : Clock) : Nat := c.dayClass * 32 + hourOf c.second

/-- A concentrator's record: one that is not listed is as cold reset left it (R34). -/
def concentrator (s : State) (n : Nat) : Concentrator :=
  (Table.at? s.concentrators n).getD Concentrator.reset

/-- Write a concentrator's record; one equal to its cold-reset value is not listed. -/
def setConcentrator (n : Nat) (c : Concentrator) (s : State) : State :=
  s.setConcentrators
    (if c = Concentrator.reset then Table.del s.concentrators n else Table.put s.concentrators n c)

/-- The point in use whose tag equals a tag (R32). -/
def pointByTag (s : State) (t : Tag) : Option Nat := (Table.which s.points (fun p => p.tag = t)).head?

/-- The REMOTE valve in use whose tag equals a tag (R32). -/
def valveByTag (s : State) (t : Tag) : Option Nat :=
  (Table.which s.valves (fun v => v.operation = .remote && v.tag = some t)).head?

/-- The model state and the stop count, as READ SEGMENT and READ VALVE carry them (R23, R24). -/
def modelFigures (s : State) : List Field := [.u8 s.model.code, .u16 s.stopCount]

/-- The plans in use whose active list names valve `v`. -/
def plansHolding (s : State) (v : Nat) : List Nat := Table.which s.plans (fun p => p.active.contains v)

/-! ## The request port -/

/-- Discard a request frame: it changes no record and the discarded flag becomes yes (R185). -/
def discardFrame (s : State) : State := s.setPort { s.port with discarded := true }

/-- The port goes to ACTING with the reply that is to be placed (R183). -/
def acting (tag : Nat) (r : Reply) (s : State) : State :=
  s.setPort { s.port with state := .acting tag r }

/-- What a request transaction does at the port (R183, R193): nothing while RESET is held; nothing to the end
of a transaction that was in progress when RESET rose; in IDLE the frame is taken and acted on; in ACTING
and ANSWERED it is discarded. `frameOk` is the outcome of the port tests of R188, and `tag` is the request
tag the answer carries. -/
def atPort (frameOk : Option Result) (tag : Nat) (act : State → State × Reply) (s : State) : State :=
  if s.port.held then s
  else if s.port.skip then s.setPort { s.port with skip := false }
  else
    match s.port.state with
    | .idle =>
      match frameOk with
      | some r => acting tag (.refusal r) s
      | none =>
        let out := act s
        acting tag out.2 out.1
    | _ => discardFrame s

/-- What is cleared at the placing of the answer, set by a request that clears what it reports (R189). -/
def clearOnPlace (f : PlaceClear → PlaceClear) (s : State) : State :=
  s.setPort { s.port with onPlace := f s.port.onPlace }

/-- A refused request: it changes no record (00 §1.6). -/
def refuse (r : Result) (s : State) : State × Reply := (s, .refusal r)

/-- Act on a request: the first failed test refuses it, otherwise `apply` carries it out. -/
def tested (tests : List (Bool × Result)) (apply : State → State × Reply) (s : State) : State × Reply :=
  match firstFailure tests with
  | some r => refuse r s
  | none => apply s

end Sys2Proof.Machine
end

