-- ==== Sys2Proof/WellFormed.lean ====
section
/-! DEFINITION. Which commands can reach the part: a request's fields fit the widths of R187, its desk passes
step 3 of R188 and its lists keep the capacities of step 5 of R188. A value that fits its width but is
outside its range is well formed: the request's own tests answer it. -/

namespace Sys2Proof

/-- A value of a field one byte wide. -/
def fits8 (n : Nat) : Bool := n < 256
/-- A value of a field two bytes wide. -/
def fits16 (n : Nat) : Bool := n < 65536
/-- A value of a field four bytes wide. -/
def fits32 (n : Nat) : Bool := n < 4294967296
/-- A tag, one byte for each half. -/
def Tag.fits (t : Tag) : Bool := fits8 t.concentrator && fits8 t.channel
/-- Step 3 of R188, and a request tag of one byte. -/
def Header.fits (h : Header) : Bool := h.desk < 16 && fits8 h.tag
/-- The signed byte of an adjustment (R187). -/
def fitsSigned8 (z : Int) : Bool := -128 ≤ z && z ≤ 127

/-- The command can be spelled on the pins of the part (R186, R187, R188 steps 3 and 5, R194). -/
def wellFormed : Instr → Bool
  | .defineSegment h n t z c => h.fits && fits16 n && fits8 t && fits8 z && fits32 c
  | .defineValve h n k a b m o t r =>
    h.fits && fits16 n && fits8 k && a.all fits16 && b.all fits16 && fits8 m && fits8 o && t.all Tag.fits && fits8 r
  | .openModel h => h.fits
  | .alterSegment h n z c => h.fits && fits16 n && z.all fits8 && c.all fits32
  | .splitSegment h n vs ps c =>
    h.fits && fits16 n && vs.length ≤ Config.segmentValveCapacity && vs.all fits16 &&
      ps.length ≤ Config.segmentPointCapacity && ps.all fits16 && fits32 c
  | .mergeAtStop h v => h.fits && fits16 v
  | .readSegment h n => h.fits && fits16 n
  | .readValve h v => h.fits && fits16 v
  | .readStrays h c => h.fits && c.all fits8
  | .linkReset h => h.fits
  | .definePoint h n t g z gn gr k hy st =>
    h.fits && fits16 n && t.fits && fits16 g && fits16 z && fits16 gn && fits8 gr && fits8 k && fits16 hy && fits8 st
  | .alterPoint h n z gn gr k hy st =>
    h.fits && fits16 n && z.all fits16 && gn.all fits16 && gr.all fits8 && k.all fits8 && hy.all fits16 && st.all fits8
  | .setProfile h e g pv pm ll l hi hh _ =>
    h.fits && fits8 e && fits8 g && fits8 pv && fits8 pm && fits32 ll && fits32 l && fits32 hi && fits32 hh
  | .readTrace h => h.fits
  | .readOutage h o st => h.fits && fits8 o && fits16 st
  | .reportRelit h g n => h.fits && fits16 g && fits16 n
  | .reportCall h r g _ _ _ m => h.fits && fits32 r && fits16 g && m.all fits16
  | .regrade h i a => h.fits && fits16 i && fitsSigned8 a
  | .setAllowances h a b c => h.fits && fits16 a && fits16 b && fits16 c
  | .declareControlled h i => h.fits && fits16 i
  | .closeIncident h i => h.fits && fits16 i
  | .readIncident h i => h.fits && fits16 i
  | .offerNext h v m => h.fits && fits8 v && fits8 m
  | .acceptOffer h i => h.fits && fits16 i
  | .declineOffer h i => h.fits && fits16 i
  | .dispatchDirect h i => h.fits && fits16 i
  | .reportAttended h i => h.fits && fits16 i
  | .setOfferTime h t => h.fits && fits16 t
  | .createPlan h i t m w a k =>
    h.fits && i.all fits16 && t.all fits16 && fits8 m && w.all fits8 && a.all fits16 && k.all fits8
  | .deletePlan h p => h.fits && fits8 p
  | .lockDraft h p _ => h.fits && fits8 p
  | .addValve h p v => h.fits && fits8 p && fits16 v
  | .removeValve h p v => h.fits && fits8 p && fits16 v
  | .commitDraft h p => h.fits && fits8 p
  | .unlockDraft h p => h.fits && fits8 p
  | .releasePlan h p => h.fits && fits8 p
  | .readPlan h p => h.fits && fits8 p
  | .reportValve h v p => h.fits && fits16 v && fits8 p
  | .fetchOrder h => h.fits
  | .withdrawOrder h n => h.fits && fits16 n
  | .reissueValve h v => h.fits && fits16 v
  | .declareInoperable h v => h.fits && fits16 v
  | .restoreOperable h v => h.fits && fits16 v
  | .setOrderTimes h r c => h.fits && fits8 r && fits8 c
  | .readOrders h st sel => h.fits && fits8 st && fits8 sel
  | .setClock h n => h.fits && fits32 n
  | .setDayClass h d => h.fits && fits8 d
  | .setNoticeEnables h _ => h.fits
  | .getNotices h => h.fits
  | .peekNotices h => h.fits
  | .listChanged h c m => h.fits && fits8 c && fits8 m
  | .setDeskArea h d b l => h.fits && fits8 d && fits16 b && fits16 l
  | .malformedRequestFrame _ => true
  | .requestDiscarded => true
  | .answerPlaced => true
  | .readTransaction _ => true
  | .telemetryByte b => b.length = 8
  | .readingItem => true
  | .holdItem => true
  | .positionItem => true
  | .linkUpItem => true
  | .linkDownItem => true
  | .badItem => true
  | .publication => true
  | .secondEvent => true
  | .pointStale => true
  | .incidentOverdue => true
  | .offerExpiry => true
  | .orderTimeout => true
  | .windowEnd => true
  | .coldReset _ => true

end Sys2Proof
end

