-- ==== Sys2Proof/Machine/Frames.lean ====
section
/-! DEFINITION. The frames of the request port (R186 to R188): the bytes of an answer, the reading of a request
frame by the port tests, and the frame a host sends for a request. -/

namespace Sys2Proof.Machine

/-! ## Answer frames (R186, R187) -/

/-- The low byte of a number. -/
def byte (n : Nat) : Byte := BitVec.ofNat 8 n

/-- A two-byte number, most significant byte first (R186). -/
def bytes16 (n : Nat) : List Byte := [byte (n / 256), byte n]

/-- A four-byte number, most significant byte first (R186). -/
def bytes32 (n : Nat) : List Byte := [byte (n / 16777216), byte (n / 65536), byte (n / 256), byte n]

/-- The width of a field in bytes (R187). -/
def Field.width : Field → Nat
  | .u8 _ => 1
  | .u16 _ => 2
  | .u32 _ => 4
  | .s8 _ => 1
  | .absent w => w

/-- The bytes of a field that stands at a byte offset of the `number`-th answer. The value bytes of an optional
field that holds none are free (log 12). -/
def Field.bytes (number offset : Nat) : Field → List Byte
  | .u8 n => [byte n]
  | .u16 n => bytes16 n
  | .u32 n => bytes32 n
  | .s8 z => [BitVec.ofInt 8 z]
  | .absent w => (List.range w).map (fun k => Config.absentByte number (offset + k))

/-- The bytes of a body whose first field stands at a byte offset. -/
def bodyBytes (number : Nat) : Nat → List Field → List Byte
  | _, [] => []
  | offset, f :: rest => f.bytes number offset ++ bodyBytes number (offset + f.width) rest

/-- The length of a body in bytes. -/
def bodyLength (l : List Field) : Nat := (l.map Field.width).sum

/-- The flags byte of an answer: bit 0 CLAMPED, bit 1 REQUEST DISCARDED (R186). -/
def flagsByte (clamped discarded : Bool) : Byte :=
  byte ((if clamped then 1 else 0) + (if discarded then 2 else 0))

/-- The bytes of an answer frame (R186). -/
def AnswerFrame.bytes (f : AnswerFrame) : List Byte :=
  [byte f.tag, byte f.reply.result.value, flagsByte f.reply.clamped f.discarded] ++
    bytes16 (bodyLength f.reply.body) ++ bodyBytes f.number 5 f.reply.body

/-- The idle frame: tag 0, result 0, flags 0, body length 0 (R184). -/
def idleFrame : List Byte := [0, 0, 0, 0, 0]

/-- What SDO carries while `n` bytes are clocked out of a frame: beyond its end, 0 (R184). -/
def clockOut (frame : List Byte) (n : Nat) : List Byte := (frame ++ List.replicate n 0).take n

/-! ## Reading the fields of a request body (R187, R188 step 5) -/

/-- A reader takes a field off the front of a body, or finds that the body is too short. -/
abbrev Reader (α : Type) := List Byte → Option (α × List Byte)

/-- Read one field, then the rest of the body. -/
def Reader.bind {α β : Type} (r : Reader α) (f : α → Reader β) : Reader β := fun l =>
  match r l with
  | none => none
  | some (a, rest) => f a rest

/-- All fields are read: the body must be at its end. -/
def finish {α : Type} (a : α) : Reader α := fun l => if l = [] then some (a, []) else none

def read8 : Reader Nat
  | a :: l => some (a.toNat, l)
  | [] => none

def read16 : Reader Nat
  | a :: b :: l => some (a.toNat * 256 + b.toNat, l)
  | _ => none

def read32 : Reader Nat
  | a :: b :: c :: d :: l => some (a.toNat * 16777216 + b.toNat * 65536 + c.toNat * 256 + d.toNat, l)
  | _ => none

/-- A signed byte (R187). -/
def readSigned8 : Reader Int
  | a :: l => some (a.toInt, l)
  | [] => none

/-- A yes/no flag: any value but 0 is yes (R187). -/
def readFlag : Reader Bool
  | a :: l => some (a != 0, l)
  | [] => none

/-- A set of notice classes (R187). -/
def readSet : Reader NoticeSet
  | a :: l => some (a, l)
  | [] => none

def readTag : Reader Tag
  | a :: b :: l => some ({ concentrator := a.toNat, channel := b.toNat }, l)
  | _ => none

/-- An optional field: a presence byte, then the value, which is not examined where the byte is 0 (R187). -/
def readOpt {α : Type} (r : Reader α) : Reader (Option α) := fun l =>
  match readFlag l with
  | none => none
  | some (present, rest) =>
    match r rest with
    | none => none
    | some (a, rest) => some (if present then some a else none, rest)

/-- A count of entries (R187). -/
def readMany {α : Type} (r : Reader α) : Nat → Reader (List α)
  | 0, l => some ([], l)
  | n + 1, l =>
    match r l with
    | none => none
    | some (a, rest) =>
      match readMany r n rest with
      | none => none
      | some (as, rest) => some (a :: as, rest)

/-- A list whose count does not exceed its capacity (R187, R188 step 5). -/
def readList {α : Type} (capacity : Nat) (r : Reader α) : Reader (List α) := fun l =>
  match read8 l with
  | none => none
  | some (n, rest) => if n ≤ capacity then readMany r n rest else none

/-! ## The request catalogue: what the body of each request holds, in the order its chapter names it -/

/-- Requests 1 to 8, of the Network Model (chapter 1). -/
def networkBodies (h : Header) : List (Reader Instr) :=
  [ Reader.bind read16 fun a => Reader.bind read8 fun b => Reader.bind read8 fun c =>
      Reader.bind read32 fun d => finish (.defineSegment h a b c d),
    Reader.bind read16 fun a => Reader.bind read8 fun b => Reader.bind (readOpt read16) fun c =>
      Reader.bind (readOpt read16) fun d => Reader.bind read8 fun e => Reader.bind read8 fun f =>
      Reader.bind (readOpt readTag) fun g => Reader.bind read8 fun i =>
      finish (.defineValve h a b c d e f g i),
    finish (.openModel h),
    Reader.bind read16 fun a => Reader.bind (readOpt read8) fun b =>
      Reader.bind (readOpt read32) fun c => finish (.alterSegment h a b c),
    Reader.bind read16 fun a => Reader.bind (readList Config.segmentValveCapacity read16) fun b =>
      Reader.bind (readList Config.segmentPointCapacity read16) fun c => Reader.bind read32 fun d =>
      finish (.splitSegment h a b c d),
    Reader.bind read16 fun a => finish (.mergeAtStop h a),
    Reader.bind read16 fun a => finish (.readSegment h a),
    Reader.bind read16 fun a => finish (.readValve h a) ]

/-- Requests 9 to 16, of the Telemetry Intake, the Pressure Supervisor and the Supply Tracer (chapters 2 to 4). -/
def fieldBodies (h : Header) : List (Reader Instr) :=
  [ Reader.bind (readOpt read8) fun a => finish (.readStrays h a),
    finish (.linkReset h),
    Reader.bind read16 fun a => Reader.bind readTag fun b => Reader.bind read16 fun c =>
      Reader.bind read16 fun d => Reader.bind read16 fun e => Reader.bind read8 fun f =>
      Reader.bind read8 fun g => Reader.bind read16 fun i => Reader.bind read8 fun j =>
      finish (.definePoint h a b c d e f g i j),
    Reader.bind read16 fun a => Reader.bind (readOpt read16) fun b =>
      Reader.bind (readOpt read16) fun c => Reader.bind (readOpt read8) fun d =>
      Reader.bind (readOpt read8) fun e => Reader.bind (readOpt read16) fun f =>
      Reader.bind (readOpt read8) fun g => finish (.alterPoint h a b c d e f g),
    Reader.bind read8 fun a => Reader.bind read8 fun b => Reader.bind read8 fun c =>
      Reader.bind read8 fun d => Reader.bind read32 fun e => Reader.bind read32 fun f =>
      Reader.bind read32 fun g => Reader.bind read32 fun i => Reader.bind readFlag fun j =>
      finish (.setProfile h a b c d e f g i j),
    finish (.readTrace h),
    Reader.bind read8 fun a => Reader.bind read16 fun b => finish (.readOutage h a b),
    Reader.bind read16 fun a => Reader.bind read16 fun b => finish (.reportRelit h a b) ]

/-- Requests 17 to 28, of the Incident Register and the Dispatch Selector (chapters 5 and 6). -/
def incidentBodies (h : Header) : List (Reader Instr) :=
  [ Reader.bind read32 fun a => Reader.bind read16 fun b => Reader.bind readFlag fun c =>
      Reader.bind readFlag fun d => Reader.bind readFlag fun e => Reader.bind (readOpt read16) fun f =>
      finish (.reportCall h a b c d e f),
    Reader.bind read16 fun a => Reader.bind readSigned8 fun b => finish (.regrade h a b),
    Reader.bind read16 fun a => Reader.bind read16 fun b => Reader.bind read16 fun c =>
      finish (.setAllowances h a b c),
    Reader.bind read16 fun a => finish (.declareControlled h a),
    Reader.bind read16 fun a => finish (.closeIncident h a),
    Reader.bind read16 fun a => finish (.readIncident h a),
    Reader.bind read8 fun a => Reader.bind read8 fun b => finish (.offerNext h a b),
    Reader.bind read16 fun a => finish (.acceptOffer h a),
    Reader.bind read16 fun a => finish (.declineOffer h a),
    Reader.bind read16 fun a => finish (.dispatchDirect h a),
    Reader.bind read16 fun a => finish (.reportAttended h a),
    Reader.bind read16 fun a => finish (.setOfferTime h a) ]

/-- Requests 29 to 37, of the Plan Engine (chapter 7). -/
def planBodies (h : Header) : List (Reader Instr) :=
  [ Reader.bind (readOpt read16) fun a => Reader.bind (readOpt read16) fun b =>
      Reader.bind read8 fun c => Reader.bind (readOpt read8) fun d =>
      Reader.bind (readOpt read16) fun e => Reader.bind (readOpt read8) fun f =>
      finish (.createPlan h a b c d e f),
    Reader.bind read8 fun a => finish (.deletePlan h a),
    Reader.bind read8 fun a => Reader.bind readFlag fun b => finish (.lockDraft h a b),
    Reader.bind read8 fun a => Reader.bind read16 fun b => finish (.addValve h a b),
    Reader.bind read8 fun a => Reader.bind read16 fun b => finish (.removeValve h a b),
    Reader.bind read8 fun a => finish (.commitDraft h a),
    Reader.bind read8 fun a => finish (.unlockDraft h a),
    Reader.bind read8 fun a => finish (.releasePlan h a),
    Reader.bind read8 fun a => finish (.readPlan h a) ]

/-- Requests 38 to 45, of the Order Unit (chapter 8). -/
def orderBodies (h : Header) : List (Reader Instr) :=
  [ Reader.bind read16 fun a => Reader.bind read8 fun b => finish (.reportValve h a b),
    finish (.fetchOrder h),
    Reader.bind read16 fun a => finish (.withdrawOrder h a),
    Reader.bind read16 fun a => finish (.reissueValve h a),
    Reader.bind read16 fun a => finish (.declareInoperable h a),
    Reader.bind read16 fun a => finish (.restoreOperable h a),
    Reader.bind read8 fun a => Reader.bind read8 fun b => finish (.setOrderTimes h a b),
    Reader.bind read8 fun a => Reader.bind read8 fun b => finish (.readOrders h a b) ]

/-- Requests 46 to 52, of the Timebase, the Notice Unit and the Request Port (chapters 10 and 11). -/
def timeBodies (h : Header) : List (Reader Instr) :=
  [ Reader.bind read32 fun a => finish (.setClock h a),
    Reader.bind read8 fun a => finish (.setDayClass h a),
    Reader.bind readSet fun a => finish (.setNoticeEnables h a),
    finish (.getNotices h),
    finish (.peekNotices h),
    Reader.bind read8 fun a => Reader.bind read8 fun b => finish (.listChanged h a b),
    Reader.bind read8 fun a => Reader.bind read16 fun b => Reader.bind read16 fun c =>
      finish (.setDeskArea h a b c) ]

/-- What the body of each request holds, by the request catalogue (00 §1.8): request code 1 stands first. -/
def requestBodies (h : Header) : List (Reader Instr) :=
  networkBodies h ++ fieldBodies h ++ incidentBodies h ++ planBodies h ++ orderBodies h ++ timeBodies h

/-! ## Port tests (R188) -/

/-- What the port makes of the bytes of a request transaction: a refusal with the request tag its answer
carries, or the request that the frame spells. -/
inductive Parsed where
  | refused (tag : Nat) (r : Result)
  | passed (c : Instr)
deriving DecidableEq, Repr

/-- Steps 4 and 5 of R188, for a header that passed step 3. -/
def parseBody (h : Header) (code : Nat) (body : List Byte) : Parsed :=
  if 1 ≤ code ∧ code ≤ 52 then
    match ((requestBodies h)[code - 1]?).bind (fun r => r body) with
    | some (c, _) => .passed c
    | none => .refused h.tag .badField
  else .refused h.tag .unknownRequest

/-- The port tests of R188 on the bytes of a request transaction, the marker among them. -/
def parseFrame (l : List Byte) : Parsed :=
  match l with
  | marker :: desk :: code :: tag :: len :: body =>
    if marker != 165 then .refused 0 .badField
    else if body.length != len.toNat then .refused tag.toNat .badField
    else if 16 ≤ desk.toNat then .refused tag.toNat .badField
    else parseBody { desk := desk.toNat, tag := tag.toNat } code.toNat body
  | [marker, _, _, tag] => .refused (if marker = 165 then tag.toNat else 0) .badField
  | _ => .refused 0 .badField

/-! ## The frame a host sends for a request (R186, R187) -/

/-- One byte, as a value of an optional field. -/
def byte1 (n : Nat) : List Byte := [byte n]

def flagByte (b : Bool) : Byte := if b then 1 else 0

def tagBytes (t : Tag) : List Byte := [byte t.concentrator, byte t.channel]

/-- An optional field; where it holds none, the host sends 0 for the value bytes. -/
def writeOpt {α : Type} (width : Nat) (w : α → List Byte) : Option α → List Byte
  | none => 0 :: List.replicate width 0
  | some a => 1 :: w a

def writeList {α : Type} (w : α → List Byte) (l : List α) : List Byte := byte l.length :: l.flatMap w

/-- A request frame with its header (R186). -/
def frameOf (h : Header) (code : Nat) (body : List Byte) : List Byte :=
  [165, byte h.desk, byte code, byte h.tag, byte body.length] ++ body

/-- The request frame of a request; of a command that is no request, no bytes. -/
def requestFrame : Instr → List Byte
  | .defineSegment h a b c d => frameOf h 1 (bytes16 a ++ [byte b] ++ [byte c] ++ bytes32 d)
  | .defineValve h a b c d e f g i =>
    frameOf h 2 (bytes16 a ++ [byte b] ++ writeOpt 2 bytes16 c ++ writeOpt 2 bytes16 d ++ [byte e] ++
      [byte f] ++ writeOpt 2 tagBytes g ++ [byte i])
  | .openModel h => frameOf h 3 []
  | .alterSegment h a b c => frameOf h 4 (bytes16 a ++ writeOpt 1 byte1 b ++ writeOpt 4 bytes32 c)
  | .splitSegment h a b c d =>
    frameOf h 5 (bytes16 a ++ writeList bytes16 b ++ writeList bytes16 c ++ bytes32 d)
  | .mergeAtStop h a => frameOf h 6 (bytes16 a)
  | .readSegment h a => frameOf h 7 (bytes16 a)
  | .readValve h a => frameOf h 8 (bytes16 a)
  | .readStrays h a => frameOf h 9 (writeOpt 1 byte1 a)
  | .linkReset h => frameOf h 10 []
  | .definePoint h a b c d e f g i j =>
    frameOf h 11 (bytes16 a ++ tagBytes b ++ bytes16 c ++ bytes16 d ++ bytes16 e ++ [byte f] ++ [byte g] ++
      bytes16 i ++ [byte j])
  | .alterPoint h a b c d e f g =>
    frameOf h 12 (bytes16 a ++ writeOpt 2 bytes16 b ++ writeOpt 2 bytes16 c ++ writeOpt 1 byte1 d ++
      writeOpt 1 byte1 e ++ writeOpt 2 bytes16 f ++ writeOpt 1 byte1 g)
  | .setProfile h a b c d e f g i j =>
    frameOf h 13 ([byte a] ++ [byte b] ++ [byte c] ++ [byte d] ++ bytes32 e ++ bytes32 f ++ bytes32 g ++
      bytes32 i ++ [flagByte j])
  | .readTrace h => frameOf h 14 []
  | .readOutage h a b => frameOf h 15 ([byte a] ++ bytes16 b)
  | .reportRelit h a b => frameOf h 16 (bytes16 a ++ bytes16 b)
  | .reportCall h a b c d e f =>
    frameOf h 17 (bytes32 a ++ bytes16 b ++ [flagByte c] ++ [flagByte d] ++ [flagByte e] ++
      writeOpt 2 bytes16 f)
  | .regrade h a b => frameOf h 18 (bytes16 a ++ [BitVec.ofInt 8 b])
  | .setAllowances h a b c => frameOf h 19 (bytes16 a ++ bytes16 b ++ bytes16 c)
  | .declareControlled h a => frameOf h 20 (bytes16 a)
  | .closeIncident h a => frameOf h 21 (bytes16 a)
  | .readIncident h a => frameOf h 22 (bytes16 a)
  | .offerNext h a b => frameOf h 23 ([byte a] ++ [byte b])
  | .acceptOffer h a => frameOf h 24 (bytes16 a)
  | .declineOffer h a => frameOf h 25 (bytes16 a)
  | .dispatchDirect h a => frameOf h 26 (bytes16 a)
  | .reportAttended h a => frameOf h 27 (bytes16 a)
  | .setOfferTime h a => frameOf h 28 (bytes16 a)
  | .createPlan h a b c d e f =>
    frameOf h 29 (writeOpt 2 bytes16 a ++ writeOpt 2 bytes16 b ++ [byte c] ++ writeOpt 1 byte1 d ++
      writeOpt 2 bytes16 e ++ writeOpt 1 byte1 f)
  | .deletePlan h a => frameOf h 30 ([byte a])
  | .lockDraft h a b => frameOf h 31 ([byte a] ++ [flagByte b])
  | .addValve h a b => frameOf h 32 ([byte a] ++ bytes16 b)
  | .removeValve h a b => frameOf h 33 ([byte a] ++ bytes16 b)
  | .commitDraft h a => frameOf h 34 ([byte a])
  | .unlockDraft h a => frameOf h 35 ([byte a])
  | .releasePlan h a => frameOf h 36 ([byte a])
  | .readPlan h a => frameOf h 37 ([byte a])
  | .reportValve h a b => frameOf h 38 (bytes16 a ++ [byte b])
  | .fetchOrder h => frameOf h 39 []
  | .withdrawOrder h a => frameOf h 40 (bytes16 a)
  | .reissueValve h a => frameOf h 41 (bytes16 a)
  | .declareInoperable h a => frameOf h 42 (bytes16 a)
  | .restoreOperable h a => frameOf h 43 (bytes16 a)
  | .setOrderTimes h a b => frameOf h 44 ([byte a] ++ [byte b])
  | .readOrders h a b => frameOf h 45 ([byte a] ++ [byte b])
  | .setClock h a => frameOf h 46 (bytes32 a)
  | .setDayClass h a => frameOf h 47 ([byte a])
  | .setNoticeEnables h a => frameOf h 48 ([a])
  | .getNotices h => frameOf h 49 []
  | .peekNotices h => frameOf h 50 []
  | .listChanged h a b => frameOf h 51 ([byte a] ++ [byte b])
  | .setDeskArea h a b c => frameOf h 52 ([byte a] ++ bytes16 b ++ bytes16 c)
  | .malformedRequestFrame _ => []
  | .requestDiscarded => []
  | .answerPlaced => []
  | .readTransaction _ => []
  | .telemetryByte _ => []
  | .readingItem => []
  | .holdItem => []
  | .positionItem => []
  | .linkUpItem => []
  | .linkDownItem => []
  | .badItem => []
  | .publication => []
  | .secondEvent => []
  | .pointStale => []
  | .incidentOverdue => []
  | .offerExpiry => []
  | .orderTimeout => []
  | .windowEnd => []
  | .coldReset _ => []

end Sys2Proof.Machine
end

