-- ==== Sys2Proof/Machine/Orders.lean ====
section
/-! DEFINITION. The Order Unit's operations on the order list (chapter 8): making, withdrawing, completing and
timing out orders, wanted changes, and the waiting valves. -/

namespace Sys2Proof.Machine

/-- The action that brings a valve to a wanted position (R146). -/
def Position.action : Position → OrderAction
  | .opened => .opening
  | .closed => .close

/-- The reported position that completes an action (R151). -/
def OrderAction.target : OrderAction → Reported
  | .opening => .opened
  | .close => .closed

/-- The channel of a valve's orders (R145). -/
def Operation.channel : Operation → Channel
  | .remote => .remote
  | .manual => .crew

/-- The serial after `n`, wrapping from 65535 to 1 (R146). -/
def serialAfter (n : Nat) : Nat := if 65535 ≤ n then 1 else n + 1

/-- Skip serials held by an order in the list (R146). The list holds at most `fuel` of them. -/
def skipSerials (orders : Table Order) : Nat → Nat → Nat
  | 0, n => n
  | fuel + 1, n => if Table.has orders n then skipSerials orders fuel (serialAfter n) else n

/-- Change a valve's record and mark the change (R144). -/
def changeValve (v : Nat) (f : Valve → Valve) (s : State) : State := markValve v (s.updValve v f)

/-- An order for valve `v` is queued, or the valve becomes WAITING where the list is full (R146). -/
def queueOrder (v : Nat) (s : State) : State :=
  match Table.at? s.valves v with
  | none => s
  | some a =>
    if s.orders.length < Config.orderCapacity then
      let n := s.orderUnit.nextSerial
      let o : Order :=
        { valve := v, action := a.wanted.action, channel := a.operation.channel, state := .queued,
          queued := s.now, fetched := none, expiry := none }
      let orders := Table.put s.orders n o
      changeValve v (fun a => { a with orderState := .queued, orderSerial := some n, waitingSince := none })
        ((s.setOrders orders).setOrderUnit
          { s.orderUnit with nextSerial := skipSerials orders orders.length (serialAfter n) })
    else
      changeValve v (fun a => { a with orderState := .waiting, orderSerial := none, waitingSince := some s.now }) s

/-- The valve takes order state NONE or STALLED, with no serial, no follow-up and no waiting since (R144). -/
def settleOrder (st : OrderStatus) (v : Nat) (s : State) : State :=
  changeValve v (fun a =>
    { a with orderState := st, orderSerial := none, followUp := false, waitingSince := none }) s

/-- Take the valve's order out of the list (R147, R151, R154, R156). -/
def removeOrder (a : Valve) (s : State) : State :=
  match a.orderSerial with
  | none => s
  | some n => s.setOrders (Table.del s.orders n)

/-- Queue the order a valve is owed, if it is operable and not at its wanted position; otherwise its order
state becomes NONE (R147, R151, R157, R160). -/
def queueIfOwed (v : Nat) (s : State) : State :=
  if Table.test s.valves v (fun a => !a.inoperable && !a.atWanted) then queueOrder v s else settleOrder .none v s

/-- The waiting valves, with their waiting since. -/
def waitingValves (s : State) : List (Nat × Nat) :=
  s.valves.filterMap (fun r =>
    if r.2.orderState = .waiting then some (r.2.waitingSince.getD 0, r.1) else none)

/-- Earliest second first, then lowest number (R160). -/
def earlier (x y : Nat × Nat) : Bool := x.1 < y.1 || (x.1 = y.1 && x.2 < y.2)

/-- Draw waiting valves while the list has room (R160). Each drawing takes one valve out of WAITING. -/
def drawWaitingFrom : Nat → State → State
  | 0, s => s
  | fuel + 1, s =>
    if s.orders.length < Config.orderCapacity then
      match leastBy earlier (waitingValves s) with
      | none => s
      | some w => drawWaitingFrom fuel (queueIfOwed w.2 (settleOrder .none w.2 s))
    else s

/-- The waiting valves are drawn (R160). -/
def drawWaiting (s : State) : State := drawWaitingFrom (waitingValves s).length s

/-- A wanted change of one valve is taken by its order state (R147). -/
def wantedChange (v : Nat) (s : State) : State :=
  match Table.at? s.valves v with
  | none => s
  | some a =>
    if a.orderState = .fetched then
      if a.followUp then s else changeValve v (fun a => { a with followUp := true }) s
    else if a.inoperable then s
    else
      match a.orderState with
      | .queued => queueIfOwed v (settleOrder .none v (removeOrder a s))
      | .waiting => s
      | _ => if a.orderState = .none && a.atWanted then s else queueIfOwed v s

/-- A wanted change of one of the valves withdraws a QUEUED order (R147). -/
def withdraws (s : State) (l : List Nat) : Bool :=
  l.any (fun v => Table.test s.valves v (fun a => a.orderState = .queued && !a.inoperable))

/-- The wanted changes of one transfer or release, which are one hand-off (R147). Where it has withdrawn an order
the waiting valves are drawn, once, after the last of its changes (R160); a hand-off that has withdrawn none
draws none, and leaves a place that its request freed before to the drawing at the request's end (R158; log 32). -/
def wantedChanges (l : List Nat) (s : State) : State :=
  let s1 := l.foldl (fun s v => wantedChange v s) s
  if withdraws s l then drawWaiting s1 else s1

/-- An order completes: it leaves the list, and a follow-up order may be owed (R151). -/
def completeOrder (v : Nat) (a : Valve) (o : Order) (s : State) : State :=
  let s1 := settleOrder .none v (removeOrder a s)
  if o.state = .fetched && a.followUp then queueIfOwed v s1 else s1

/-- Fetch order: CLOSE before OPEN, then the earliest queued second, then the lowest serial (R153). -/
def fetchBefore (x y : Nat × Order) : Bool :=
  let k (r : Nat × Order) := (r.2.action.code, r.2.queued, r.1)
  (k x).1 < (k y).1 ||
    ((k x).1 = (k y).1 && earlier (k x).2 (k y).2)

/-- An order meets the conditions of a desk's fetch (R153). -/
def fetchable (s : State) (desk : Nat) (o : Order) : Bool :=
  o.state = .queued &&
    (desk = 0 || Table.test s.valves o.valve (fun a => a.inWindow s desk)) &&
    !(o.channel = .remote &&
      Table.test s.valves o.valve (fun a => a.tag.any (fun t => (concentrator s t.concentrator).state = .down)))

/-- ORDER FAILED is set on every plan whose active list names the valve (R139, R154). -/
def failPlans (v : Nat) (s : State) : State :=
  (Table.which s.plans (fun p => p.activeState != .idle && p.active.contains v && !p.orderFailed)).foldl
    (fun s p => markPlan p (s.updPlan p (fun q => { q with orderFailed := true }))) s

/-- Valve `v` is STALLED. -/
def stalled (s : State) (v : Nat) : Bool := Table.test s.valves v (fun a => a.orderState = .stalled)

/-- ORDER FAILED becomes no on every plan whose active list names the valve and no STALLED valve
(R139, R157, R159). -/
def clearFailed (v : Nat) (s : State) : State :=
  (Table.which s.plans (fun p => p.orderFailed && p.active.contains v && !p.active.any (stalled s))).foldl
    (fun s p => markPlan p (s.updPlan p (fun q => { q with orderFailed := false }))) s

/-- One FETCHED order times out: it leaves the list, its valve is STALLED, its plans' ORDER FAILED is set
(R154 steps 1-3). -/
def timeOutOrder (n : Nat) (s : State) : State :=
  match Table.at? s.orders n with
  | none => s
  | some o => failPlans o.valve (settleOrder .stalled o.valve (s.setOrders (Table.del s.orders n)))

/-- The Order Unit's work at a second event (R154). -/
def timeOutOrders (s : State) : State :=
  let expired := s.orders.filter (fun r => r.2.state = .fetched && r.2.expiry.any (fun e => e ≤ s.now))
  match expired with
  | [] => s
  | _ =>
    let last := expired.foldl (fun m r => max m r.2.valve) 0
    let s1 := (Table.keys expired).foldl (fun s n => timeOutOrder n s) s
    drawWaiting
      (raise .order (s1.setOrderUnit { s1.orderUnit with timeout := { set := true, valve := some last } }))

end Sys2Proof.Machine
end

