-- ==== Sys2Proof/Machine/Register.lean ====
section
/-! DEFINITION. The Incident Register's operations: score, grade and deadline (R95-R99), open incident counts
(R87), the making of incidents (R90, R93) and safety (R102). -/

namespace Sys2Proof.Machine

/-- The incidents in use that name a segment: its open incidents (R87). -/
def openIncidents (s : State) (seg : Nat) : List Nat := Table.which s.incidents (fun i => i.segment = seg)

/-- Set a segment's open incident count afresh, flagging the segment if the count changes (R87). -/
def recountIncidents (seg : Nat) (s : State) : State :=
  let n := min 255 (openIncidents s seg).length
  if Table.test s.segments seg (fun g => g.openIncidents != n) then
    flag .segment seg (s.updSegment seg (fun g => { g with openIncidents := n }))
  else s

/-- The points on a segment's point list whose condition is OK and whose band is one of those given. -/
def hasBand (s : State) (g : Segment) (bands : List Band) : Bool :=
  g.pointList.any (fun p => Table.test s.points p (fun q => q.condition = .ok && bands.contains q.band))

def Tier.base : Tier → Nat
  | .lp => 10
  | .mp => 30
  | .ip => 50

/-- The sum of the factors of R95, before it is taken into 0-255. -/
def scoreSum (s : State) (i : Incident) : Int :=
  let seg := Table.at? s.segments i.segment
  let base : Nat := (seg.map (fun g => g.tier.base)).getD 0
  let calls : Nat := 12 * min i.callCount 5
  let indoor : Nat := if i.indoor then 40 else 0
  let low : Nat := if seg.any (fun g => g.supply = .supplied && hasBand s g [.low, .lowLow]) then 25 else 0
  let severe : Nat :=
    if i.kind = .pressure && seg.any (fun g => hasBand s g [.lowLow, .highHigh]) then 50 else 0
  let passing : Nat := if i.plan.any (fun p => Table.test s.plans p (fun q => q.verdict = .passing)) then 40 else 0
  let damage : Nat := if i.damage then 20 else 0
  (base + calls + indoor + low + severe + passing + damage : Nat) + i.adjustment

/-- The score of an incident (R95). -/
def score (s : State) (i : Incident) : Nat := min 255 (scoreSum s i).toNat

/-- The grade that follows from a score (R96). -/
def gradeOf (n : Nat) : Grade := if 80 ≤ n then .a else if 40 ≤ n then .b else .c

/-- The allowance of a grade, in minutes (R96, R97). -/
def allowance (s : State) : Grade → Nat
  | .a => s.register.allowanceA
  | .b => s.register.allowanceB
  | .c => s.register.allowanceC

/-- The candidate deadline: first report second plus the grade's allowance (R98). -/
def candidateDeadline (s : State) (first : Nat) (g : Grade) : Nat := addSeconds first (allowance s g * 60)

/-- Score `n` with its grade and a deadline are written; overdue becomes yes at once where the deadline is at or
before now and the incident is not ATTENDED (R98). -/
def Incident.gradedBy (i : Incident) (n deadline now : Nat) : Incident :=
  { i with score := n, grade := gradeOf n, deadline := deadline,
           overdue := i.overdue || (deadline ≤ now && i.attendance != .attended) }

/-- The incident as a regrade leaves it (R98): the deadline is the earlier of its present value and the candidate. -/
def regraded (s : State) (i : Incident) : Incident :=
  let n := score s i
  i.gradedBy n (min i.deadline (candidateDeadline s i.firstReport (gradeOf n))) s.now

/-- Regrade incident `n` (R98). The flag is set and INCIDENT raised only where something changed. -/
def regradeIncident (n : Nat) (s : State) : State :=
  match Table.at? s.incidents n with
  | none => s
  | some i => if regraded s i = i then s else markIncident n (s.putIncident n (regraded s i))

/-- A regrade request: regrade every open incident of a segment (R99). -/
def regradeSegment (seg : Nat) (s : State) : State :=
  (openIncidents s seg).foldl (fun s n => regradeIncident n s) s

/-- Regrade the incident a plan names, if it names one. -/
def regradePlanIncident (i : Option Nat) (s : State) : State :=
  match i with
  | none => s
  | some n => regradeIncident n s

/-- A new incident scored, graded and given its deadline, which is the candidate (R90, R98; log 15). -/
def graded (s : State) (i : Incident) : Incident :=
  let n := score s i
  i.gradedBy n (candidateDeadline s i.firstReport (gradeOf n)) s.now

/-- Make an incident in slot `n` (R90, R93). -/
def makeIncident (n : Nat) (i : Incident) (s : State) : State :=
  markIncident n (recountIncidents i.segment (s.putIncident n (graded s i)))

/-- The values of R86 common to both makings. -/
def newIncident (s : State) (kind : IncidentKind) (seg : Nat) : Incident :=
  { kind := kind, segment := seg, firstReport := s.now, deadline := 0, score := 0, grade := .c,
    overdue := false, indoor := false, damage := false, callCount := 0, entries := [],
    attendance := .unassigned, offerDesk := none, offerExpiry := none, safety := .opened,
    plan := none, adjustment := 0 }

/-- A pressure-incident request for a segment (R93, R94). -/
def pressureRequest (seg : Nat) (s : State) : State :=
  if (openIncidents s seg) != [] then regradeSegment seg s
  else
    match Table.lowestFree s.incidents Config.incidentSlots with
    | some n => makeIncident n (newIncident s .pressure seg) s
    | none =>
      -- A refusal that comes before a READ INCIDENT's answer is placed is cleared with it (R94; log 9).
      raise .pressure (s.setRegister { s.register with full := true, lastRefused := some seg })

/-! ## Safety -/

/-- The plan events that move an incident's safety (R102). -/
inductive PlanEvent where
  | leavesIdle
  | becomesTight
  | becomesPassing
  | tightToIssuing
deriving DecidableEq, Repr

/-- The table of R102. -/
def safetyAfter : PlanEvent → Safety → Safety
  | .leavesIdle, .opened => .makingSafe
  | .leavesIdle, .makingSafe => .makingSafe
  | .leavesIdle, .controlled => .controlled
  | .becomesTight, _ => .controlled
  | .becomesPassing, _ => .makingSafe
  | .tightToIssuing, _ => .makingSafe

/-- Set an incident's safety; a change flags it and raises INCIDENT (R102, R103). -/
def setSafety (n : Nat) (f : Safety → Safety) (s : State) : State :=
  match Table.at? s.incidents n with
  | none => s
  | some i => if f i.safety = i.safety then s else markIncident n (s.putIncident n { i with safety := f i.safety })

/-- Hand a plan event to the incident the plan names; a plan that names none hands nothing (R102). -/
def planEvent (e : PlanEvent) (i : Option Nat) (s : State) : State :=
  match i with
  | none => s
  | some n => setSafety n (safetyAfter e) s

end Sys2Proof.Machine
end

