-- ==== Sys2Proof/Machine/Verify.lean ====
section
/-! DEFINITION. The Verification Unit (chapter 9) and the Plan Engine's writing of a verdict (R135). -/

namespace Sys2Proof.Machine

/-- The Plan Engine writes the verdict of a plan in SECURED and sets the active state (R135). -/
def setVerdict (p : Nat) (v : Verdict) (s : State) : State :=
  match Table.at? s.plans p with
  | none => s
  | some q =>
    if q.activeState != .secured then s
    else
      match v with
      | .tight =>
        planEvent .becomesTight q.incident
          (markPlan p (s.putPlan p { q with verdict := .tight, activeState := .tight }))
      | .passing =>
        regradePlanIncident q.incident
          (planEvent .becomesPassing q.incident
            (markPlan p (s.putPlan p { q with verdict := .passing, activeState := .passing })))
      | .untested => markPlan p (s.putPlan p { q with verdict := .untested })
      | .none => s

/-- Write the test of a plan slot. -/
def setTest (p : Nat) (t : DecayTest) (s : State) : State := s.updPlan p (fun q => { q with test := t })

/-- The entries of a starting test: one for each point of the target's point list that is OK and valid (R164). -/
def startEntries (s : State) (target : Nat) : List TestEntry :=
  let points := ((Table.at? s.segments target).map (fun g => g.pointList)).getD []
  points.filterMap (fun n =>
    match Table.at? s.points n with
    | some { condition := .ok, valid := true, lastPressure := some p, .. } =>
      some { point := n, p0 := p, latest := p, state := .testing }
    | _ => none)

/-- Start a plan's test (R164). With no entry it ends at once and the verdict is UNTESTED. -/
def startTest (p : Nat) (s : State) : State :=
  match Table.at? s.plans p with
  | none => s
  | some q =>
    let entries := startEntries s q.target
    let d : TestData := { t0 := s.now, windowEnd := addSeconds s.now (q.window * 60), entries := entries }
    if entries = [] then setVerdict p .untested (setTest p (.ended d) s)
    else setTest p (.running d) s

/-- The entry of a TESTING point in a RUNNING test, if there is one (R165). -/
def testingEntry (t : DecayTest) (point : Nat) : Option TestEntry :=
  match t with
  | .running d => d.entries.find? (fun e => e.point = point && e.state = .testing)
  | _ => none

/-- Change the entry of a point. -/
def TestData.setEntry (d : TestData) (point : Nat) (f : TestEntry → TestEntry) : TestData :=
  { d with entries := d.entries.map (fun e => if e.point = point then f e else e) }

/-- Drop a TESTING entry of one plan's test (R166). With none left TESTING the test ends UNTESTED. -/
def dropEntry (point p : Nat) (s : State) : State :=
  match Table.at? s.plans p with
  | none => s
  | some q =>
    match q.test, testingEntry q.test point with
    | .running d, some _ =>
      let d' := d.setEntry point (fun e => { e with state := .dropped })
      if d'.entries.any (fun e => e.state = .testing) then markPlan p (setTest p (.running d') s)
      else setVerdict p .untested (markPlan p (setTest p (.ended d') s))
    | _, _ => s

/-- A change of a point's condition to STALE, SENSOR FAULT or OVER RANGE reaches every test (R166). -/
def dropPoint (point : Nat) (s : State) : State :=
  (Table.keys s.plans).foldl (fun s p => dropEntry point p s) s

/-- A converted reading reaches one plan's test (R165). -/
def testReading (point pressure : Nat) (c : Condition) (p : Nat) (s : State) : State :=
  match Table.at? s.plans p with
  | none => s
  | some q =>
    match q.test, testingEntry q.test point with
    | .running d, some e =>
      if c = .overRange then dropEntry point p s
      else
        let d' := d.setEntry point (fun e => { e with latest := pressure })
        if e.p0 + q.rise < pressure then setVerdict p .passing (setTest p (.ended d') s)
        else setTest p (.running d') s
    | _, _ => s

/-- A converted reading reaches every test that holds a TESTING entry for its point (R165). -/
def testReadings (point pressure : Nat) (c : Condition) (s : State) : State :=
  (Table.keys s.plans).foldl (fun s p => testReading point pressure c p s) s

/-- The keep threshold u of an entry (R167). -/
def keepThreshold (p0 keep : Nat) : Nat := p0 * keep / 256

/-- The verdict of the entries still TESTING at the window end (R167). -/
def windowVerdict (d : TestData) (keep : Nat) : Verdict :=
  if d.entries.all (fun e => e.state = .dropped || e.latest ≤ keepThreshold e.p0 keep) then .tight else .passing

/-- The window end of one plan's test, where it is reached (R167). -/
def endWindow (p : Nat) (s : State) : State :=
  match Table.at? s.plans p with
  | none => s
  | some q =>
    match q.test with
    | .running d =>
      if d.windowEnd ≤ s.now then setVerdict p (windowVerdict d q.keep) (setTest p (.ended d) s) else s
    | _ => s

/-- The Verification Unit's work at a second event (R167). -/
def endWindows (s : State) : State := (Table.keys s.plans).foldl (fun s p => endWindow p s) s

/-- A point has a TESTING entry in a RUNNING test (R42 step 5). -/
def underTest (s : State) (point : Nat) : Bool :=
  s.plans.any (fun r => (testingEntry r.2.test point).isSome)

end Sys2Proof.Machine
end

