-- ==== Sys2Proof/Machine/Engine.lean ====
section
/-! DEFINITION. The Plan Engine (chapter 7): hold changes, transfers, re-evaluation and release. -/

namespace Sys2Proof.Machine

/-! ## Hold changes (R119) -/

/-- Raise or lower one valve's hold by `f`; each change of a hold count flags the valve. -/
def changeHold (f : Nat → Nat) (s : State) (v : Nat) : State :=
  flag .valve v (s.updValve v (fun a => { a with hold := f a.hold }))

/-- All the hold changes of one transfer or release, made together. -/
def changeHolds (raised lowered : List Nat) (s : State) : State :=
  lowered.foldl (changeHold Nat.pred) (raised.foldl (changeHold Nat.succ) s)

/-- The wanted position of a valve slot. -/
def wantedOf (s : State) (v : Nat) : Option Position := (Table.at? s.valves v).map Valve.wanted

/-- The valves whose wanted position a hold change moved, in the order in which they are handed on: first those
that became wanted OPEN, then those that became wanted CLOSED, each in ascending number (R119). -/
def wantedMoved (before after : State) (l : List Nat) : List Nat :=
  let moved := (sortNat l).filter (fun v => wantedOf before v != wantedOf after v)
  moved.filter (fun v => wantedOf after v = some .opened) ++ moved.filter (fun v => wantedOf after v = some .closed)

/-! ## Conditions of a plan -/

/-- Every valve of a list is reported CLOSED. -/
def allClosed (s : State) (l : List Nat) : Bool :=
  l.all (fun v => Table.test s.valves v (fun a => a.reported = .closed))

/-- The plan's mode accepts a transfer in an active state (R130). -/
def PlanMode.accepts : PlanMode → ActiveState → Bool
  | .cumulative, .idle => true
  | .cumulative, .issuing => false
  | .cumulative, .secured => true
  | .cumulative, .tight => true
  | .cumulative, .passing => true
  | .cumulative, .releasing => false
  | .replace, .releasing => false
  | .replace, _ => true

/-- A committed draft with a list waits, and the active state accepts it (R130). -/
def Plan.ready (q : Plan) : Bool :=
  q.draftState = .committed && q.draft != [] && q.mode.accepts q.activeState

/-- A valve of a RELEASING plan is settled (R138). -/
def settled (s : State) (v : Nat) : Bool :=
  Table.test s.valves v (fun a => 0 < a.hold || a.atWanted || a.inoperable)

/-- The plans in RELEASING, other than `p`, whose active lists name one of the valves (R132, R136). -/
def releasingOthers (s : State) (p : Nat) (l : List Nat) : List Nat :=
  (Table.keys s.plans).filter (fun n => n != p &&
    Table.test s.plans n (fun q => q.activeState = .releasing && q.active.any l.contains))

/-! ## Transfer (R131, R132) -/

/-- The plan record as steps 3 to 6 of R131 leave it. -/
def transferred (s : State) (q : Plan) : Plan :=
  { q with
    active := q.draft
    draftState := .empty
    editor := none
    draft := []
    verdict := .none
    test := .none
    activeState := if allClosed s q.draft then .secured else .issuing
    needsRevision := q.draft.any (fun v => Table.test s.valves v (fun a => a.inoperable)) }

/-- A transfer of plan `p` but for the re-evaluation of other plans. The valves whose holds changed are
answered with the state. The orders, the incident and then the other plans are reached in this order: R132 gives
them none (log 20). -/
def transferCore (p : Nat) (s : State) : State × List Nat :=
  match Table.at? s.plans p with
  | none => (s, [])
  | some q =>
    let raised := q.draft.filter (fun v => !q.active.contains v)
    let lowered := q.active.filter (fun v => !q.draft.contains v)
    let s1 := changeHolds raised lowered s
    let q1 := transferred s1 q
    let s2 := markPlan p (s1.putPlan p q1)
    let s3 := if q1.activeState = .secured then startTest p s2 else s2
    let s4 := wantedChanges (wantedMoved s s1 (raised ++ lowered)) s3
    -- Step 7: ORDER FAILED is kept where a valve of the new list is STALLED (R139).
    let s5 := s4.updPlan p (fun r => { r with orderFailed := r.orderFailed && r.active.any (stalled s4) })
    let s6 := if q.activeState = .idle then planEvent .leavesIdle q.incident s5 else s5
    let s7 :=
      if q.activeState = .tight && q1.activeState = .issuing then planEvent .tightToIssuing q.incident s6 else s6
    let s8 := if q.verdict = .passing then regradePlanIncident q.incident s7 else s7
    (s8, raised ++ lowered)

/-! ## Release completion (R138) and re-evaluation (R136) -/

/-- The release of plan `p` is complete: the plan is IDLE with its list cleared and its flags no (R138). -/
def completeRelease (p : Nat) (s : State) : State :=
  markPlan p (s.updPlan p (fun q =>
    { q with activeState := .idle, active := [], orderFailed := false, needsRevision := false }))

/-- Test a RELEASING plan for completion (R138). A waiting draft is transferred at once, and the RELEASING
plans its hold changes reach are tested in their turn (R136). Each nested transfer uses up a committed draft,
so the number of plans bounds the depth. -/
def testRelease : Nat → Nat → State → State
  | 0, _, s => s
  | fuel + 1, p, s =>
    match Table.at? s.plans p with
    | none => s
    | some q =>
      if q.activeState = .releasing && q.active.all (settled s) then
        let s1 := completeRelease p s
        if Table.test s1.plans p Plan.ready then
          let out := transferCore p s1
          (releasingOthers out.1 p out.2).foldl (fun s n => testRelease fuel n s) out.1
        else s1
      else s

/-- The depth that the number of plans in use allows. -/
def planFuel (s : State) : Nat := s.plans.length + 1

/-- Test a RELEASING plan for completion. -/
def testPlan (p : Nat) (s : State) : State := testRelease (planFuel s) p s

/-- A transfer of plan `p` with all that it hands on (R131, R132). -/
def transfer (p : Nat) (s : State) : State :=
  let out := transferCore p s
  (releasingOthers out.1 p out.2).foldl (fun s n => testPlan n s) out.1

/-- The plan becomes SECURED: a waiting draft is transferred in the same event, otherwise the test starts
(R130, R134). -/
def becomeSecured (p : Nat) (s : State) : State :=
  let s1 := markPlan p (s.updPlan p (fun q => { q with activeState := .secured }))
  if Table.test s1.plans p Plan.ready then transfer p s1 else startTest p s1

/-- The plan returns to ISSUING: the verdict becomes NONE and the test is cancelled (R134). -/
def returnToIssuing (p : Nat) (q : Plan) (s : State) : State :=
  let s1 := markPlan p (s.putPlan p { q with activeState := .issuing, verdict := .none, test := .none })
  let s2 := if q.activeState = .tight then planEvent .tightToIssuing q.incident s1 else s1
  if q.verdict = .passing then regradePlanIncident q.incident s2 else s2

/-- Re-evaluate one plan after a change of valve `v`'s reported position (R134). -/
def reevaluate (v p : Nat) (s : State) : State :=
  match Table.at? s.plans p with
  | none => s
  | some q =>
    if !q.active.contains v then s
    else
      match q.activeState with
      | .idle => s
      | .issuing => if allClosed s q.active then becomeSecured p s else s
      | .secured => if Table.test s.valves v (fun a => a.reported != .closed) then returnToIssuing p q s else s
      | .tight => if Table.test s.valves v (fun a => a.reported != .closed) then returnToIssuing p q s else s
      | .passing => if Table.test s.valves v (fun a => a.reported != .closed) then returnToIssuing p q s else s
      | .releasing => testPlan p s

/-- A change of reported position reaches every plan that lists the valve, in ascending number (R134, R136). -/
def positionChanged (v : Nat) (s : State) : State :=
  (Table.keys s.plans).foldl (fun s p => reevaluate v p s) s

/-- A change of the inoperable flag reaches every RELEASING plan that lists the valve (R158, R159). -/
def operabilityChanged (v : Nat) (s : State) : State :=
  (Table.which s.plans (fun q => q.activeState = .releasing && q.active.contains v)).foldl
    (fun s p => testPlan p s) s

/-- The release of plan `p` (R137). -/
def release (p : Nat) (s : State) : State :=
  match Table.at? s.plans p with
  | none => s
  | some q =>
    let s1 := changeHolds [] q.active s
    let s2 := markPlan p (s1.putPlan p { q with activeState := .releasing, verdict := .none, test := .none })
    let s3 := wantedChanges (wantedMoved s s1 q.active) s2
    let s4 := (releasingOthers s3 p q.active).foldl (fun s n => testPlan n s) s3
    let s5 := if q.verdict = .passing then regradePlanIncident q.incident s4 else s4
    testPlan p s5

end Sys2Proof.Machine
end

