-- ==== Sys2Proof/Machine/Trace.lean ====
section
/-! DEFINITION. The Supply Tracer (chapter 4): triggers and passes, reachability and islands, publication,
outage records and their recount. -/

namespace Sys2Proof.Machine

/-! ## Passes -/

/-- The inputs a pass takes from the records as they stand (R65). -/
def takeInputs (s : State) : PassInputs :=
  { segments := Table.keys s.segments
    valves := s.valves.map (fun r =>
      { kind := r.2.kind, endA := r.2.endA, endB := r.2.endB, passes := r.2.passesGas })
    freed := [] }

/-- A trigger (R64, R68): a pass begins, a RUNNING pass is restarted, or after three restarts a rerun is set. -/
def trigger (s : State) : State :=
  match s.tracer.pass with
  | .idle => s.setTracer { s.tracer with pass := .running (takeInputs s) }
  | .running _ =>
    if s.tracer.restarts < 3 then
      s.setTracer { s.tracer with pass := .running (takeInputs s), restarts := s.tracer.restarts + 1 }
    else s.setTracer { s.tracer with rerun := true }

/-- A merge frees a segment slot: a RUNNING pass notes it, and will not write it (R22, R69). -/
def noteFreed (n : Nat) (s : State) : State :=
  match s.tracer.pass with
  | .idle => s
  | .running inp => s.setTracer { s.tracer with pass := .running { inp with freed := n :: inp.freed } }

/-! ## Reachability (R66) and islands (R67) -/

/-- Gas that is at the segments of `r` spreads through the valve into segment `y` (R4, R66 step 3). -/
def PassValve.feeds (v : PassValve) (r : List Nat) (y : Nat) : Bool :=
  v.passes &&
    match v.kind with
    | .line => (v.endB = y && v.endA.any r.contains) || (v.endA = some y && r.contains v.endB)
    | .stop => (v.endB = y && v.endA.any r.contains) || (v.endA = some y && r.contains v.endB)
    | .governor => v.endB = y && v.endA.any r.contains
    | .offtake => false

/-- The valve is an OFFTAKE that passes gas into segment `y`: a seed (R66 step 2). -/
def PassValve.seeds (v : PassValve) (y : Nat) : Bool := v.passes && v.kind = .offtake && v.endB = y

/-- One spreading of gas from `r` over the segments of the pass (R66 step 3). -/
def spread (inp : PassInputs) (r : List Nat) : List Nat :=
  inp.segments.filter (fun y => r.contains y || inp.valves.any (fun v => v.feeds r y))

/-- The segments gas reaches (R66). Each spreading that reaches anything new reaches at least one segment, so
as many spreadings as there are segments reach them all. -/
def reached (inp : PassInputs) : List Nat :=
  iterate (spread inp) inp.segments.length (inp.segments.filter (fun y => inp.valves.any (fun v => v.seeds y)))

/-- The segments of the pass that gas does not reach (R66). -/
def unreached (inp : PassInputs) : List Nat := inp.segments.filter (fun y => !(reached inp).contains y)

/-- A valve that passes gas joins segment `y` to one of the segments of `r`, in either direction (R67). -/
def PassValve.joins (v : PassValve) (r : List Nat) (y : Nat) : Bool :=
  v.passes && ((v.endB = y && v.endA.any r.contains) || (v.endA = some y && r.contains v.endB))

/-- One widening of an island within the unreached segments `u` (R67). -/
def widen (inp : PassInputs) (u r : List Nat) : List Nat :=
  u.filter (fun y => r.contains y || inp.valves.any (fun v => v.joins r y))

/-- The island that holds segment `x`, within the unreached segments `u` (R67). -/
def islandOf (inp : PassInputs) (u : List Nat) (x : Nat) : List Nat := iterate (widen inp u) u.length [x]

/-- The islands of a pass, each in ascending order, in ascending order of their lowest segments (R67). -/
def islands (inp : PassInputs) : List (List Nat) :=
  let u := unreached inp
  (u.filter (fun x => (islandOf inp u x).all (fun y => x ≤ y))).map (islandOf inp u)

/-! ## Outage records -/

/-- The segments that name an outage record: its members. -/
def members (s : State) (o : Nat) : Table Segment := s.segments.filter (fun r => r.2.outage = some o)

/-- A record counted again, and its state set from its members (R71, R77). -/
def recounted (s : State) (n : Nat) (o : Outage) : Outage :=
  let m := members s n
  let active := m.any (fun r => r.2.supply = .unsupplied)
  { o with
    members := m.length
    customersOff := (m.map (fun r => r.2.customers)).sum
    customersRelit := (m.map (fun r => r.2.relit)).sum
    state := if active then .active else .restoring
    restoring := if active then o.restoring else some (o.restoring.getD s.now) }

/-- Retire an outage record: its slot becomes free and its flag is set (R76). -/
def retireOutage (n : Nat) (s : State) : State := flag .outage n (s.setOutages (Table.del s.outages n))

/-- Retire every record that no segment names (R76). -/
def retireEmpty (s : State) : State :=
  ((Table.keys s.outages).filter (fun n => members s n = [])).foldl (fun s n => retireOutage n s) s

/-- Count one record again; a change of any field flags it (R77, R78). -/
def recountOutage (n : Nat) (s : State) : State :=
  match Table.at? s.outages n with
  | none => s
  | some o => if recounted s n o = o then s else flag .outage n (s.putOutage n (recounted s n o))

/-- Count every record in use again (R77). -/
def recountOutages (s : State) : State := (Table.keys s.outages).foldl (fun s n => recountOutage n s) s

/-! ## Publication -/

/-- The segments a publication writes (R69): in the pass's inputs, and in use without having been freed. -/
def writtenSegments (s : State) (inp : PassInputs) : List Nat :=
  inp.segments.filter (fun n => !inp.freed.contains n && Table.has s.segments n)

/-- The supply fields by the table of R69. Of a segment left UNSUPPLIED, the outage is the record it named
before, which outage assignment then replaces. -/
def publishedSegment (supplied : Bool) (g : Segment) : Segment :=
  match g.supply, supplied with
  | .supplied, true => { g with outage := none, relit := 0 }
  | .supplied, false => { g with supply := .unsupplied, outage := none, relit := 0 }
  | .unsupplied, true =>
    if 0 < g.customers then { g with supply := .relight, relit := 0 }
    else { g with supply := .supplied, outage := none, relit := 0 }
  | .unsupplied, false => g
  | .relight, true => g
  | .relight, false => { g with supply := .unsupplied }

/-- Apply R69 to the written segments. -/
def publishSupply (inp : PassInputs) (written : List Nat) (s : State) : State :=
  let r := reached inp
  written.foldl (fun s n => s.updSegment n (publishedSegment (r.contains n))) s

/-- The lowest-numbered UNSUPPLIED member of a record (R72 step 1). -/
def lowestUnsupplied (s : State) (o : Nat) : Option Nat :=
  (Table.which s.segments (fun g => g.outage = some o && g.supply = .unsupplied)).head?

/-- The record an island keeps: the lowest-numbered of those whose home island it is (R73). -/
def claimant (s : State) (island : List Nat) : Option Nat :=
  (Table.keys s.outages).find? (fun o => (lowestUnsupplied s o).any island.contains)

/-- The members of an island take an outage. -/
def assignIsland (island : List Nat) (o : Option Nat) (s : State) : State :=
  island.foldl (fun s n => s.updSegment n (fun g => { g with outage := o })) s

/-- Steps 1 to 3 of R72: each island takes the record that claims it, or none. The claims are read before any
island is assigned. -/
def assignClaims (islands : List (List Nat)) (s : State) : State :=
  (islands.map (fun i => (i, claimant s i))).foldl (fun s ic => assignIsland ic.1 ic.2 s) s

/-- A new outage record (R71). Its counts are those of R77, taken when every record is counted again. -/
def newOutage (s : State) : Outage :=
  { state := .active, start := s.now, restoring := none, members := 0, customersOff := 0, customersRelit := 0 }

/-- An unclaimed island is given the lowest-numbered free slot, or stays without a record (R75). -/
def giveRecord (island : List Nat) (s : State) : State :=
  match Table.lowestFree s.outages Config.outageSlots with
  | none => s
  | some n => flag .outage n (assignIsland island (some n) (s.putOutage n (newOutage s)))

/-- Outage assignment (R72): claims, retirement, new records, recount. -/
def assignOutages (islands : List (List Nat)) (s : State) : State :=
  let unclaimed := islands.filter (fun i => (claimant s i).isNone)
  recountOutages (unclaimed.foldl (fun s i => giveRecord i s) (retireEmpty (assignClaims islands s)))

/-- The islands of a pass with their written segments alone (R72), in the order of the pass, which is that of the
lowest segment of each, written or not (R67, R75). An island without a written segment is left out (log 21). -/
def writtenIslands (inp : PassInputs) (written : List Nat) : List (List Nat) :=
  ((islands inp).map (fun i => i.filter written.contains)).filter (fun i => i != [])

/-- Two records differ in a supply field (R78). -/
def supplyFieldsDiffer (a b : Segment) : Bool := a.supply != b.supply || a.outage != b.outage || a.relit != b.relit

/-- The supply record of segment `n` before and after differ by `d`. -/
def changedSegment (before after : State) (d : Segment → Segment → Bool) (n : Nat) : Bool :=
  match Table.at? before.segments n, Table.at? after.segments n with
  | some a, some b => d a b
  | _, _ => false

/-- The pass ends (R68, R79): the generation goes up, the pass goes IDLE or a rerun begins. -/
def endPass (unassigned : Nat) (s : State) : State :=
  s.setTracer
    { pass := if s.tracer.rerun then .running (takeInputs s) else .idle
      restarts := 0
      rerun := false
      generation := (s.tracer.generation + 1) % 65536
      lastPublication := some s.now
      overflow := 0 < unassigned
      unassigned := unassigned }

/-- The publication of a pass that took the inputs `inp` (R69 to R79). -/
def publish (inp : PassInputs) (s : State) : State :=
  let written := writtenSegments s inp
  let s1 := assignOutages (writtenIslands inp written) (publishSupply inp written s)
  let s2 := flagAll .segment (written.filter (changedSegment s s1 supplyFieldsDiffer)) s1
  let unassigned :=
    (written.filter (fun n => Table.test s2.segments n (fun g => g.supply = .unsupplied && g.outage = none))).length
  let changed := written.any (changedSegment s s1 supplyFieldsDiffer) || s1.outages != s.outages
  let s3 := if changed || 0 < unassigned then raise .outage s2 else s2
  let moved := written.filter (fun n =>
    changedSegment s s1 (fun a b => a.supply != b.supply) n && Table.test s1.segments n (fun g => 0 < g.openIncidents))
  moved.foldl (fun s n => regradeSegment n s) (endPass unassigned s3)

end Sys2Proof.Machine
end

