-- ==== Sys2Proof/Machine/Reports.lean ====
section
/-! DEFINITION. Position reports and loss of contact of a valve (R149 to R152). -/

namespace Sys2Proof.Machine

/-- The other of OPEN and CLOSED. -/
def Position.other : Position → Position
  | .opened => .closed
  | .closed => .opened

/-- A report is an unplanned change of the valve as it stood before the report (R150). -/
def unplannedChange (a : Valve) (r : Reported) : Bool :=
  a.atWanted && r = a.wanted.other.reported && a.orderState = .none && !a.inoperable

/-- The valve's order that a report completes (R149 step 2). -/
def completedBy (s : State) (a : Valve) (r : Reported) : Option Order :=
  (a.orderSerial.bind (Table.at? s.orders)).filter (fun o => o.action.target = r)

/-- The valve record with a report written (R149 step 1). -/
def Valve.reportedAt (a : Valve) (r : Reported) (now : Nat) : Valve :=
  { a with reported := r, lastReport := now, unconfirmed := false }

/-- Step 1 of R149. A change of the last report second alone does not mark the valve (R144). -/
def writeReport (v : Nat) (a : Valve) (r : Reported) (s : State) : State :=
  let s1 := s.putValve v (a.reportedAt r s.now)
  if a.reported != r || a.unconfirmed then markValve v s1 else s1

/-- Steps 2 to 4 of R149: the order completes and the waiting valves are drawn, or an unplanned change is
given an order (R150). -/
def orderSteps (v : Nat) (a : Valve) (r : Reported) (s : State) : State :=
  match completedBy s a r with
  | some o => drawWaiting (completeOrder v a o s)
  | none =>
    if unplannedChange a r then
      let s1 := queueOrder v s
      raise .order (s1.setOrderUnit { s1.orderUnit with unplanned := { set := true, valve := some v } })
    else s

/-- The Order Unit acts on a position report of valve `v` (R149). -/
def positionReport (v : Nat) (r : Reported) (s : State) : State :=
  match Table.at? s.valves v with
  | none => s
  | some a =>
    let s1 := orderSteps v a r (writeReport v a r s)
    let s2 := if a.reported != r then positionChanged v s1 else s1
    if a.reported.passesGas != r.passesGas then trigger s2 else s2

/-- Loss of contact for a REMOTE valve: it becomes unconfirmed (R152). -/
def loseValve (v : Nat) (s : State) : State :=
  if Table.test s.valves v (fun a => !a.unconfirmed) then
    changeValve v (fun a => { a with unconfirmed := true }) s
  else s

end Sys2Proof.Machine
end

