-- ==== Sys2Proof/Machine/Supervisor.lean ====
section
/-! DEFINITION. The Pressure Supervisor (chapter 3): conversion, profile selection, band evaluation,
conditions and the effects of a band change. -/

namespace Sys2Proof.Machine

/-! ## Conversion (R45) -/

/-- The pressure of a raw value before the top of the range is applied (R45 steps 1 and 2). -/
def rawPressure (z g r : Nat) : Nat := if r ≤ z then 0 else ((r - z) * g + 512) / 1024

/-- The conversion of a raw value: the pressure, and whether it was clamped (R45). -/
def convert (z g r : Nat) : Nat × Bool :=
  let p := rawPressure z g r
  if Config.topPressure < p then (Config.topPressure, true) else (p, false)

/-- A raw value at either rail (R44). -/
def isRail (r : Nat) : Bool := r = 0 || r = 65535

/-! ## Conditions (R58) -/

/-- The conditions whose entry is handed to the Verification Unit (R58, R61). -/
def Condition.drops : Condition → Bool
  | .stale => true
  | .sensorFault => true
  | .overRange => true
  | .ok => false
  | .unbanded => false

/-- Set a point's condition. A change flags the point, raises PRESSURE and reaches the tests (R58, R61). -/
def setCondition (n : Nat) (c : Condition) (s : State) : State :=
  if Table.test s.points n (fun p => p.condition != c) then
    let s1 := markPoint n (s.updPoint n (fun p => { p with condition := c }))
    if c.drops then dropPoint n s1 else s1
  else s

/-! ## Profile selection (R50 to R52) -/

/-- The entry applies to a group at a period code (R50). -/
def Profile.applies (e : Profile) (group code : Nat) : Bool :=
  e.enabled && e.group = group && (code &&& e.periodMask) = (e.periodValue &&& e.periodMask)

/-- The selection for a group: the lowest-numbered entry that applies now (R50). -/
def selection (s : State) (group : Nat) : Option Nat :=
  (Table.which s.profiles (fun e => e.applies group (periodCode s.clock))).head?

/-- The condition after a changed selection (R52). -/
def conditionAfter (c : Condition) (chosen : Option Nat) : Condition :=
  match c, chosen with
  | .ok, none => .unbanded
  | .overRange, none => .unbanded
  | .unbanded, some _ => .ok
  | c, _ => c

/-- Write a changed selection: candidate and count are cleared, the condition is adjusted (R52). -/
def applySelection (n : Nat) (chosen : Option Nat) (s : State) : State :=
  match Table.at? s.points n with
  | none => s
  | some p =>
    setCondition n (conditionAfter p.condition chosen)
      (s.putPoint n { p with selected := chosen, candidate := none, count := 0 })

/-- Reselect one point (R51, R52). `rewritten` is the entry that SET PROFILE has just written. -/
def reselectPoint (rewritten : Option Nat) (n : Nat) (s : State) : State :=
  match Table.at? s.points n with
  | none => s
  | some p =>
    let chosen := selection s p.group
    if chosen = p.selected && (chosen = none || chosen != rewritten) then s else applySelection n chosen s

/-- Reselect the points that meet `which` (R51). -/
def reselect (rewritten : Option Nat) (which : Point → Bool) (s : State) : State :=
  (Table.which s.points which).foldl (fun s n => reselectPoint rewritten n s) s

/-- A change of the period code, where there is one, reselects every point while RUNNING (R51, R174). -/
def periodChanged (before : Clock) (s : State) : State :=
  if s.running && periodCode before != periodCode s.clock then reselect none (fun _ => true) s else s

/-- The first selection at OPEN MODEL: contact counts from the opening, and a point that finds no entry
becomes UNBANDED (R41; log 10). -/
def firstSelection (n : Nat) (s : State) : State :=
  match Table.at? s.points n with
  | none => s
  | some p => applySelection n (selection s p.group) (s.putPoint n { p with lastContact := s.now })

/-! ## Bands (R53 to R55) -/

/-- The zone of a pressure under an entry's thresholds (R53). -/
def zone (e : Profile) (p : Nat) : Band :=
  if p < e.ll then .lowLow
  else if p < e.l then .low
  else if p ≤ e.h then .normal
  else if p ≤ e.hh then .high
  else .highHigh

/-- The target band (R54). Subtraction of naturals is floored at 0, as the table asks. -/
def targetBand (e : Profile) (h : Nat) (present : Band) (p : Nat) : Band :=
  match present with
  | .normal => zone e p
  | .low => if p < e.ll then .lowLow else if p < e.l + h then .low else zone e p
  | .lowLow => if p < e.ll + h then .lowLow else if p < e.l + h then .low else zone e p
  | .high => if e.hh < p then .highHigh else if e.h - h < p then .high else zone e p
  | .highHigh => if e.hh - h < p then .highHigh else if e.h - h < p then .high else zone e p

/-- Candidate band and persistence count after `m` repetitions of target `t` (R55, cases 1 to 3). -/
def persist (p : Point) (t : Band) (m : Nat) : Option Band × Nat :=
  if t = p.band then (none, 0)
  else if p.candidate = some t then (some t, min 15 (p.count + m))
  else (some t, min 15 m)

/-- The severe bands (R53, R60). -/
def Band.severe (b : Band) : Bool := b = .lowLow || b = .highHigh

/-- A regrade request from the Supervisor, if the segment's open incident count is above 0 (R60). -/
def regradeRequest (seg : Nat) (s : State) : State :=
  if Table.test s.segments seg (fun g => 0 < g.openIncidents) then regradeSegment seg s else s

/-- The hand-off of a band change to the Incident Register (R60). -/
def bandHandOff (seg : Nat) (b : Band) (s : State) : State :=
  if b.severe && Table.test s.segments seg (fun g => g.supply = .supplied) then pressureRequest seg s
  else regradeRequest seg s

/-- Band evaluation of a point with pressure `p` and `m` repetitions (R54, R55, R59). -/
def evaluateBand (n : Nat) (e : Profile) (p m : Nat) (s : State) : State :=
  match Table.at? s.points n with
  | none => s
  | some q =>
    let c := persist q (targetBand e q.hysteresis q.band p) m
    match c.1 with
    | some b =>
      if q.persistence ≤ c.2 then
        bandHandOff q.segment b
          (markPoint n (s.putPoint n { q with band := b, candidate := none, count := 0 }))
      else s.putPoint n { q with candidate := c.1, count := c.2 }
    | none => s.putPoint n { q with candidate := none, count := 0 }

/-! ## Readings and holds (R44, R46, R47) -/

/-- The condition a converted reading gives (R46). -/
def readingCondition (selected : Option Nat) (clamped : Bool) : Condition :=
  match selected, clamped with
  | none, _ => .unbanded
  | some _, true => .overRange
  | some _, false => .ok

/-- Apply a converted pressure with `m` repetitions (R46), and hand it to the tests (R61). Where it changes the band
and reaches a test too, the Register is reached before the tests: R59 gives the two no order (log 20). -/
def applyPressure (n : Nat) (conv : Nat × Bool) (m : Nat) (s : State) : State :=
  match Table.at? s.points n with
  | none => s
  | some q =>
    let c := readingCondition q.selected conv.2
    let s1 := setCondition n c (s.updPoint n (fun q => { q with lastPressure := some conv.1, valid := true }))
    let s2 :=
      match q.selected.bind (Table.at? s1.profiles) with
      | some e => evaluateBand n e conv.1 m s1
      | none => s1
    testReadings n conv.1 c s2

/-- A reading of point `n` with raw value `r` (R44). -/
def reading (n r : Nat) (s : State) : State :=
  match Table.at? s.points n with
  | none => s
  | some q =>
    let s1 := s.updPoint n (fun q => { q with lastContact := s.now, lastRaw := some r })
    if isRail r then setCondition n .sensorFault s1
    else applyPressure n (convert q.zero q.gain r) 1 s1

/-- A hold of point `n` with count `k`: the last reading repeated k + 1 times (R47). -/
def holdReading (n k : Nat) (s : State) : State :=
  match Table.at? s.points n with
  | none => s
  | some q =>
    match q.valid, q.lastRaw with
    | true, some r =>
      let s1 := s.updPoint n (fun q => { q with lastContact := s.now })
      if isRail r then (if q.condition = .stale then setCondition n .sensorFault s1 else s1)
      else applyPressure n (convert q.zero q.gain r) (k + 1) s1
    | _, _ => s

/-! ## Staleness and loss of contact (R56, R57) -/

/-- The elapsed time since a point's last contact, 0 where the clock has been set below it (R56). Subtraction
of naturals is floored at 0. -/
def elapsed (s : State) (p : Point) : Nat := s.now - p.lastContact

/-- A point's contact has lapsed past its stale limit (R56). -/
def lapsed (s : State) (p : Point) : Bool := p.condition != .stale && p.staleLimit * 60 < elapsed s p

/-- The Supervisor's work at a second event (R56). -/
def stalePoints (s : State) : State :=
  (Table.which s.points (lapsed s)).foldl (fun s n => setCondition n .stale s) s

/-- Loss of contact of a point: it becomes STALE at once (R57). -/
def losePoint (n : Nat) (s : State) : State := setCondition n .stale s

end Sys2Proof.Machine
end

