-- ==== Sys2Proof/Machine/Timed.lean ====
section
/-! DEFINITION. The timed work of a second event (R173), and the taking of a request, which first completes
the work its blocks still owe. -/

namespace Sys2Proof.Machine

/-! ## Incident Register and Dispatch Selector at a second event -/

/-- One incident that has reached its deadline unattended becomes overdue (R101). -/
def markOverdue (n : Nat) (s : State) : State :=
  markIncident n (s.updIncident n (fun i => { i with overdue := true }))

/-- An incident is due to become overdue (R101). -/
def reachesDeadline (now : Nat) (i : Incident) : Bool :=
  !i.overdue && i.attendance != .attended && i.deadline ≤ now

/-- The Register's work at a second event (R101). -/
def overdueIncidents (s : State) : State :=
  (Table.which s.incidents (reachesDeadline s.now)).foldl (fun s n => markOverdue n s) s

/-- Write an incident's attendance with its offer fields cleared (R108). -/
def attend (a : Attendance) (n : Nat) (s : State) : State :=
  markDispatch n (s.updIncident n (fun i => { i with attendance := a, offerDesk := none, offerExpiry := none }))

/-- Clear a desk's offer (R108). -/
def clearOffer (desk : Nat) (s : State) : State :=
  s.setDispatch { s.dispatch with offers := Table.del s.dispatch.offers desk }

/-- One desk's offer expires where its expiry second is reached (R112). -/
def expireOffer (desk : Nat) (s : State) : State :=
  match Table.at? s.dispatch.offers desk with
  | none => s
  | some n =>
    if Table.test s.incidents n (fun i => i.offerExpiry.any (fun e => e ≤ s.now)) then
      attend .unassigned n (clearOffer desk s)
    else s

/-- The Selector's work at a second event (R112). -/
def expireOffers (s : State) : State :=
  (Table.keys s.dispatch.offers).foldl (fun s d => expireOffer d s) s

/-! ## Work that is owed (R173; log 4) -/

/-- All timed work, in the order of R173. -/
def allWork : List TimedWork := [.staleness, .overdue, .expiry, .timeout, .windowEnd]

/-- One block's whole work for the second event. -/
def workOf : TimedWork → State → State
  | .staleness => stalePoints
  | .overdue => overdueIncidents
  | .expiry => expireOffers
  | .timeout => timeOutOrders
  | .windowEnd => endWindows

/-- A block does its work for the latest second event, if it still owes it. -/
def doWork (w : TimedWork) (s : State) : State :=
  if s.clock.due.contains w then
    workOf w (s.setClock { s.clock with due := s.clock.due.filter (fun x => x != w) })
  else s

/-- Each of the blocks named completes what it owes, before it acts on a request or an item (R173). -/
def settle (l : List TimedWork) (s : State) : State := l.foldl (fun s w => doWork w s) s

/-! ## Taking a request -/

/-- The port tests of a request carried by a command: a command that no frame spells is answered as step 3 or
step 5 of R188 answers (log 7). -/
def frameTest (i : Instr) : Option Result := if wellFormed i then none else some .badField

/-- A request: taken at the port (R183), it acts once the blocks it reaches have done the timed work they owe. -/
def request (i : Instr) (h : Header) (owed : List TimedWork) (act : State → State × Reply) (s : State) :
    Host.Outcome State Fault Refusal :=
  .next (atPort (frameTest i) h.tag (fun s => act (settle owed s)) s)

/-- A step that is not a request: nothing happens while RESET is held (R193). -/
def partStep (act : State → State) (s : State) : Host.Outcome State Fault Refusal :=
  .next (if s.port.held then s else act s)

end Sys2Proof.Machine
end

