-- ==== Sys2Proof/Machine/Desks.lean ====
section
/-! DEFINITION. The desk windows (R190 to R192). -/

namespace Sys2Proof.Machine

/-- The window of a desk 1-15: one that is not listed is as cold reset left it (R190). -/
def windowOf (s : State) (desk : Nat) : Window := (Table.at? s.windows desk).getD Window.reset

/-- Write a desk's window; one equal to its cold-reset value is not listed. -/
def setWindow (desk : Nat) (w : Window) (s : State) : State :=
  s.setWindows (if w = Window.reset then Table.del s.windows desk else Table.put s.windows desk w)

def setDeskArea (h : Header) (desk base limit : Nat) (s : State) : State × Reply :=
  tested [(h.desk = 0, .outOfArea),
      (1 ≤ desk && desk ≤ 15 && base < Config.segmentSlots && limit < Config.segmentSlots, .badField)]
    (fun s =>
      let w := windowOf s desk
      (setWindow desk { base := base, limit := limit } s,
        .done [.u8 desk, .u16 w.base, .u16 w.limit, .u16 base, .u16 limit])) s

/-! ## The command -/

def execSetDeskArea (h : Header) (d b l : Nat) (s : State) :=
  request (.setDeskArea h d b l) h [] (setDeskArea h d b l) s

end Sys2Proof.Machine
end

