-- ==== Sys2Proof/Machine/Network.lean ====
section
/-! DEFINITION. The requests of the Network Model (chapter 1): definitions, OPEN MODEL, ALTER SEGMENT, the
temporary stops and the two reads. -/

namespace Sys2Proof.Machine

/-- The first tests of a definition (R7). -/
def definitionTests (h : Header) (s : State) : List (Bool × Result) :=
  [(h.desk = 0, .outOfArea), (!s.running, .modelLocked)]

/-! ## DEFINE SEGMENT (R8) -/

/-- A newly defined segment (R1). -/
def newSegment (t : Tier) (zone customers : Nat) : Segment :=
  { tier := t, zone := zone, customers := min Config.topCustomers customers, valveList := [], pointList := [],
    supply := .supplied, outage := none, relit := 0, openIncidents := 0 }

def defineSegment (h : Header) (n tier zone customers : Nat) (s : State) : State × Reply :=
  tested (definitionTests h s ++
      [(n < Config.segmentSlots && (Tier.ofCode? tier).isSome && zone < 256, .badField)])
    (fun s =>
      (unflag .segment n (s.putSegment n (newSegment ((Tier.ofCode? tier).getD .lp) zone customers)),
        .doneClamped (Config.topCustomers < customers) [.u16 n])) s

/-! ## DEFINE VALVE (R9) -/

/-- The kinds DEFINE VALVE takes: not STOP (R9). -/
def definableKind (k : Nat) : Bool := (ValveKind.ofCode? k).any (fun k => k != .stop)

/-- The initial reported positions DEFINE VALVE takes: not MOVING (R9). -/
def initialReport (r : Nat) : Bool := (Reported.ofCode? r).any (fun r => r != .moving)

/-- A valve with the Order Unit's and Plan Engine's fields of a new record (R3, R18). -/
def freshValve (k : ValveKind) (a : Option Nat) (b : Nat) (normal : Position) (op : Operation)
    (tag : Option Tag) (r : Reported) (now : Nat) : Valve :=
  { kind := k, endA := a, endB := b, normal := normal, operation := op, tag := tag, reported := r,
    unconfirmed := false, inoperable := false, orderState := .none, orderSerial := none, followUp := false,
    waitingSince := none, hold := 0, lastReport := now }

/-- The field tests of DEFINE VALVE (R9). -/
def defineValveTest (n k : Nat) (a b : Option Nat) (normal op : Nat) (tag : Option Tag) (r : Nat) : Bool :=
  n < Config.valveSlots && definableKind k &&
    a.all (fun x => x < Config.segmentSlots) && b.any (fun x => x < Config.segmentSlots) &&
    (Position.ofCode? normal).isSome && (Operation.ofCode? op).isSome &&
    !(Operation.ofCode? op = some .manual && tag.isSome) && initialReport r

def defineValve (h : Header) (n k : Nat) (a b : Option Nat) (normal op : Nat) (tag : Option Tag) (r : Nat)
    (s : State) : State × Reply :=
  tested (definitionTests h s ++ [(defineValveTest n k a b normal op tag r, .badField)])
    (fun s =>
      (unflag .valve n (s.putValve n
        (freshValve ((ValveKind.ofCode? k).getD .line) a (b.getD 0) ((Position.ofCode? normal).getD .opened)
          ((Operation.ofCode? op).getD .remote) tag ((Reported.ofCode? r).getD .unknown) s.now)),
        .done [.u16 n])) s

/-! ## OPEN MODEL (R10 to R14) -/

/-- The record kinds a refused OPEN MODEL can name, in the order R10 lists them. -/
inductive FaultKind where
  | segment
  | valve
  | point
deriving DecidableEq, Repr

def FaultKind.code : FaultKind → Nat
  | .segment => 0
  | .valve => 1
  | .point => 2

/-- Check 1 on one valve (R11). -/
def valveAtFault (s : State) (a : Valve) : Bool :=
  let free (n : Nat) := !Table.has s.segments n
  match a.kind, a.endA with
  | .offtake, none => free a.endB
  | .offtake, some _ => true
  | _, none => true
  | _, some x => free x || free a.endB || x = a.endB

/-- The valves in use that have an end naming a segment (R2, R12). -/
def valvesOn (s : State) (seg : Nat) : List Nat := Table.which s.valves (fun a => a.ends seg)

/-- The points in use whose segment field names a segment (R2, R12). -/
def pointsOn (s : State) (seg : Nat) : List Nat := Table.which s.points (fun p => p.segment = seg)

/-- Check 2 on one segment (R12). -/
def segmentOverfull (s : State) (n : Nat) : Bool :=
  Config.segmentValveCapacity < (valvesOn s n).length || Config.segmentPointCapacity < (pointsOn s n).length

/-- The records check 4 walks: the points, then the REMOTE valves, each with its tag (R13). -/
def taggedRecords (s : State) : List (FaultKind × Nat × Option Tag) :=
  s.points.map (fun r => (.point, r.1, some r.2.tag)) ++
    (s.valves.filter (fun r => r.2.operation = .remote)).map (fun r => (.valve, r.1, r.2.tag))

/-- The first record of the walk whose tag is none or came earlier in the walk (R13). -/
def firstTagFault : List (Option Tag) → List (FaultKind × Nat × Option Tag) → Option (FaultKind × Nat)
  | _, [] => none
  | seen, (k, n, t) :: rest =>
    if t = none || seen.contains t then some (k, n) else firstTagFault (t :: seen) rest

/-- The first record at fault: the check, the record kind and the record number (R10 to R13). -/
def openFault (s : State) : Option (Nat × FaultKind × Nat) :=
  match (Table.which s.valves (valveAtFault s)).head? with
  | some n => some (1, .valve, n)
  | none =>
    match (Table.keys s.segments).find? (segmentOverfull s) with
    | some n => some (2, .segment, n)
    | none =>
      match (Table.which s.points (fun p => !Table.has s.segments p.segment)).head? with
      | some n => some (3, .point, n)
      | none => (firstTagFault [] (taggedRecords s)).map (fun r => (4, r.1, r.2))

/-- A segment as an opening leaves it: its lists built and its supply fields set (R2, R14). -/
def openedSegment (s : State) (n : Nat) (g : Segment) : Segment :=
  { g with valveList := valvesOn s n, pointList := pointsOn s n, supply := .supplied, outage := none,
           relit := 0, openIncidents := 0 }

/-- What a successful OPEN MODEL does (R14, R41). -/
def opening (s : State) : State :=
  let s1 := s.setSegments (s.segments.map (fun r => (r.1, openedSegment s r.1 r.2)))
  let s2 := raise .model (s1.setModel .running)
  trigger ((Table.keys s2.points).foldl (fun s n => firstSelection n s) s2)

def openModel (h : Header) (s : State) : State × Reply :=
  tested [(h.desk = 0, .outOfArea), (!s.running, .modelLocked)]
    (fun s =>
      match openFault s with
      | some (check, kind, n) => (s, .refusalWith .badField [.u8 check, .u8 kind.code, .u16 n])
      | none => (opening s, .done [])) s

/-! ## ALTER SEGMENT (R15) -/

/-- The segment with the fields given written. -/
def alteredSegment (zone customers : Option Nat) (g : Segment) : Segment :=
  { g with zone := zone.getD g.zone, customers := (customers.map (min Config.topCustomers)).getD g.customers }

def alterSegment (h : Header) (n : Nat) (zone customers : Option Nat) (s : State) : State × Reply :=
  tested [(s.running, .notRunning),
      (n < Config.segmentSlots && zone.all (fun z => z < 256), .badField),
      (inWindow s h.desk n, .outOfArea),
      (Table.has s.segments n, .noRecord),
      (customers = none || Table.test s.segments n (fun g => g.supply = .supplied), .wrongState)]
    (fun s =>
      (if zone = none && customers = none then s
        else mark .segment n .model (s.updSegment n (alteredSegment zone customers)),
        .doneClamped (customers.any (fun c => Config.topCustomers < c)) [])) s

/-! ## SPLIT SEGMENT (R16 to R18) -/

/-- A plan that targets a segment has an active side other than IDLE (R16 step 7, R19 step 9). -/
def targetedLive (s : State) (seg : Nat) : Bool :=
  s.plans.any (fun r => r.2.target = seg && r.2.activeState != .idle)

/-- A plan's active list names the valve (R16 step 8, R19 step 7). -/
def activelyListed (s : State) (v : Nat) : Bool := s.plans.any (fun r => r.2.active.contains v)

/-- Rename the ends of a valve that name one segment to another (R18, R20). -/
def Valve.rename (a : Valve) (old new : Nat) : Valve :=
  { a with endA := a.endA.map (fun x => if x = old then new else x),
           endB := if a.endB = old then new else a.endB }

/-- The tests of SPLIT SEGMENT (R16). -/
def splitTests (h : Header) (seg : Nat) (vs ps : List Nat) (s : State) : List (Bool × Result) :=
  let listed (f : Segment → List Nat) (l : List Nat) := Table.test s.segments seg (fun g => l.all (f g).contains)
  [(s.running, .notRunning),
    (seg < Config.segmentSlots && vs.all (fun v => v < Config.valveSlots) &&
      ps.all (fun p => p < Config.pointSlots) && distinct vs && distinct ps, .badField),
    (inWindow s h.desk seg, .outOfArea),
    (Table.has s.segments seg, .noRecord),
    (listed Segment.valveList vs && listed Segment.pointList ps, .badField),
    (Table.test s.segments seg (fun g => g.supply = .supplied), .wrongState),
    (!targetedLive s seg, .wrongState),
    (vs.all (fun v => !activelyListed s v), .wrongState),
    ((Table.lowestFree s.segments Config.segmentSlots).isSome &&
      (Table.lowestFree s.valves Config.valveSlots).isSome && s.stopCount < Config.stopCapacity, .full),
    (Table.test s.segments seg (fun g => g.valveList.length - vs.length + 1 ≤ Config.segmentValveCapacity) &&
      vs.length + 1 ≤ Config.segmentValveCapacity, .full)]

/-- The old segment after a split (R17): the stop `v` joins its valves, the moved valves and points leave. -/
def splitOld (g : Segment) (v : Nat) (vs ps : List Nat) (moved : Nat) : Segment :=
  { g with customers := g.customers - moved,
           valveList := insertNat v (g.valveList.filter (fun x => !vs.contains x)),
           pointList := g.pointList.filter (fun x => !ps.contains x) }

/-- The new segment of a split (R17). -/
def splitNew (g : Segment) (v : Nat) (vs ps : List Nat) (moved : Nat) : Segment :=
  { tier := g.tier, zone := g.zone, customers := moved, valveList := insertNat v (sortNat vs),
    pointList := sortNat ps, supply := .supplied, outage := none, relit := 0, openIncidents := 0 }

/-- An admitted SPLIT SEGMENT: `t` is the new segment and `v` the new stop (R17, R18). -/
def split (seg t v : Nat) (vs ps : List Nat) (moved : Nat) (g : Segment) (s : State) : State :=
  let s1 := (s.putSegment seg (splitOld g v vs ps moved)).putSegment t (splitNew g v vs ps moved)
  let s2 := vs.foldl (fun s x => s.updValve x (fun a => a.rename seg t)) s1
  let s3 := ps.foldl (fun s x => s.updPoint x (fun p => { p with segment := t })) s2
  let s4 := (s3.putValve v (freshValve .stop (some seg) t .opened .manual none .opened s.now)).setStopCount
    (s.stopCount + 1)
  let s5 := flagAll .point ps (flagAll .valve (v :: vs) (flagAll .segment [seg, t] s4))
  trigger (raise .model s5)

def splitSegment (h : Header) (seg : Nat) (vs ps : List Nat) (customers : Nat) (s : State) : State × Reply :=
  tested (splitTests h seg vs ps s)
    (fun s =>
      match Table.at? s.segments seg, Table.lowestFree s.segments Config.segmentSlots,
          Table.lowestFree s.valves Config.valveSlots with
      | some g, some t, some v =>
        (split seg t v vs ps (min g.customers customers) g s,
          .doneClamped (g.customers < customers) [.u16 t, .u16 v])
      | _, _, _ => refuse .full s) s

/-! ## MERGE AT STOP (R19 to R21) -/

/-- The valve list of the merged segment (R20). -/
def mergedValves (v : Nat) (ga gb : Segment) : List Nat :=
  sortNat ((ga.valveList ++ gb.valveList).filter (fun x => x != v))

/-- The segment that a merge leaves in slot a (R20). -/
def mergedSegment (v : Nat) (ga gb : Segment) : Segment :=
  { ga with
    valveList := mergedValves v ga gb
    pointList := sortNat (ga.pointList ++ gb.pointList)
    customers := min Config.topCustomers (ga.customers + gb.customers)
    supply := .supplied
    outage := none
    relit := 0
    openIncidents := min 255 (ga.openIncidents + gb.openIncidents) }

/-- Steps 6 to 11 of R19, for the stop `v` with ends `a` and `b`. -/
def mergeTests (v a b : Nat) (s : State) : List (Bool × Result) :=
  let at2 (f : Segment → Segment → Bool) : Bool :=
    match Table.at? s.segments a, Table.at? s.segments b with
    | some ga, some gb => f ga gb
    | _, _ => false
  [(Table.test s.valves v (fun x => x.reported = .opened && x.hold = 0 && x.orderState = .none), .wrongState),
    (!activelyListed s v, .wrongState),
    (at2 (fun ga gb => ga.supply = .supplied && gb.supply = .supplied), .wrongState),
    (!targetedLive s a && !targetedLive s b, .wrongState),
    (!s.valves.any (fun r => r.1 != v && r.2.ends a && r.2.ends b), .wrongState),
    (at2 (fun ga gb => (mergedValves v ga gb).length ≤ Config.segmentValveCapacity &&
        ga.pointList.length + gb.pointList.length ≤ Config.segmentPointCapacity), .full)]

/-- The records of other blocks that a merge reaches (R21 steps 1 to 3, R129, R141). -/
def mergeOthers (v a b : Nat) (s : State) : State :=
  let s1 := (Table.which s.incidents (fun i => i.segment = b)).foldl
    (fun s n => flag .incident n (s.updIncident n (fun i => { i with segment := a }))) s
  let s2 := (Table.which s1.plans (fun q => q.target = b)).foldl
    (fun s p => markPlan p (s.updPlan p (fun q => { q with target := a }))) s1
  (Table.which s2.plans (fun q => q.draft.contains v)).foldl
    (fun s p => markPlan p (s.updPlan p (fun q => { q with draft := q.draft.filter (fun x => x != v) }))) s2

/-- An admitted MERGE AT STOP (R20, R21). -/
def merge (v a b : Nat) (ga gb : Segment) (s : State) : State :=
  let vs := Table.keys (s.valves.filter (fun r => r.1 != v && r.2.ends b))
  let s1 := s.putSegment a (mergedSegment v ga gb)
  let s2 := vs.foldl (fun s x => s.updValve x (fun y => y.rename b a)) s1
  let s3 := gb.pointList.foldl (fun s x => s.updPoint x (fun p => { p with segment := a })) s2
  let s4 := flagAll .point gb.pointList (flagAll .valve vs (flag .segment a s3))
  let s5 := mergeOthers v a b s4
  let s6 := flag .valve v ((s5.setValves (Table.del s5.valves v)).setStopCount (s5.stopCount - 1))
  let s7 := noteFreed b (flag .segment b (s6.setSegments (Table.del s6.segments b)))
  trigger (raise .model s7)

def mergeAtStop (h : Header) (v : Nat) (s : State) : State × Reply :=
  tested [(s.running, .notRunning), (v < Config.valveSlots, .badField), (Table.has s.valves v, .noRecord),
      (Table.test s.valves v (fun x => x.kind = .stop && x.endA.isSome), .badField)]
    (fun s =>
      match Table.at? s.valves v with
      | some { endA := some a, endB := b, .. } =>
        tested ((inWindow s h.desk a && inWindow s h.desk b, .outOfArea) :: mergeTests v a b s)
          (fun s =>
            match Table.at? s.segments a, Table.at? s.segments b with
            | some ga, some gb =>
              (merge v a b ga gb s,
                .doneClamped (Config.topCustomers < ga.customers + gb.customers) [.u16 a])
            | _, _ => refuse .wrongState s) s
      | _ => refuse .badField s) s

/-! ## READ SEGMENT and READ VALVE (R23, R24) -/

/-- Every field of R1. -/
def segmentFields (s : State) (n : Nat) (g : Segment) : List Field :=
  [.u16 n, .u8 g.tier.code, .u8 g.zone, .u32 g.customers] ++ list16 g.valveList ++ list16 g.pointList ++
    [.u8 g.supply.code] ++ opt8 g.outage ++ [.u32 g.relit, .u8 g.openIncidents, yes (flagged .segment n s)]

/-- READ SEGMENT (R23). The model state and stop count stand in a DONE and a NO RECORD answer; a BAD FIELD has an
empty body (R189; log 34). -/
def readSegment (n : Nat) (s : State) : State × Reply :=
  tested [(n < Config.segmentSlots, .badField)]
    (fun s =>
      match Table.at? s.segments n with
      | none => (s, .refusalWith .noRecord (modelFigures s))
      | some g => (s, .done (segmentFields s n g ++ modelFigures s))) s

/-- Every field of R3, then the wanted position and whether the valve passes gas (R5). -/
def valveFields (s : State) (n : Nat) (a : Valve) : List Field :=
  [.u16 n, .u8 a.kind.code] ++ opt16 a.endA ++ [.u16 a.endB, .u8 a.normal.code, .u8 a.operation.code] ++
    optTag a.tag ++ [.u8 a.reported.code, yes a.unconfirmed, yes a.inoperable, .u8 a.orderState.code,
      serialField a.orderSerial, yes a.followUp] ++ opt32 a.waitingSince ++
    [.u8 a.hold, .u32 a.lastReport, yes (flagged .valve n s), .u8 a.wanted.code, yes a.passesGas]

/-- READ VALVE (R24), with the same figures as READ SEGMENT (log 34). -/
def readValve (n : Nat) (s : State) : State × Reply :=
  tested [(n < Config.valveSlots, .badField)]
    (fun s =>
      match Table.at? s.valves n with
      | none => (s, .refusalWith .noRecord (modelFigures s))
      | some a => (s, .done (valveFields s n a ++ modelFigures s))) s

/-! ## The commands -/

def execDefineSegment (h : Header) (n tier zone customers : Nat) (s : State) :=
  request (.defineSegment h n tier zone customers) h [] (defineSegment h n tier zone customers) s

def execDefineValve (h : Header) (n k : Nat) (a b : Option Nat) (normal op : Nat) (tag : Option Tag) (r : Nat)
    (s : State) :=
  request (.defineValve h n k a b normal op tag r) h [] (defineValve h n k a b normal op tag r) s

def execOpenModel (h : Header) (s : State) := request (.openModel h) h [] (openModel h) s

def execAlterSegment (h : Header) (n : Nat) (zone customers : Option Nat) (s : State) :=
  request (.alterSegment h n zone customers) h [] (alterSegment h n zone customers) s

def execSplitSegment (h : Header) (n : Nat) (vs ps : List Nat) (customers : Nat) (s : State) :=
  request (.splitSegment h n vs ps customers) h allWork (splitSegment h n vs ps customers) s

def execMergeAtStop (h : Header) (v : Nat) (s : State) :=
  request (.mergeAtStop h v) h allWork (mergeAtStop h v) s

def execReadSegment (h : Header) (n : Nat) (s : State) := request (.readSegment h n) h [] (readSegment n) s

def execReadValve (h : Header) (v : Nat) (s : State) := request (.readValve h v) h [.timeout] (readValve v) s

end Sys2Proof.Machine
end

