-- ==== Sys2Proof/Machine/Incidents.lean ====
section
/-! DEFINITION. The requests of the Incident Register (chapter 5) and its work at a second event. -/

namespace Sys2Proof.Machine

/-! ## REPORT CALL (R88 to R92) -/

/-- First report earliest, then lowest number (R89). -/
def olderIncident (x y : Nat × Incident) : Bool := earlier (x.2.firstReport, x.1) (y.2.firstReport, y.1)

/-- The incident the call joins, or none where a new one is made (R89). -/
def callTarget (seg : Nat) (newIncident : Bool) (mergeInto : Option Nat) (s : State) : Option Nat :=
  match mergeInto with
  | some n => some n
  | none =>
    if newIncident then none
    else (leastBy olderIncident (s.incidents.filter (fun r => r.2.segment = seg))).map Prod.fst

/-- The tests of REPORT CALL (R88). -/
def callTests (h : Header) (ref seg : Nat) (newIncident : Bool) (mergeInto : Option Nat) (s : State) :
    List (Bool × Result) :=
  let target := callTarget seg newIncident mergeInto s
  [(s.running, .notRunning),
    (seg < Config.segmentSlots && mergeInto.all (fun n => n < Config.incidentSlots) &&
      !(newIncident && mergeInto.isSome), .badField),
    (inWindow s h.desk seg, .outOfArea),
    (Table.has s.segments seg, .noRecord),
    (mergeInto.all (fun n => Table.has s.incidents n), .noRecord),
    (mergeInto.all (fun n => Table.test s.incidents n (fun i => inWindow s h.desk i.segment)), .outOfArea),
    (target.all (fun n => Table.test s.incidents n (fun i => i.entries.all (fun e => e.ref != ref))), .duplicate),
    (target.isSome || (Table.lowestFree s.incidents Config.incidentSlots).isSome, .full)]

/-- An incident as a joining call leaves it, before its regrade (R91). -/
def joined (e : CallEntry) (i : Incident) : Incident :=
  { i with callCount := min 255 (i.callCount + 1),
           entries := if i.entries.length < Config.callEntryCapacity then i.entries ++ [e] else i.entries,
           indoor := i.indoor || e.indoor,
           damage := i.damage || e.damage }

/-- A call joins incident `n` (R91). -/
def joinIncident (n : Nat) (e : CallEntry) (s : State) : State :=
  markIncident n (regradeIncident n (s.updIncident n (joined e)))

/-- A new incident made by a call (R86, R90). -/
def calledIncident (seg : Nat) (e : CallEntry) (s : State) : Incident :=
  { newIncident s (if e.damage then .damage else .escape) seg with
    indoor := e.indoor, damage := e.damage, callCount := 1, entries := [e] }

/-- Score, grade, deadline second and overdue flag, as several answers give them (R92, R100). -/
def gradeFields (i : Incident) : List Field := [.u8 i.score, .u8 i.grade.code, .u32 i.deadline, yes i.overdue]

/-- The answer to REPORT CALL (R92). Whether the call joined an incident or made one is sent as a yes/no flag,
yes for joined (log 33). -/
def callFields (n : Nat) (joinedOne stored : Bool) (s : State) : List Field :=
  match Table.at? s.incidents n with
  | none => []
  | some i => [.u16 n, yes joinedOne, .u8 i.callCount, .u8 i.entries.length, yes stored] ++ gradeFields i

def reportCall (h : Header) (ref seg : Nat) (indoor damage newInc : Bool) (mergeInto : Option Nat) (s : State) :
    State × Reply :=
  tested (callTests h ref seg newInc mergeInto s)
    (fun s =>
      let e : CallEntry := { ref := ref, second := s.now, indoor := indoor, damage := damage }
      match callTarget seg newInc mergeInto s with
      | some n =>
        let stored := Table.test s.incidents n (fun i => i.entries.length < Config.callEntryCapacity)
        let s1 := joinIncident n e s
        (s1, .done (callFields n true stored s1))
      | none =>
        match Table.lowestFree s.incidents Config.incidentSlots with
        | none => refuse .full s
        | some n =>
          let s1 := makeIncident n (calledIncident seg e s) s
          (s1, .done (callFields n false true s1))) s

/-! ## Requests on one incident -/

/-- The tests REGRADE and DECLARE CONTROLLED share (R100, R103), the first four of several others. -/
def incidentTests (h : Header) (n : Nat) (s : State) : List (Bool × Result) :=
  [(s.running, .notRunning), (n < Config.incidentSlots, .badField), (Table.has s.incidents n, .noRecord),
    (Table.test s.incidents n (fun i => inWindow s h.desk i.segment), .outOfArea)]

/-- The adjustment of an incident is replaced, and the incident regraded (R100). -/
def adjustIncident (n : Nat) (a : Int) (s : State) : State :=
  let differs := Table.test s.incidents n (fun i => i.adjustment != a)
  let s1 := regradeIncident n (s.updIncident n (fun i => { i with adjustment := a }))
  if differs then markIncident n s1 else s1

def regrade (h : Header) (n : Nat) (a : Int) (s : State) : State × Reply :=
  tested (incidentTests h n s)
    (fun s =>
      let b := clampInt (-64) 63 a
      let s1 := adjustIncident n b s
      (s1, .doneClamped (a != b)
        (.s8 b :: ((Table.at? s1.incidents n).map gradeFields).getD []))) s

def setAllowances (h : Header) (a b c : Nat) (s : State) : State × Reply :=
  tested [(h.desk = 0, .outOfArea)]
    (fun s =>
      let a' := clamp 15 240 a
      let b' := clamp 30 480 b
      let c' := clamp 60 2880 c
      (s.setRegister { s.register with allowanceA := a', allowanceB := b', allowanceC := c' },
        .doneClamped (a' != a || b' != b || c' != c) [.u16 a', .u16 b', .u16 c'])) s

def declareControlled (h : Header) (n : Nat) (s : State) : State × Reply :=
  tested (incidentTests h n s)
    (fun s => (setSafety n (fun _ => .controlled) s, .done [.u8 Safety.controlled.code])) s

/-! ## CLOSE INCIDENT (R104, R105) -/

/-- The incident's plan is none, or its active side is IDLE (R104 step 5). -/
def planIdle (s : State) (i : Incident) : Bool :=
  i.plan.all (fun p => Table.test s.plans p (fun q => q.activeState = .idle))

/-- The plan of a closed incident names it no longer (R105 step 1, R141). -/
def unlinkPlan (p : Option Nat) (s : State) : State :=
  match p with
  | none => s
  | some n => markPlan n (s.updPlan n (fun q => { q with incident := none }))

/-- An offer of a closed incident is cleared (R105 step 2). -/
def unlinkOffer (i : Incident) (s : State) : State :=
  match i.attendance, i.offerDesk with
  | .offered, some d => clearOffer d s
  | _, _ => s

/-- Retire incident `n` (R105). -/
def retireIncident (n : Nat) (i : Incident) (s : State) : State :=
  let s1 := unlinkOffer i (unlinkPlan i.plan s)
  markIncident n (recountIncidents i.segment (s1.setIncidents (Table.del s1.incidents n)))

def closeIncident (h : Header) (n : Nat) (s : State) : State × Reply :=
  tested (incidentTests h n s ++ [(Table.test s.incidents n (planIdle s), .wrongState)])
    (fun s =>
      match Table.at? s.incidents n with
      | none => refuse .noRecord s
      | some i =>
        let s1 := retireIncident n i s
        (s1, .done [.u16 n, .u16 i.segment,
          .u8 (((Table.at? s1.segments i.segment).map (fun g => g.openIncidents)).getD 0)])) s

/-! ## READ INCIDENT (R106) -/

def entryFields (e : CallEntry) : List Field := [.u32 e.ref, .u32 e.second, yes e.indoor, yes e.damage]

/-- Every field of R86 with the call entries after the other fields, then the segment's tier and open
incident count (R106; log 13). -/
def incidentFields (s : State) (n : Nat) (i : Incident) : List Field :=
  [.u16 n, .u8 i.kind.code, .u16 i.segment, .u32 i.firstReport, .u32 i.deadline, .u8 i.score, .u8 i.grade.code,
    yes i.overdue, yes i.indoor, yes i.damage, .u8 i.callCount, .u8 i.attendance.code] ++ opt8 i.offerDesk ++
    opt32 i.offerExpiry ++ [.u8 i.safety.code] ++ opt8 i.plan ++
    [.s8 i.adjustment, yes (flagged .incident n s)] ++ listOf entryFields i.entries ++
    match Table.at? s.segments i.segment with
    | none => []
    | some g => [.u8 g.tier.code, .u8 g.openIncidents]

/-- The figures every DONE or NO RECORD answer gives (R106). -/
def incidentFigures (s : State) (n : Nat) : List Field :=
  opt16 (Table.nextAbove s.incidents n) ++ [.u16 s.incidents.length, yes s.register.full] ++
    opt16 s.register.lastRefused

def readIncident (n : Nat) (s : State) : State × Reply :=
  tested [(s.running, .notRunning), (n < Config.incidentSlots, .badField)]
    (fun s =>
      (clearOnPlace (fun c => { c with incidentFull := true }) s,
        match Table.at? s.incidents n with
        | none => .refusalWith .noRecord (incidentFigures s n)
        | some i => .done (incidentFields s n i ++ incidentFigures s n))) s

/-! ## The commands -/

def execReportCall (h : Header) (ref seg : Nat) (indoor damage newInc : Bool) (mergeInto : Option Nat)
    (s : State) :=
  request (.reportCall h ref seg indoor damage newInc mergeInto) h [.overdue]
    (reportCall h ref seg indoor damage newInc mergeInto) s

def execRegrade (h : Header) (n : Nat) (a : Int) (s : State) :=
  request (.regrade h n a) h [.overdue] (regrade h n a) s

def execSetAllowances (h : Header) (a b c : Nat) (s : State) :=
  request (.setAllowances h a b c) h [] (setAllowances h a b c) s

def execDeclareControlled (h : Header) (n : Nat) (s : State) :=
  request (.declareControlled h n) h [.overdue] (declareControlled h n) s

def execCloseIncident (h : Header) (n : Nat) (s : State) :=
  request (.closeIncident h n) h [.overdue, .expiry] (closeIncident h n) s

def execReadIncident (h : Header) (n : Nat) (s : State) :=
  request (.readIncident h n) h [.overdue, .expiry] (readIncident n) s

def execIncidentOverdue (s : State) := partStep (doWork .overdue) s

end Sys2Proof.Machine
end

