-- ==== Sys2Proof/Machine/Offers.lean ====
section
/-! DEFINITION. The requests of the Dispatch Selector (chapter 6) and its work at a second event. -/

namespace Sys2Proof.Machine

/-! ## OFFER NEXT (R110, R111) -/

/-- The desk's outstanding offer (R108). -/
def offerOf (s : State) (desk : Nat) : Option Nat := Table.at? s.dispatch.offers desk

/-- The offer a desk already holds is withdrawn (R110). -/
def withdrawOffer (desk : Nat) (s : State) : State :=
  match offerOf s desk with
  | none => s
  | some n => attend .unassigned n (clearOffer desk s)

/-- The incident's segment passes the zone filter (R111). -/
def zoneMatches (s : State) (v m : Nat) (i : Incident) : Bool :=
  Table.test s.segments i.segment (fun g => (g.zone &&& m) = (v &&& m))

/-- The candidates of OFFER NEXT (R111). -/
def candidates (s : State) (desk v m : Nat) : List (Nat × Incident) :=
  s.incidents.filter (fun r =>
    r.2.attendance = .unassigned && zoneMatches s v m r.2 && inWindow s desk r.2.segment)

/-- The priority group of an incident (R111). -/
def priorityGroup (i : Incident) : Nat := 2 * i.grade.code + if i.overdue then 0 else 1

/-- The order of choice: group, then deadline second, then number (R111). -/
def chosenBefore (x y : Nat × Incident) : Bool :=
  priorityGroup x.2 < priorityGroup y.2 ||
    (priorityGroup x.2 = priorityGroup y.2 && earlier (x.2.deadline, x.1) (y.2.deadline, y.1))

/-- The incident chosen (R111). -/
def choice (s : State) (desk v m : Nat) : Option Nat :=
  (leastBy chosenBefore (candidates s desk v m)).map Prod.fst

/-- The incident as an offer to a desk leaves it (R111). -/
def Incident.offeredTo (i : Incident) (desk expiry : Nat) : Incident :=
  { i with attendance := .offered, offerDesk := some desk, offerExpiry := some expiry }

/-- Put incident `n` to a desk (R111). -/
def makeOffer (desk n : Nat) (s : State) : State :=
  markDispatch n
    ((s.updIncident n (fun i => i.offeredTo desk (addSeconds s.now s.dispatch.offerTime))).setDispatch
      { s.dispatch with offers := Table.put s.dispatch.offers desk n })

/-- What the answer gives of the chosen incident, the overdue flag before the deadline second (R111). The offer
expiry second, which an incident chosen always holds, is sent without a presence byte (log 33). -/
def offerFields (s : State) (n : Nat) : List Field :=
  match Table.at? s.incidents n with
  | none => []
  | some i =>
    [.u16 i.segment, .u8 (((Table.at? s.segments i.segment).map (fun g => g.zone)).getD 0), .u8 i.score,
      .u8 i.grade.code, yes i.overdue, .u32 i.deadline, .u8 i.safety.code, .u8 i.callCount,
      .u32 (i.offerExpiry.getD 0)]

def offerNext (h : Header) (v m : Nat) (s : State) : State × Reply :=
  tested [(s.running, .notRunning), (v < 256 && m < 256, .badField)]
    (fun s =>
      let s1 := withdrawOffer h.desk s
      let found := .u16 (candidates s1 h.desk v m).length
      match choice s1 h.desk v m with
      | none => (s1, .done (found :: opt16 none))
      | some n =>
        let s2 := makeOffer h.desk n s1
        (s2, .done (found :: opt16 (some n) ++ offerFields s2 n))) s

/-! ## Ending an offer (R113, R114) -/

/-- The tests that ACCEPT OFFER and DECLINE OFFER share (R113, R114). -/
def offerTests (h : Header) (n : Nat) (s : State) : List (Bool × Result) :=
  [(s.running, .notRunning), (n < Config.incidentSlots, .badField), (offerOf s h.desk = some n, .tooLate)]

/-- Segment and deadline second of an incident (R113). -/
def acceptFields (s : State) (n : Nat) : List Field :=
  match Table.at? s.incidents n with
  | none => []
  | some i => [.u16 i.segment, .u32 i.deadline]

def acceptOffer (h : Header) (n : Nat) (s : State) : State × Reply :=
  tested (offerTests h n s)
    (fun s =>
      let s1 := attend .dispatched n (clearOffer h.desk s)
      (s1, .done (.u16 n :: acceptFields s1 n))) s

def declineOffer (h : Header) (n : Nat) (s : State) : State × Reply :=
  tested (offerTests h n s)
    (fun s => (attend .unassigned n (clearOffer h.desk s), .done [.u16 n])) s

/-! ## DISPATCH DIRECT and REPORT ATTENDED (R115, R116) -/

/-- The incident is OFFERED to a desk other than the sending one (R115). -/
def Incident.offeredElsewhere (i : Incident) (desk : Nat) : Bool :=
  i.attendance = .offered && i.offerDesk != some desk

/-- An admitted DISPATCH DIRECT acts by the incident's attendance (R115). -/
def sendCrew (desk n : Nat) (s : State) : State :=
  match (Table.at? s.incidents n).map Incident.attendance with
  | some .unassigned => attend .dispatched n s
  | some .offered => attend .dispatched n (clearOffer desk s)
  | _ => s

def dispatchDirect (h : Header) (n : Nat) (s : State) : State × Reply :=
  tested (incidentTests h n s ++
      [(Table.test s.incidents n (fun i => !i.offeredElsewhere h.desk), .busy),
        (Table.test s.incidents n (fun i => i.attendance != .attended), .wrongState)])
    (fun s => (sendCrew h.desk n s, .done [.u16 n, .u8 Attendance.dispatched.code])) s

/-- The offer of an incident is cleared, whichever desk holds it (R116). -/
def clearOfferOf (i : Incident) (s : State) : State :=
  match i.attendance, i.offerDesk with
  | .offered, some d => clearOffer d s
  | _, _ => s

/-- An admitted REPORT ATTENDED acts by the incident's attendance (R116). -/
def crewOnSite (n : Nat) (s : State) : State :=
  match Table.at? s.incidents n with
  | none => s
  | some i => if i.attendance = .attended then s else attend .attended n (clearOfferOf i s)

/-- Overdue flag and deadline second of an incident (R116). -/
def attendedFields (s : State) (n : Nat) : List Field :=
  match Table.at? s.incidents n with
  | none => []
  | some i => [yes i.overdue, .u32 i.deadline]

def reportAttended (h : Header) (n : Nat) (s : State) : State × Reply :=
  tested (incidentTests h n s)
    (fun s =>
      let s1 := crewOnSite n s
      (s1, .done (.u16 n :: attendedFields s1 n))) s

/-! ## SET OFFER TIME (R109) -/

def setOfferTime (h : Header) (n : Nat) (s : State) : State × Reply :=
  tested [(h.desk = 0, .outOfArea)]
    (fun s =>
      let t := clamp 30 600 n
      (s.setDispatch { s.dispatch with offerTime := t }, .doneClamped (t != n) [.u16 t])) s

/-! ## The commands -/

def execOfferNext (h : Header) (v m : Nat) (s : State) :=
  request (.offerNext h v m) h [.overdue, .expiry] (offerNext h v m) s

def execAcceptOffer (h : Header) (n : Nat) (s : State) :=
  request (.acceptOffer h n) h [.overdue, .expiry] (acceptOffer h n) s

def execDeclineOffer (h : Header) (n : Nat) (s : State) :=
  request (.declineOffer h n) h [.overdue, .expiry] (declineOffer h n) s

def execDispatchDirect (h : Header) (n : Nat) (s : State) :=
  request (.dispatchDirect h n) h [.overdue, .expiry] (dispatchDirect h n) s

def execReportAttended (h : Header) (n : Nat) (s : State) :=
  request (.reportAttended h n) h [.overdue, .expiry] (reportAttended h n) s

def execSetOfferTime (h : Header) (n : Nat) (s : State) :=
  request (.setOfferTime h n) h [] (setOfferTime h n) s

def execOfferExpiry (s : State) := partStep (doWork .expiry) s

end Sys2Proof.Machine
end

