-- ==== Sys2Proof/Machine/OrderRequests.lean ====
section
/-! DEFINITION. The requests of the Order Unit (chapter 8) and its work at a second event. -/

namespace Sys2Proof.Machine

/-- The tests of the requests that name a valve (R148, R157). -/
def valveTests (h : Header) (v : Nat) (fieldOk : Bool) (s : State) : List (Bool × Result) :=
  [(s.running, .notRunning), (v < Config.valveSlots && fieldOk, .badField), (Table.has s.valves v, .noRecord),
    (h.desk = 0 || Table.test s.valves v (fun a => a.inWindow s h.desk), .outOfArea)]

/-! ## REPORT VALVE (R148) -/

/-- What REPORT VALVE answers of the valve (R148). -/
def reportFields (s : State) (v : Nat) : List Field :=
  match Table.at? s.valves v with
  | none => []
  | some a => [.u8 a.reported.code, .u8 a.wanted.code, .u8 a.orderState.code, serialField a.orderSerial, .u8 a.hold]

def reportValve (h : Header) (v position : Nat) (s : State) : State × Reply :=
  tested (valveTests h v (Reported.ofCode? position).isSome s)
    (fun s =>
      let s1 := positionReport v ((Reported.ofCode? position).getD .unknown) s
      (s1, .done (reportFields s1 v))) s

/-! ## FETCH ORDER (R153) -/

/-- The seconds a channel's order time gives (R153). -/
def orderSeconds (u : OrderUnit) : Channel → Nat
  | .remote => u.remoteTime * 60
  | .crew => u.crewTime * 60

/-- The order a desk's fetch takes (R153). -/
def nextOrder (s : State) (desk : Nat) : Option (Nat × Order) :=
  leastBy fetchBefore (s.orders.filter (fun r => fetchable s desk r.2))

/-- An order as its fetch leaves it (R153). -/
def Order.fetchedAt (o : Order) (now expiry : Nat) : Order :=
  { o with state := .fetched, fetched := some now, expiry := some expiry }

/-- Fetch the order with serial `n` (R153). -/
def takeOrder (n : Nat) (o : Order) (s : State) : State :=
  changeValve o.valve (fun a => { a with orderState := .fetched })
    (s.putOrder n (o.fetchedAt s.now (addSeconds s.now (orderSeconds s.orderUnit o.channel))))

/-- The QUEUED orders in the list. -/
def queuedCount (s : State) : Nat := Table.count s.orders (fun o => o.state = .queued)

/-- What FETCH ORDER answers of the order taken (R153). The expiry second, which a fetched order always holds, is
sent without a presence byte (log 33). -/
def fetchFields (s : State) (n : Nat) (o : Order) : List Field :=
  [.u16 n, .u16 o.valve, .u8 o.action.code, .u8 o.channel.code,
    .u32 (addSeconds s.now (orderSeconds s.orderUnit o.channel))] ++
    match Table.at? s.valves o.valve with
    | none => []
    | some a => .u8 a.kind.code :: opt16 a.endA ++ [.u16 a.endB] ++ optTag a.tag

/-- FETCH ORDER (R153). The number of QUEUED orders still in the list is sent as one of R187's counts of orders in
the list, two bytes wide (log 33). -/
def fetchOrder (h : Header) (s : State) : State × Reply :=
  tested [(s.running, .notRunning)]
    (fun s =>
      match nextOrder s h.desk with
      | none => (s, .done [serialField none])
      | some r =>
        let s1 := takeOrder r.1 r.2 s
        (s1, .done (fetchFields s r.1 r.2 ++ [.u16 (queuedCount s1)]))) s

/-! ## WITHDRAW ORDER (R156) -/

/-- The valve of an order in the list. -/
def orderValve (s : State) (n : Nat) : Option Nat := (Table.at? s.orders n).map Order.valve

/-- Carry out `f` without a notice and without an attention flag (R144, R156; log 16). -/
def silently (f : State → State) (s : State) : State := ((f s).setNotices s.notices).setPort s.port

/-- An admitted WITHDRAW ORDER of the order with serial `n`, for valve `v` (R156). -/
def withdraw (n v : Nat) (s : State) : State :=
  silently (fun s => drawWaiting (settleOrder .stalled v (s.setOrders (Table.del s.orders n)))) s

def withdrawOrder (h : Header) (n : Nat) (s : State) : State × Reply :=
  tested [(s.running, .notRunning), (1 ≤ n && n ≤ 65535, .badField), (Table.has s.orders n, .noRecord),
      (h.desk = 0 || (orderValve s n).any (fun v => Table.test s.valves v (fun a => a.inWindow s h.desk)),
        .outOfArea)]
    (fun s =>
      match orderValve s n with
      | none => refuse .noRecord s
      | some v => (withdraw n v s, .done [.u16 v])) s

/-! ## REISSUE VALVE (R157) -/

/-- The order states that REISSUE VALVE takes (R157). -/
def OrderStatus.reissuable : OrderStatus → Bool
  | .none => true
  | .queued => false
  | .fetched => false
  | .stalled => true
  | .waiting => false

/-- An admitted REISSUE VALVE (R157). -/
def reissue (v : Nat) (s : State) : State :=
  match Table.at? s.valves v with
  | none => s
  | some a =>
    if a.orderState = .stalled then clearFailed v (queueIfOwed v s)
    else if !a.inoperable && !a.atWanted then queueOrder v s
    else s

/-- Order state and order serial (R157). -/
def reissueFields (s : State) (v : Nat) : List Field :=
  match Table.at? s.valves v with
  | none => []
  | some a => [.u8 a.orderState.code, serialField a.orderSerial]

def reissueValve (h : Header) (v : Nat) (s : State) : State × Reply :=
  tested (valveTests h v true s ++
      [(Table.test s.valves v (fun a => a.orderState.reissuable), .wrongState)])
    (fun s =>
      let s1 := reissue v s
      (s1, .done (reissueFields s1 v))) s

/-! ## DECLARE INOPERABLE and RESTORE OPERABLE (R158, R159) -/

/-- NEEDS REVISION is set on every plan whose active list names the valve (R140). -/
def needRevision (v : Nat) (s : State) : State :=
  (Table.which s.plans (fun q => q.active.contains v && !q.needsRevision)).foldl
    (fun s p => markPlan p (s.updPlan p (fun q => { q with needsRevision := true }))) s

/-- Step 2 of R158: a QUEUED order is withdrawn, a WAITING valve leaves WAITING. -/
def dropOrder (v : Nat) (a : Valve) (s : State) : State :=
  match a.orderState with
  | .queued => settleOrder .none v (removeOrder a s)
  | .waiting => settleOrder .none v s
  | .none => s
  | .fetched => s
  | .stalled => s

/-- An admitted DECLARE INOPERABLE (R158). -/
def declare (v : Nat) (s : State) : State :=
  match Table.at? s.valves v with
  | none => s
  | some a =>
    if a.inoperable then s
    else
      let s1 := dropOrder v a (changeValve v (fun a => { a with inoperable := true }) s)
      let s2 := operabilityChanged v (needRevision v s1)
      if a.orderState = .queued then drawWaiting s2 else s2

/-- The order state of a valve (R158, R159). -/
def orderStateField (s : State) (v : Nat) : List Field :=
  match Table.at? s.valves v with
  | none => []
  | some a => [.u8 a.orderState.code]

def declareInoperable (h : Header) (v : Nat) (s : State) : State × Reply :=
  tested (valveTests h v true s)
    (fun s =>
      let s1 := declare v s
      (s1, .done (orderStateField s1 v))) s

/-- An admitted RESTORE OPERABLE (R159). -/
def restore (v : Nat) (s : State) : State :=
  match Table.at? s.valves v with
  | none => s
  | some a =>
    if !a.inoperable then s
    else
      let s1 := wantedChanges [v] (changeValve v (fun a => { a with inoperable := false }) s)
      let s2 := operabilityChanged v s1
      if a.orderState = .stalled && !stalled s2 v then clearFailed v s2 else s2

def restoreOperable (h : Header) (v : Nat) (s : State) : State × Reply :=
  tested (valveTests h v true s)
    (fun s =>
      let s1 := restore v s
      (s1, .done (orderStateField s1 v))) s

/-! ## SET ORDER TIMES (R155) -/

def setOrderTimes (h : Header) (remote crew : Nat) (s : State) : State × Reply :=
  tested [(h.desk = 0, .outOfArea)]
    (fun s =>
      let r := clamp 1 30 remote
      let c := clamp 10 240 crew
      (s.setOrderUnit { s.orderUnit with remoteTime := r, crewTime := c },
        .doneClamped (r != remote || c != crew) [.u8 r, .u8 c])) s

/-! ## READ ORDERS (R161) -/

/-- The FETCHED orders' place in a listing: expiry second, then serial (R161). -/
def expiresBefore (x y : Nat × Order) : Bool := earlier (x.2.expiry.getD 0, x.1) (y.2.expiry.getD 0, y.1)

/-- The orders of a selection, QUEUED in fetch order, then FETCHED by expiry (R161). -/
def selectedOrders (s : State) (sel : OrderSelection) : List (Nat × Order) :=
  let queued := sortBy fetchBefore (s.orders.filter (fun r => r.2.state = .queued))
  let fetched := sortBy expiresBefore (s.orders.filter (fun r => r.2.state = .fetched))
  match sel with
  | .all => queued ++ fetched
  | .queued => queued
  | .fetched => fetched

/-- The most orders one READ ORDERS gives (R161). -/
def orderListing : Nat := 16

/-- Every field of R145. -/
def orderFields (r : Nat × Order) : List Field :=
  [.u16 r.1, .u16 r.2.valve, .u8 r.2.action.code, .u8 r.2.channel.code, .u8 r.2.state.code, .u32 r.2.queued] ++
    opt32 r.2.fetched ++ opt32 r.2.expiry

/-- An indication with the last valve concerned. -/
def indicationFields (x : Indication) : List Field := yes x.set :: opt16 x.valve

/-- The answer to READ ORDERS (R161). -/
def ordersFields (s : State) (start : Nat) (sel : OrderSelection) : List Field :=
  let rest := (selectedOrders s sel).drop start
  [.u16 s.orders.length, .u16 (queuedCount s), .u16 (Table.count s.orders (fun o => o.state = .fetched)),
      .u16 (waitingValves s).length, .u16 s.orderUnit.nextSerial, .u8 s.orderUnit.remoteTime,
      .u8 s.orderUnit.crewTime] ++
    indicationFields s.orderUnit.unplanned ++ indicationFields s.orderUnit.timeout ++
    listOf orderFields (rest.take orderListing) ++ [yes (orderListing < rest.length)]

def readOrders (start selection : Nat) (s : State) : State × Reply :=
  tested [(s.running, .notRunning), (start < 256 && (OrderSelection.ofCode? selection).isSome, .badField)]
    (fun s =>
      (clearOnPlace (fun c => { c with orderIndications := true }) s,
        .done (ordersFields s start ((OrderSelection.ofCode? selection).getD .all)))) s

/-! ## The commands -/

def execReportValve (h : Header) (v position : Nat) (s : State) :=
  request (.reportValve h v position) h [.overdue, .timeout, .windowEnd] (reportValve h v position) s

def execFetchOrder (h : Header) (s : State) := request (.fetchOrder h) h [.timeout] (fetchOrder h) s

def execWithdrawOrder (h : Header) (n : Nat) (s : State) :=
  request (.withdrawOrder h n) h [.timeout] (withdrawOrder h n) s

def execReissueValve (h : Header) (v : Nat) (s : State) :=
  request (.reissueValve h v) h [.timeout] (reissueValve h v) s

def execDeclareInoperable (h : Header) (v : Nat) (s : State) :=
  request (.declareInoperable h v) h [.overdue, .timeout, .windowEnd] (declareInoperable h v) s

def execRestoreOperable (h : Header) (v : Nat) (s : State) :=
  request (.restoreOperable h v) h [.overdue, .timeout, .windowEnd] (restoreOperable h v) s

def execSetOrderTimes (h : Header) (remote crew : Nat) (s : State) :=
  request (.setOrderTimes h remote crew) h [] (setOrderTimes h remote crew) s

def execReadOrders (h : Header) (start selection : Nat) (s : State) :=
  request (.readOrders h start selection) h [.timeout] (readOrders start selection) s

def execOrderTimeout (s : State) := partStep (doWork .timeout) s

end Sys2Proof.Machine
end

