-- ==== Sys2Proof/Machine/Plans.lean ====
section
/-! DEFINITION. The requests of the Plan Engine (chapter 7) and the Verification Unit's work at a second
event. -/

namespace Sys2Proof.Machine

/-! ## CREATE PLAN and DELETE PLAN (R120 to R122) -/

/-- The target segment: the one given, or else the incident's (R120 step 4). -/
def planTarget (s : State) (incident target : Option Nat) : Option Nat :=
  match target with
  | some n => some n
  | none => incident.bind (fun i => (Table.at? s.incidents i).map Incident.segment)

/-- The field tests of CREATE PLAN (R120 step 2). -/
def createFieldTest (incident target : Option Nat) (mode : Nat) : Bool :=
  incident.all (fun i => i < Config.incidentSlots) && target.all (fun t => t < Config.segmentSlots) &&
    (incident.isSome || target.isSome) && (PlanMode.ofCode? mode).isSome

/-- The tests of CREATE PLAN (R120). -/
def createTests (h : Header) (incident target : Option Nat) (mode : Nat) (s : State) : List (Bool × Result) :=
  [(s.running, .notRunning),
    (createFieldTest incident target mode, .badField),
    (incident.all (Table.has s.incidents), .noRecord),
    ((planTarget s incident target).any (Table.has s.segments), .noRecord),
    ((planTarget s incident target).any (inWindow s h.desk), .outOfArea),
    (incident.all (fun i => Table.test s.incidents i (fun r => r.plan = none)), .busy),
    ((Table.lowestFree s.plans Config.planSlots).isSome, .full)]

/-- A plan as it comes into use (R118). -/
def newPlan (incident : Option Nat) (target : Nat) (mode : PlanMode) (window rise keep : Nat) : Plan :=
  { incident := incident, target := target, mode := mode, window := window, rise := rise, keep := keep,
    draftState := .empty, editor := none, draft := [], activeState := .idle, active := [], verdict := .none,
    orderFailed := false, needsRevision := false, test := .none }

/-- The incident of a plan takes, or gives up, the plan (R121, R122). -/
def linkIncident (incident plan : Option Nat) (s : State) : State :=
  match incident with
  | none => s
  | some i => markIncident i (s.updIncident i (fun r => { r with plan := plan }))

/-- The window of a plan: clamped, and 30 minutes where none is given (R118, R120). -/
def planWindow (window : Option Nat) : Nat := (window.map (clamp 5 120)).getD 30

def createPlan (h : Header) (incident target : Option Nat) (mode : Nat) (window rise keep : Option Nat)
    (s : State) : State × Reply :=
  tested (createTests h incident target mode s)
    (fun s =>
      match planTarget s incident target, Table.lowestFree s.plans Config.planSlots with
      | some t, some p =>
        let q := newPlan incident t ((PlanMode.ofCode? mode).getD .cumulative) (planWindow window)
          (rise.getD 200) (keep.getD 64)
        (linkIncident incident (some p) (markPlan p (s.putPlan p q)),
          .doneClamped (window.any (fun w => clamp 5 120 w != w))
            [.u8 p, .u16 t, .u8 q.window, .u16 q.rise, .u8 q.keep])
      | _, _ => refuse .full s) s

/-- The common tests of the requests that name a plan (R122, R123, R137). -/
def planTests (h : Header) (p : Nat) (s : State) : List (Bool × Result) :=
  [(s.running, .notRunning), (p < Config.planSlots, .badField), (Table.has s.plans p, .noRecord),
    (Table.test s.plans p (fun q => inWindow s h.desk q.target), .outOfArea)]

/-- A plan that DELETE PLAN takes: IDLE, with an EMPTY draft that holds no list (R122). -/
def Plan.deletable (q : Plan) : Bool := q.activeState = .idle && q.draftState = .empty && q.draft = []

/-- An admitted DELETE PLAN (R122). -/
def discardPlan (p : Nat) (q : Plan) (s : State) : State :=
  let s1 := linkIncident q.incident none s
  markPlan p (s1.setPlans (Table.del s1.plans p))

def deletePlan (h : Header) (p : Nat) (s : State) : State × Reply :=
  tested (planTests h p s ++ [(Table.test s.plans p Plan.deletable, .wrongState)])
    (fun s =>
      match Table.at? s.plans p with
      | none => refuse .noRecord s
      | some q => (discardPlan p q s, .done [])) s

/-! ## The draft requests (R123 to R128) -/

/-- The common tests with a valve number given (R123). -/
def draftTests (h : Header) (p v : Nat) (s : State) : List (Bool × Result) :=
  [(s.running, .notRunning), (p < Config.planSlots && v < Config.valveSlots, .badField),
    (Table.has s.plans p, .noRecord), (Table.test s.plans p (fun q => inWindow s h.desk q.target), .outOfArea)]

/-- The draft is in EDIT with the desk as its editor (R125 to R128). -/
def Plan.editedBy (q : Plan) (desk : Nat) : Bool := q.draftState = .edit && q.editor = some desk

/-- The draft list of a plan. -/
def draftFields (s : State) (p : Nat) : List Field := list16 (((Table.at? s.plans p).map Plan.draft).getD [])

/-- The draft as LOCK DRAFT takes it (R124). -/
def Plan.lockedBy (q : Plan) (desk : Nat) (copyActive : Bool) : Plan :=
  { q with draftState := .edit, editor := some desk, draft := if copyActive then q.active else q.draft }

/-- Draft state, editor and draft list (R124). -/
def lockFields (s : State) (p : Nat) : List Field :=
  match Table.at? s.plans p with
  | none => []
  | some q => .u8 q.draftState.code :: opt8 q.editor ++ list16 q.draft

/-- An admitted LOCK DRAFT: the editor's own lock changes nothing (R124). -/
def lockPlan (desk p : Nat) (copyActive : Bool) (s : State) : State :=
  if Table.test s.plans p (fun q => q.draftState = .edit) then s
  else markPlan p (s.updPlan p (fun q => q.lockedBy desk copyActive))

def lockDraft (h : Header) (p : Nat) (copyActive : Bool) (s : State) : State × Reply :=
  tested (planTests h p s ++
      [(Table.test s.plans p (fun q => q.draftState != .edit || q.editor = some h.desk), .busy)])
    (fun s =>
      let s1 := lockPlan h.desk p copyActive s
      (s1, .done (lockFields s1 p))) s

/-- Write a plan's draft list (R125, R126). -/
def setDraft (p : Nat) (f : List Nat → List Nat) (s : State) : State :=
  markPlan p (s.updPlan p (fun q => { q with draft := f q.draft }))

def addValve (h : Header) (p v : Nat) (s : State) : State × Reply :=
  tested (draftTests h p v s ++
      [(Table.test s.plans p (fun q => q.editedBy h.desk), .wrongState),
        (Table.has s.valves v, .noRecord),
        (h.desk = 0 || Table.test s.valves v (fun a => a.inWindow s h.desk), .outOfArea),
        (Table.test s.plans p (fun q => !q.draft.contains v), .duplicate),
        (Table.test s.plans p (fun q => q.draft.length < Config.draftCapacity), .full),
        (Table.test s.valves v (fun a => !a.inoperable), .wrongState)])
    (fun s =>
      let s1 := setDraft p (fun l => l ++ [v]) s
      (s1, .done (draftFields s1 p))) s

def removeValve (h : Header) (p v : Nat) (s : State) : State × Reply :=
  tested (draftTests h p v s ++
      [(Table.test s.plans p (fun q => q.editedBy h.desk), .wrongState),
        (Table.test s.plans p (fun q => q.draft.contains v), .noRecord)])
    (fun s =>
      let s1 := setDraft p (fun l => l.filter (fun x => x != v)) s
      (s1, .done (draftFields s1 p))) s

/-- The draft is COMMITTED and waits (R127). -/
def commitPlan (p : Nat) (s : State) : State :=
  markPlan p (s.updPlan p (fun q => { q with draftState := .committed, editor := none }))

/-- Draft state, whether a transfer was made, active state and active list (R127). -/
def commitFields (s : State) (p : Nat) (made : Bool) : List Field :=
  match Table.at? s.plans p with
  | none => []
  | some q => [.u8 q.draftState.code, yes made, .u8 q.activeState.code] ++ list16 q.active

def commitDraft (h : Header) (p : Nat) (s : State) : State × Reply :=
  tested (planTests h p s ++
      [(Table.test s.plans p (fun q => q.editedBy h.desk), .wrongState),
        (Table.test s.plans p (fun q => q.draft != []), .badField)])
    (fun s =>
      let s1 := commitPlan p s
      let made := Table.test s1.plans p Plan.ready
      let s2 := if made then transfer p s1 else s1
      (s2, .done (commitFields s2 p made))) s

/-- The draft is EMPTY and keeps its list (R128). -/
def unlockPlan (p : Nat) (s : State) : State :=
  markPlan p (s.updPlan p (fun q => { q with draftState := .empty, editor := none }))

def unlockDraft (h : Header) (p : Nat) (s : State) : State × Reply :=
  tested (planTests h p s ++ [(Table.test s.plans p (fun q => q.editedBy h.desk), .wrongState)])
    (fun s =>
      let s1 := unlockPlan p s
      (s1, .done (draftFields s1 p))) s

/-! ## RELEASE PLAN (R137) -/

/-- The active states that RELEASE PLAN takes (R137). -/
def ActiveState.releasable : ActiveState → Bool
  | .idle => false
  | .issuing => true
  | .secured => true
  | .tight => true
  | .passing => true
  | .releasing => false

def releasePlan (h : Header) (p : Nat) (s : State) : State × Reply :=
  tested (planTests h p s ++ [(Table.test s.plans p (fun q => q.activeState.releasable), .wrongState)])
    (fun s =>
      let s1 := release p s
      (s1, .done [.u8 (((Table.at? s1.plans p).map (fun q => q.activeState.code)).getD 0)])) s

/-! ## READ PLAN (R142, R171) -/

/-- One valve of the active list: reported position, hold count, order state, inoperable flag (R142). -/
def activeFields (s : State) (v : Nat) : List Field :=
  .u16 v ::
    match Table.at? s.valves v with
    | none => []
    | some a => [.u8 a.reported.code, .u8 a.hold, .u8 a.orderState.code, yes a.inoperable]

/-- One test entry with its keep threshold (R171). -/
def testEntryFields (keep : Nat) (e : TestEntry) : List Field :=
  [.u16 e.point, .u32 e.p0, .u32 e.latest, .u8 e.state.code, .u32 (keepThreshold e.p0 keep)]

/-- A test as it stands: of one that is NONE, the state alone (R171). -/
def testFields (keep : Nat) : DecayTest → List Field
  | .none => [.u8 0]
  | .running d => [.u8 1, .u32 d.t0, .u32 d.windowEnd] ++ listOf (testEntryFields keep) d.entries
  | .ended d => [.u8 2, .u32 d.t0, .u32 d.windowEnd] ++ listOf (testEntryFields keep) d.entries

/-- Every field of R118, the two lists after the other fields, then the test (R142; log 13). -/
def planFields (s : State) (p : Nat) (q : Plan) : List Field :=
  .u8 p :: opt16 q.incident ++
    [.u16 q.target, .u8 q.mode.code, .u8 q.window, .u16 q.rise, .u8 q.keep, .u8 q.draftState.code] ++
    opt8 q.editor ++
    [.u8 q.activeState.code, .u8 q.verdict.code, yes q.orderFailed, yes q.needsRevision,
      yes (flagged .plan p s)] ++
    list16 q.draft ++ listOf (activeFields s) q.active ++ testFields q.keep q.test

/-- The next plan slot in use and the number of plans in use, which a DONE and a NO RECORD answer give (R142; log 34). -/
def planFigures (s : State) (p : Nat) : List Field := opt8 (Table.nextAbove s.plans p) ++ [.u8 s.plans.length]

/-- READ PLAN (R142). The table figures stand in a DONE and a NO RECORD answer; NOT RUNNING and BAD FIELD have an
empty body (R189; log 34). -/
def readPlan (p : Nat) (s : State) : State × Reply :=
  tested [(s.running, .notRunning), (p < Config.planSlots, .badField)]
    (fun s =>
      match Table.at? s.plans p with
      | none => (s, .refusalWith .noRecord (planFigures s p))
      | some q => (s, .done (planFields s p q ++ planFigures s p))) s

/-! ## The commands -/

def execCreatePlan (h : Header) (i t : Option Nat) (m : Nat) (w a k : Option Nat) (s : State) :=
  request (.createPlan h i t m w a k) h [.overdue] (createPlan h i t m w a k) s

def execDeletePlan (h : Header) (p : Nat) (s : State) :=
  request (.deletePlan h p) h [.overdue, .windowEnd] (deletePlan h p) s

def execLockDraft (h : Header) (p : Nat) (c : Bool) (s : State) :=
  request (.lockDraft h p c) h [.timeout, .windowEnd] (lockDraft h p c) s

def execAddValve (h : Header) (p v : Nat) (s : State) :=
  request (.addValve h p v) h [.timeout, .windowEnd] (addValve h p v) s

def execRemoveValve (h : Header) (p v : Nat) (s : State) :=
  request (.removeValve h p v) h [.timeout, .windowEnd] (removeValve h p v) s

def execCommitDraft (h : Header) (p : Nat) (s : State) :=
  request (.commitDraft h p) h [.overdue, .timeout, .windowEnd] (commitDraft h p) s

def execUnlockDraft (h : Header) (p : Nat) (s : State) :=
  request (.unlockDraft h p) h [.timeout, .windowEnd] (unlockDraft h p) s

def execReleasePlan (h : Header) (p : Nat) (s : State) :=
  request (.releasePlan h p) h [.overdue, .timeout, .windowEnd] (releasePlan h p) s

def execReadPlan (h : Header) (p : Nat) (s : State) :=
  request (.readPlan h p) h [.timeout, .windowEnd] (readPlan p) s

def execWindowEnd (s : State) := partStep (doWork .windowEnd) s

end Sys2Proof.Machine
end

