-- ==== Sys2Proof/Machine/Pressure.lean ====
section
/-! DEFINITION. The requests of the Pressure Supervisor (chapter 3): DEFINE POINT, ALTER POINT, SET PROFILE. -/

namespace Sys2Proof.Machine

/-! ## DEFINE POINT (R40) -/

/-- A newly defined point (R39). -/
def newPoint (t : Tag) (seg z g group k hyst stale now : Nat) : Point :=
  { tag := t, segment := seg, zero := z, gain := g, group := group, persistence := clamp 1 15 k,
    hysteresis := hyst, staleLimit := clamp 1 60 stale, lastRaw := none, lastPressure := none, valid := false,
    lastContact := now, condition := .ok, band := .normal, candidate := none, count := 0, selected := none }

def definePoint (h : Header) (n : Nat) (t : Tag) (seg z g group k hyst stale : Nat) (s : State) : State × Reply :=
  tested (definitionTests h s ++
      [(n < Config.pointSlots && seg < Config.segmentSlots && g != 0 && group < 32, .badField)])
    (fun s =>
      (unflag .point n (s.putPoint n (newPoint t seg z g group k hyst stale s.now)),
        .doneClamped (clamp 1 15 k != k || clamp 1 60 stale != stale) [.u16 n])) s

/-! ## ALTER POINT (R42, R43) -/

/-- Every field of R39, then the selected entry's thresholds if one is selected (R43). -/
def pointFields (s : State) (n : Nat) : List Field :=
  match Table.at? s.points n with
  | none => []
  | some p =>
    [.u16 n] ++ tagFields p.tag ++ [.u16 p.segment, .u16 p.zero, .u16 p.gain, .u8 p.group, .u8 p.persistence,
      .u16 p.hysteresis, .u8 p.staleLimit] ++ opt16 p.lastRaw ++ opt32 p.lastPressure ++
      [yes p.valid, .u32 p.lastContact, .u8 p.condition.code, .u8 p.band.code] ++
      opt8 (p.candidate.map Band.code) ++ [.u8 p.count] ++ opt8 p.selected ++ [yes (flagged .point n s)] ++
      match p.selected.bind (Table.at? s.profiles) with
      | none => []
      | some e => [.u32 e.ll, .u32 e.l, .u32 e.h, .u32 e.hh]

/-- New calibration: the point loses its converted value and its run toward a band (R43). -/
def recalibrate (n : Nat) (z g : Option Nat) (s : State) : State :=
  let s1 := s.updPoint n (fun p =>
    { p with zero := z.getD p.zero, gain := g.getD p.gain, lastPressure := none, valid := false,
             candidate := none, count := 0 })
  if Table.test s1.points n (fun p => p.condition = .overRange) then setCondition n .ok s1 else s1

/-- A new profile group; a different one reselects the point (R43, R51). -/
def regroup (n g : Nat) (s : State) : State :=
  let differs := Table.test s.points n (fun p => p.group != g)
  let s1 := s.updPoint n (fun p => { p with group := g })
  if differs then reselectPoint none n s1 else s1

/-- The fields given are written (R43). -/
def alterFields (n : Nat) (z g group k hyst stale : Option Nat) (s : State) : State :=
  let s1 := if z.isSome || g.isSome then recalibrate n z g s else s
  let s2 := match group with
    | none => s1
    | some x => regroup n x s1
  flag .point n (s2.updPoint n (fun p =>
    { p with persistence := (k.map (clamp 1 15)).getD p.persistence,
             hysteresis := hyst.getD p.hysteresis,
             staleLimit := (stale.map (clamp 1 60)).getD p.staleLimit }))

def alterPoint (h : Header) (n : Nat) (z g group k hyst stale : Option Nat) (s : State) : State × Reply :=
  if z = none && g = none && group = none && k = none && hyst = none && stale = none then
    tested [(n < Config.pointSlots, .badField), (Table.has s.points n, .noRecord)]
      (fun s => (s, .done (pointFields s n))) s
  else
    tested [(s.running, .notRunning),
        (n < Config.pointSlots && g.all (fun x => x != 0) && group.all (fun x => x < 32), .badField),
        (Table.has s.points n, .noRecord),
        (Table.test s.points n (fun p => inWindow s h.desk p.segment), .outOfArea),
        (!((z.isSome || g.isSome) && underTest s n), .wrongState)]
      (fun s =>
        let s1 := alterFields n z g group k hyst stale s
        (s1, .doneClamped (k.any (fun x => clamp 1 15 x != x) || stale.any (fun x => clamp 1 60 x != x))
          (pointFields s1 n))) s

/-! ## SET PROFILE (R49) -/

/-- The profile entry with its thresholds clamped (R49 step 3). -/
def clampedProfile (group pv pm ll l hi hh : Nat) (enabled : Bool) : Profile :=
  { group := group, periodValue := pv, periodMask := pm, ll := min Config.topPressure ll,
    l := min Config.topPressure l, h := min Config.topPressure hi, hh := min Config.topPressure hh,
    enabled := enabled }

/-- The order the thresholds must keep: LL ≤ L < H ≤ HH (R48, R49). -/
def Profile.ordered (e : Profile) : Bool := e.ll ≤ e.l && e.l < e.h && e.h ≤ e.hh

/-- Write an entry; while RUNNING the points of its group, old and new, are reselected (R49, R51). -/
def writeProfile (n : Nat) (e : Profile) (s : State) : State :=
  let old := (Table.at? s.profiles n).map (fun p => p.group)
  let s1 := s.setProfiles (Table.put s.profiles n e)
  if s.running then reselect (some n) (fun p => p.group = e.group || old = some p.group) s1 else s1

def setProfile (h : Header) (n group pv pm ll l hi hh : Nat) (enabled : Bool) (s : State) : State × Reply :=
  let e := clampedProfile group pv pm ll l hi hh enabled
  tested [(h.desk = 0, .outOfArea), (n < Config.profileSlots && group < 32, .badField), (e.ordered, .badField)]
    (fun s =>
      (writeProfile n e s, .doneClamped ([ll, l, hi, hh].any (fun x => Config.topPressure < x)) [.u8 n])) s

/-! ## The commands -/

def execDefinePoint (h : Header) (n : Nat) (t : Tag) (seg z g group k hyst stale : Nat) (s : State) :=
  request (.definePoint h n t seg z g group k hyst stale) h [] (definePoint h n t seg z g group k hyst stale) s

def execAlterPoint (h : Header) (n : Nat) (z g group k hyst stale : Option Nat) (s : State) :=
  request (.alterPoint h n z g group k hyst stale) h [.staleness, .windowEnd]
    (alterPoint h n z g group k hyst stale) s

def execSetProfile (h : Header) (n group pv pm ll l hi hh : Nat) (enabled : Bool) (s : State) :=
  request (.setProfile h n group pv pm ll l hi hh enabled) h [.staleness]
    (setProfile h n group pv pm ll l hi hh enabled) s

end Sys2Proof.Machine
end

