-- ==== Sys2Proof/Machine/Supply.lean ====
section
/-! DEFINITION. The commands of the Supply Tracer (chapter 4): PUBLICATION, READ TRACE, READ OUTAGE and
REPORT RELIT. -/

namespace Sys2Proof.Machine

/-- A RUNNING pass ends and publishes; with no pass there is nothing to publish (R68, R69; log 3). -/
def publication (s : State) : State :=
  match s.tracer.pass with
  | .idle => s
  | .running inp => publish inp s

/-! ## READ TRACE and READ OUTAGE (R84, R85) -/

def Pass.code : Pass → Nat
  | .idle => 0
  | .running _ => 1

def traceFields (s : State) : List Field :=
  let t := s.tracer
  [.u8 t.pass.code, .u8 t.restarts, yes t.rerun, .u16 t.generation] ++ opt32 t.lastPublication ++
    [yes t.overflow, .u16 t.unassigned,
      .u16 (Table.count s.segments (fun g => g.supply = .supplied)),
      .u16 (Table.count s.segments (fun g => g.supply = .unsupplied)),
      .u16 (Table.count s.segments (fun g => g.supply = .relight)),
      .u8 s.outages.length,
      .u8 (Table.count s.outages (fun o => o.state = .active)),
      .u8 (Table.count s.outages (fun o => o.state = .restoring))]

def readTrace (s : State) : State × Reply := (s, .done (traceFields s))

/-- The most members one READ OUTAGE lists (R85). -/
def outageListing : Nat := 64

/-- Every field of R71, then the members from the start segment on (R85). -/
def outageFields (s : State) (n : Nat) (o : Outage) (start : Nat) : List Field :=
  let listed := (members s n).filter (fun r => start ≤ r.1)
  [.u8 n, .u8 o.state.code, .u32 o.start] ++ opt32 o.restoring ++
    [.u16 o.members, .u32 o.customersOff, .u32 o.customersRelit, yes (flagged .outage n s)] ++
    listOf (fun r => [.u16 r.1, .u8 r.2.supply.code, .u32 r.2.relit]) (listed.take outageListing) ++
    [yes (outageListing < listed.length)]

def readOutage (n start : Nat) (s : State) : State × Reply :=
  tested [(n < Config.outageSlots && start < Config.segmentSlots, .badField), (Table.has s.outages n, .noRecord)]
    (fun s =>
      match Table.at? s.outages n with
      | none => refuse .noRecord s
      | some o => (s, .done (outageFields s n o start))) s

/-! ## REPORT RELIT (R80 to R82) -/

/-- A record that has lost a member: retired if it has none left, otherwise counted again (R82 step 3). -/
def leaveOutage (o : Option Nat) (s : State) : State :=
  match o with
  | none => s
  | some n => if members s n = [] then retireOutage n s else flag .outage n (recountOutages s)

/-- The segment is relit (R82). -/
def relightSegment (n : Nat) (g : Segment) (s : State) : State :=
  let s1 := s.putSegment n { g with supply := .supplied, outage := none, relit := 0 }
  let s2 := raise .outage (leaveOutage g.outage (flag .segment n s1))
  if 0 < g.openIncidents then regradeSegment n s2 else s2

/-- Customers are counted back on a segment in RELIGHT (R81). A count of 0 changes nothing. -/
def countRelit (n count : Nat) (g : Segment) (s : State) : State :=
  if count = 0 then s
  else if g.customers ≤ g.relit + count then relightSegment n g s
  else
    raise .outage (recountOutages (flag .segment n
      (s.putSegment n { g with relit := g.relit + count })))

/-- The answer to REPORT RELIT (R82). `before` is the outage the segment named before the request. -/
def relitFields (n : Nat) (before : Option Nat) (s : State) : List Field :=
  match Table.at? s.segments n with
  | none => []
  | some g =>
    [.u8 g.supply.code, .u32 g.relit, .u32 g.customers] ++ opt8 g.outage ++
      match before with
      | none => []
      | some o =>
        match Table.at? s.outages o with
        | none => [.u8 o, yes true]
        | some r => [.u8 o, yes false, .u8 r.state.code, .u32 r.customersOff, .u32 r.customersRelit]

def reportRelit (h : Header) (n count : Nat) (s : State) : State × Reply :=
  tested [(s.running, .notRunning), (n < Config.segmentSlots, .badField), (inWindow s h.desk n, .outOfArea),
      (Table.has s.segments n, .noRecord), (Table.test s.segments n (fun g => g.supply = .relight), .wrongState)]
    (fun s =>
      match Table.at? s.segments n with
      | none => refuse .noRecord s
      | some g =>
        let s1 := countRelit n count g s
        (s1, .doneClamped (g.customers < g.relit + count) (relitFields n g.outage s1))) s

/-! ## The commands -/

def execPublication (s : State) := partStep publication s

def execReadTrace (h : Header) (s : State) := request (.readTrace h) h [] readTrace s

def execReadOutage (h : Header) (n start : Nat) (s : State) :=
  request (.readOutage h n start) h [] (readOutage n start) s

def execReportRelit (h : Header) (n count : Nat) (s : State) :=
  request (.reportRelit h n count) h [.overdue] (reportRelit h n count) s

end Sys2Proof.Machine
end

