-- ==== Sys2Proof/Machine/Telemetry.lean ====
section
/-! DEFINITION. The Telemetry Intake (chapter 2): the receiver, the taking of items, READ STRAYS and
LINK RESET. -/

namespace Sys2Proof.Machine

/-! ## Indications and strays -/

/-- Change what READ STRAYS will report. From the taking of a READ STRAYS to the placing of its answer, changes
go to what is kept for the next one (R38; log 8). -/
def updReport (f : IntakeReport → IntakeReport) (s : State) : State :=
  match s.intake.next with
  | none => s.setIntake { s.intake with report := f s.intake.report }
  | some r => s.setIntake { s.intake with next := some (f r) }

/-- What READ STRAYS would report of the strays an item meets now. -/
def currentReport (s : State) : IntakeReport := s.intake.next.getD s.intake.report

/-- Set the bad-item indication and raise TELEMETRY (R31, R32, R37). -/
def badIndication (s : State) : State := raise .telemetry (updReport (fun r => { r with badItem := true }) s)

/-- A stray tag (R33). -/
def strayTag (t : Tag) (s : State) : State :=
  let r := currentReport s
  if r.strays.contains t then s
  else if r.strays.length < Config.strayCapacity then
    raise .telemetry (updReport (fun r => { r with strays := r.strays ++ [t] }) s)
  else if r.moreStrays then s
  else raise .telemetry (updReport (fun r => { r with moreStrays := true }) s)

/-! ## The receiver (R26 to R30, R194) -/

/-- The eight data bits of a byte, most significant first (R194). -/
def byteOf (l : List BitSample) : Byte :=
  BitVec.ofNat 8 (l.foldl (fun n b => 2 * n + (if b.data then 1 else 0)) 0)

/-- The mark is sampled with the first bit of the byte (R194). -/
def markOf (l : List BitSample) : Bool := (l.head?.map (fun b => b.mark)).getD false

/-- The item that six bytes make (R186). -/
def itemOf : List Byte → Item
  | [k, c, ch, hi, lo, _] =>
    { kind := k.toNat, tag := { concentrator := c.toNat, channel := ch.toNat },
      value := hi.toNat * 256 + lo.toNat }
  | _ => { kind := 0, tag := { concentrator := 0, channel := 0 }, value := 0 }

def setReceiver (r : Receiver) (s : State) : State := s.setIntake { s.intake with receiver := r }

/-- A link reset: the queue and any partial item are discarded, the receiver goes to SEEKING, and READY, which
follows the queue, goes high (R29). -/
def resetLink (s : State) : State := s.setIntake { s.intake with queue := [], receiver := .seeking }

/-- A complete item joins the queue while RUNNING and is discarded while LOADING (R26, R28). -/
def completeItem (bytes : List Byte) (s : State) : State :=
  let s1 := setReceiver .idle s
  if s1.running then s1.setIntake { s1.intake with queue := s1.intake.queue ++ [itemOf bytes] } else s1

/-- A marked byte begins an item: it is received while READY is high, and discarded whole otherwise, which is
an overrun (R26, R27). -/
def beginItem (b : Byte) (s : State) : State :=
  if readyPin s then setReceiver (.receiving [b]) s
  else raise .telemetry (updReport (fun r => { r with overrun := true }) (setReceiver (.discarding 1) s))

/-- Loss of framing: the framing indication, the TELEMETRY notice and a link reset (R30). -/
def loseFraming (s : State) : State :=
  resetLink (raise .telemetry (updReport (fun r => { r with framing := true }) s))

/-- A byte arrives on the telemetry port (R26). -/
def receiveByte (marked : Bool) (b : Byte) (s : State) : State :=
  match s.intake.receiver, marked with
  | .seeking, true => beginItem b s
  | .seeking, false => s
  | .idle, true => beginItem b s
  | .idle, false => loseFraming s
  | .receiving _, true => beginItem b (loseFraming s)
  | .receiving bytes, false =>
    if bytes.length < 5 then setReceiver (.receiving (bytes ++ [b])) s else completeItem (bytes ++ [b]) s
  | .discarding _, true => beginItem b (loseFraming s)
  | .discarding c, false => if c < 5 then setReceiver (.discarding (c + 1)) s else setReceiver .idle s

/-! ## Taking an item (R28, R31 to R36) -/

/-- The kinds of item (R25). -/
inductive ItemKind where
  | reading
  | hold
  | position
  | linkUp
  | linkDown
  | bad
deriving DecidableEq, Repr

/-- What an item taken from the queue is: one of the five kinds, or a bad item (R31, R186). -/
def Item.sort (i : Item) : ItemKind :=
  match i.kind with
  | 1 => .reading
  | 2 => if i.value ≤ 255 then .hold else .bad
  | 3 => if i.value ≤ 3 then .position else .bad
  | 4 => .linkUp
  | 5 => .linkDown
  | _ => .bad

/-- Take the item at the head of the queue, if it is of the kind given (R28). Otherwise this step cannot come
about, and nothing happens (log 3). The blocks the item reaches first do the timed work they owe (R173). -/
def takeItem (k : ItemKind) (owed : List TimedWork) (act : Item → State → State) (s : State) : State :=
  match s.intake.queue with
  | [] => s
  | i :: rest =>
    if i.sort = k then
      let s1 := settle owed s
      act i (s1.setIntake { s1.intake with queue := rest })
    else s

/-- A reading or a hold reaches its point; for a REMOTE valve it is a mismatch, otherwise a stray (R32). -/
def toPoint (t : Tag) (act : Nat → State → State) (s : State) : State :=
  match pointByTag s t with
  | some n => act n s
  | none => if (valveByTag s t).isSome then badIndication s else strayTag t s

/-- A position reaches its REMOTE valve; for a point it is a mismatch, otherwise a stray (R32). -/
def toValve (t : Tag) (act : Nat → State → State) (s : State) : State :=
  match pointByTag s t with
  | some _ => badIndication s
  | none =>
    match valveByTag s t with
    | some v => act v s
    | none => strayTag t s

/-- The position a POSITION item's code reports; 3, FAULT, is reported as UNKNOWN (R32). -/
def positionOfCode : Nat → Reported
  | 0 => .opened
  | 1 => .closed
  | 2 => .moving
  | _ => .unknown

/-- A concentrator's state is set; a change writes its last change second and raises TELEMETRY (R34, R35). -/
def setLink (n : Nat) (l : LinkState) (s : State) : State :=
  if (concentrator s n).state = l then s
  else raise .telemetry (setConcentrator n { state := l, lastChange := s.now } s)

/-- LINK DOWN: the concentrator, then every point and REMOTE valve whose tag names it (R35). -/
def linkDown (n : Nat) (s : State) : State :=
  let s1 := setLink n .down s
  let ps := Table.which s1.points (fun p => p.tag.concentrator = n)
  let vs := Table.which s1.valves (fun v => v.operation = .remote && v.tag.any (fun t => t.concentrator = n))
  vs.foldl (fun s v => loseValve v s) (ps.foldl (fun s p => losePoint p s) s1)

/-! ## Requests -/

/-- The fields of READ STRAYS's answer (R38). -/
def strayFields (c : Option Nat) (s : State) : List Field :=
  let r := s.intake.report
  listOf tagFields r.strays ++ [yes r.moreStrays, yes r.badItem, yes r.overrun, yes r.framing,
    .u8 s.intake.queue.length] ++
    match c with
    | none => []
    | some n => [.u8 (concentrator s n).state.code, .u32 (concentrator s n).lastChange]

def readStrays (c : Option Nat) (s : State) : State × Reply :=
  (s.setIntake { s.intake with next := some .clear }, .done (strayFields c s))

def linkReset (h : Header) (s : State) : State × Reply :=
  tested [(h.desk = 0, .outOfArea)] (fun s => (resetLink s, .done [.u8 s.intake.queue.length])) s

/-! ## The commands -/

def execReadStrays (h : Header) (c : Option Nat) (s : State) := request (.readStrays h c) h [] (readStrays c) s

def execLinkReset (h : Header) (s : State) := request (.linkReset h) h [] (linkReset h) s

/-- A byte is eight samples; fewer or more are no byte (R194). -/
def execTelemetryByte (l : List BitSample) (s : State) :=
  partStep (fun s => if l.length = 8 then receiveByte (markOf l) (byteOf l) s else s) s

/-- A reading reaches the point, and through its hand-offs the segment's incidents and the tests (R59, R60, R61), so
the Supervisor, the Register and the Verification Unit first do what they owe (R173). -/
def execReadingItem (s : State) :=
  partStep (takeItem .reading [.staleness, .overdue, .windowEnd]
    (fun i => toPoint i.tag (fun n => reading n i.value))) s

/-- A hold reaches the blocks that a reading reaches (R47, R173). -/
def execHoldItem (s : State) :=
  partStep (takeItem .hold [.staleness, .overdue, .windowEnd]
    (fun i => toPoint i.tag (fun n => holdReading n i.value))) s

/-- A position reaches the blocks that REPORT VALVE reaches: the Order Unit, the tests of the plans, and by the plan
events and regrades of R102 and R134 the Register (R149, R173). -/
def execPositionItem (s : State) :=
  partStep (takeItem .position [.overdue, .timeout, .windowEnd]
    (fun i => toValve i.tag (fun v => positionReport v (positionOfCode i.value)))) s

def execLinkUpItem (s : State) := partStep (takeItem .linkUp [] (fun i => setLink i.tag.concentrator .up)) s

def execLinkDownItem (s : State) :=
  partStep (takeItem .linkDown [.staleness, .timeout, .windowEnd] (fun i => linkDown i.tag.concentrator)) s

def execBadItem (s : State) := partStep (takeItem .bad [] (fun _ => badIndication)) s

end Sys2Proof.Machine
end

