-- ==== Sys2Proof/Machine/Time.lean ====
section
/-! DEFINITION. The Timebase and the Notice Unit (chapter 10): the second event, the clock, the notices and
the listing of changed records. -/

namespace Sys2Proof.Machine

/-! ## The second event (R172 to R174) -/

/-- The count goes up by 1, and from 4,294,967,295 to 0 (R172). -/
def nextSecond (n : Nat) : Nat := (n + 1) % (Config.lastSecond + 1)

/-- A pulse on SECOND. What the blocks still owe for the second before is done first; then the count moves,
and while RUNNING a changed period code reselects and the blocks owe their timed work (R172, R173, R174). -/
def secondEvent (s : State) : State :=
  let s1 := settle allWork s
  let s2 := s1.setClock { s1.clock with second := nextSecond s1.clock.second,
                                        due := if s1.running then allWork else [] }
  periodChanged s1.clock s2

/-! ## SET CLOCK and SET DAY CLASS (R174, R175) -/

def setClock (h : Header) (n : Nat) (s : State) : State × Reply :=
  tested [(h.desk = 0, .outOfArea)]
    (fun s =>
      let s1 := periodChanged s.clock (s.setClock { s.clock with second := n })
      (s1, .done [.u32 s.clock.second, .u32 s1.clock.second, .u8 (periodCode s1.clock)])) s

def setDayClass (h : Header) (d : Nat) (s : State) : State × Reply :=
  tested [(h.desk = 0, .outOfArea), (d ≤ 7, .badField)]
    (fun s =>
      let s1 := periodChanged s.clock (s.setClock { s.clock with dayClass := d })
      (s1, .done [.u8 s1.clock.dayClass, .u8 (periodCode s1.clock)])) s

/-! ## Notices (R177, R178) -/

def setNoticeEnables (h : Header) (enables : NoticeSet) (s : State) : State × Reply :=
  tested [(h.desk = 0, .outOfArea)]
    (fun s =>
      (s.setNotices { s.notices with enabled := enables }, .done [setField enables, setField s.notices.raised])) s

/-- The answer to GET NOTICES and PEEK NOTICES (R178). -/
def noticeFields (s : State) : List Field :=
  [setField s.notices.raised, setField s.notices.enabled, .u32 s.clock.second, .u8 s.clock.dayClass,
    .u8 (periodCode s.clock)]

def getNotices (s : State) : State × Reply :=
  (clearOnPlace (fun c => { c with notices := s.notices.raised }) s, .done (noticeFields s))

def peekNotices (s : State) : State × Reply := (s, .done (noticeFields s))

/-! ## LIST CHANGED (R180) -/

/-- A slot of a class is in use. -/
def slotInUse (s : State) : RecordClass → Nat → Bool
  | .segment, n => Table.has s.segments n
  | .valve, n => Table.has s.valves n
  | .point, n => Table.has s.points n
  | .incident, n => Table.has s.incidents n
  | .plan, n => Table.has s.plans n
  | .outage, n => Table.has s.outages n

/-- A slot number by the width of its class (R187). -/
def slotField : RecordClass → Nat → Field
  | .segment, n => .u16 n
  | .valve, n => .u16 n
  | .point, n => .u16 n
  | .incident, n => .u16 n
  | .plan, n => .u8 n
  | .outage, n => .u8 n

/-- The slots that a listing gives (R180). -/
def listedSlots (s : State) (c : RecordClass) (maximum : Nat) : List Nat :=
  (s.notices.flags.of c).take (clamp 1 32 maximum)

/-- The answer to LIST CHANGED (R180). Whether a slot is in use or free is sent as a yes/no flag, yes for in use
(log 33). -/
def changedFields (s : State) (c : RecordClass) (maximum : Nat) : List Field :=
  let flags := s.notices.flags.of c
  .u8 c.code :: listOf (fun n => [slotField c n, yes (slotInUse s c n)]) (listedSlots s c maximum) ++
    [.u16 (flags.length - (listedSlots s c maximum).length)]

def listChanged (recordClass maximum : Nat) (s : State) : State × Reply :=
  tested [((RecordClass.ofCode? recordClass).isSome, .badField)]
    (fun s =>
      let c := (RecordClass.ofCode? recordClass).getD .segment
      (clearOnPlace (fun p => { p with slots := some (c, listedSlots s c maximum) }) s,
        .doneClamped (clamp 1 32 maximum != maximum) (changedFields s c maximum))) s

/-! ## The commands -/

def execSecondEvent (s : State) := partStep secondEvent s

def execPointStale (s : State) := partStep (doWork .staleness) s

def execSetClock (h : Header) (n : Nat) (s : State) := request (.setClock h n) h allWork (setClock h n) s

def execSetDayClass (h : Header) (d : Nat) (s : State) :=
  request (.setDayClass h d) h [.staleness] (setDayClass h d) s

def execSetNoticeEnables (h : Header) (e : NoticeSet) (s : State) :=
  request (.setNoticeEnables h e) h [] (setNoticeEnables h e) s

def execGetNotices (h : Header) (s : State) := request (.getNotices h) h [] getNotices s

def execPeekNotices (h : Header) (s : State) := request (.peekNotices h) h [] peekNotices s

def execListChanged (h : Header) (c m : Nat) (s : State) := request (.listChanged h c m) h [] (listChanged c m) s

end Sys2Proof.Machine
end

