-- ==== Sys2Proof/Machine/Requests.lean ====
section
/-! DEFINITION. What the port hands a request frame to once it has passed the port tests: the request's own
meaning. -/

namespace Sys2Proof.Machine

/-- Act on the request that a frame spelled (R183, R188). A frame spells no other command. -/
def actOnFrame (c : Instr) (s : State) : Host.Outcome State Fault Refusal :=
  match c with
  | .defineSegment h a b c d => execDefineSegment h a b c d s
  | .defineValve h a b c d e f g i => execDefineValve h a b c d e f g i s
  | .openModel h => execOpenModel h s
  | .alterSegment h a b c => execAlterSegment h a b c s
  | .splitSegment h a b c d => execSplitSegment h a b c d s
  | .mergeAtStop h a => execMergeAtStop h a s
  | .readSegment h a => execReadSegment h a s
  | .readValve h a => execReadValve h a s
  | .readStrays h a => execReadStrays h a s
  | .linkReset h => execLinkReset h s
  | .definePoint h a b c d e f g i j => execDefinePoint h a b c d e f g i j s
  | .alterPoint h a b c d e f g => execAlterPoint h a b c d e f g s
  | .setProfile h a b c d e f g i j => execSetProfile h a b c d e f g i j s
  | .readTrace h => execReadTrace h s
  | .readOutage h a b => execReadOutage h a b s
  | .reportRelit h a b => execReportRelit h a b s
  | .reportCall h a b c d e f => execReportCall h a b c d e f s
  | .regrade h a b => execRegrade h a b s
  | .setAllowances h a b c => execSetAllowances h a b c s
  | .declareControlled h a => execDeclareControlled h a s
  | .closeIncident h a => execCloseIncident h a s
  | .readIncident h a => execReadIncident h a s
  | .offerNext h a b => execOfferNext h a b s
  | .acceptOffer h a => execAcceptOffer h a s
  | .declineOffer h a => execDeclineOffer h a s
  | .dispatchDirect h a => execDispatchDirect h a s
  | .reportAttended h a => execReportAttended h a s
  | .setOfferTime h a => execSetOfferTime h a s
  | .createPlan h a b c d e f => execCreatePlan h a b c d e f s
  | .deletePlan h a => execDeletePlan h a s
  | .lockDraft h a b => execLockDraft h a b s
  | .addValve h a b => execAddValve h a b s
  | .removeValve h a b => execRemoveValve h a b s
  | .commitDraft h a => execCommitDraft h a s
  | .unlockDraft h a => execUnlockDraft h a s
  | .releasePlan h a => execReleasePlan h a s
  | .readPlan h a => execReadPlan h a s
  | .reportValve h a b => execReportValve h a b s
  | .fetchOrder h => execFetchOrder h s
  | .withdrawOrder h a => execWithdrawOrder h a s
  | .reissueValve h a => execReissueValve h a s
  | .declareInoperable h a => execDeclareInoperable h a s
  | .restoreOperable h a => execRestoreOperable h a s
  | .setOrderTimes h a b => execSetOrderTimes h a b s
  | .readOrders h a b => execReadOrders h a b s
  | .setClock h a => execSetClock h a s
  | .setDayClass h a => execSetDayClass h a s
  | .setNoticeEnables h a => execSetNoticeEnables h a s
  | .getNotices h => execGetNotices h s
  | .peekNotices h => execPeekNotices h s
  | .listChanged h a b => execListChanged h a b s
  | .setDeskArea h a b c => execSetDeskArea h a b c s
  | .malformedRequestFrame _ => .next s
  | .requestDiscarded => .next s
  | .answerPlaced => .next s
  | .readTransaction _ => .next s
  | .telemetryByte _ => .next s
  | .readingItem => .next s
  | .holdItem => .next s
  | .positionItem => .next s
  | .linkUpItem => .next s
  | .linkDownItem => .next s
  | .badItem => .next s
  | .publication => .next s
  | .secondEvent => .next s
  | .pointStale => .next s
  | .incidentOverdue => .next s
  | .offerExpiry => .next s
  | .orderTimeout => .next s
  | .windowEnd => .next s
  | .coldReset _ => .next s

end Sys2Proof.Machine
end

