-- ==== Sys2Proof/Machine/Port.lean ====
section
/-! DEFINITION. The steps of the request port that are not a request of their own (chapter 11), and cold
reset. -/

namespace Sys2Proof.Machine

/-! ## Transactions (R182 to R185) -/

/-- The transaction that was in progress when RESET rose has come to its end (R193). -/
def endSkip (s : State) : State := s.setPort { s.port with skip := false }

/-- Record what SDO carried (R184; log 23). -/
def setSent (l : List Byte) (s : State) : State := s.setPort { s.port with sent := l }

/-- A read transaction that clocks `n` bytes, outside of cold reset (R184). -/
def readAnswer (n : Nat) (s : State) : State :=
  match s.port.state with
  | .answered f =>
    let s1 := setSent (clockOut f.bytes n) s
    if f.bytes.length ≤ n then s1.setPort { s1.port with state := .idle } else s1
  | .idle => setSent (clockOut idleFrame n) s
  | .acting _ _ => setSent (clockOut idleFrame n) s

/-- A read transaction: while RESET is held, and in a transaction that was in progress when RESET rose, 0 is
sent for every byte (R184, R193). -/
def readPort (n : Nat) (s : State) : State :=
  if s.port.held then setSent (List.replicate n 0) s
  else if s.port.skip then setSent (List.replicate n 0) (endSkip s)
  else readAnswer n s

/-- A transaction without a complete byte is ignored (R182). -/
def emptyTransaction (s : State) : State := if s.port.held then s else if s.port.skip then endSkip s else s

/-- A request frame is discarded where the port is in ACTING or ANSWERED (R185); in IDLE no frame is (log 3). -/
def frameDiscarded (s : State) : State :=
  if s.port.held then s
  else if s.port.skip then endSkip s
  else
    match s.port.state with
    | .idle => s
    | .acting _ _ => discardFrame s
    | .answered _ => discardFrame s

/-! ## Placing the answer (R183, R185, R189) -/

/-- The classes that GET NOTICES reported are cleared, but for those raised since (R178). -/
def clearNotices (n : NoticeSet) (s : State) : State :=
  s.setNotices { s.notices with raised := s.notices.raised &&& ~~~ n }

/-- The flags of the slots that LIST CHANGED listed are cleared, but for those set since (R180). -/
def clearSlots (l : Option (RecordClass × List Nat)) (s : State) : State :=
  match l with
  | none => s
  | some (c, slots) => setFlags c ((s.notices.flags.of c).filter (fun n => !slots.contains n)) s

/-- READ INCIDENT clears the incident-full indication (R94). -/
def clearIncidentFull (b : Bool) (s : State) : State :=
  if b then s.setRegister { s.register with full := false, lastRefused := none } else s

/-- READ ORDERS clears both order indications (R161). -/
def clearIndications (b : Bool) (s : State) : State :=
  if b then s.setOrderUnit { s.orderUnit with unplanned := .clear, timeout := .clear } else s

/-- READ STRAYS clears what it reported and leaves what has come since (R38). -/
def clearStrays (s : State) : State :=
  match s.intake.next with
  | none => s
  | some r => s.setIntake { s.intake with report := r, next := none }

/-- What the request that was acted on clears at the placing of its answer (R189). -/
def clearPlaced (p : PlaceClear) (s : State) : State :=
  clearStrays (clearIndications p.orderIndications (clearIncidentFull p.incidentFull
    (clearSlots p.slots (clearNotices p.notices s))))

/-- The answer frame is placed (R183, R185). -/
def placeAnswer (s : State) : State :=
  match s.port.state with
  | .acting tag reply =>
    let s1 := clearPlaced s.port.onPlace s
    s1.setPort
      { s1.port with
        state := .answered { tag := tag, reply := reply, discarded := s.port.discarded, number := s.port.drawn }
        discarded := false
        onPlace := .nothing
        drawn := s.port.drawn + 1 }
  | .idle => s
  | .answered _ => s

/-! ## Cold reset (R193) -/

/-- Every block at its cold-reset values. The queue of commands that wait and the count of answers placed are
the model's own and are kept (log 22). -/
def resetBlocks (held skip : Bool) (s : State) : State :=
  { State.reset with
    pending := s.pending
    port := { State.reset.port with held := held, skip := skip, drawn := s.port.drawn } }

/-- An edge of the RESET input (R193). -/
def resetEdge : ResetEdge → State → State
  | .falls => resetBlocks true false
  | .rises mid => resetBlocks false mid

/-! ## The commands -/

def execRequestDiscarded (s : State) : Host.Outcome State Fault Refusal := .next (frameDiscarded s)

def execAnswerPlaced (s : State) := partStep placeAnswer s

def execReadTransaction (n : Nat) (s : State) : Host.Outcome State Fault Refusal := .next (readPort n s)

/-- A transaction with the bytes the host moved in: by its first byte a read, or a request frame that the port
tests refuse or pass (R182, R188; log 6). -/
def execMalformedRequestFrame (l : List Byte) (s : State) : Host.Outcome State Fault Refusal :=
  match l with
  | [] => .next (emptyTransaction s)
  | first :: rest =>
    if first = 90 then .next (readPort rest.length s)
    else
      match parseFrame (first :: rest) with
      | .refused tag r => .next (atPort (some r) tag (refuse r) s)
      | .passed c => actOnFrame c s

def execColdReset (e : ResetEdge) (s : State) : Host.Outcome State Fault Refusal := .next (resetEdge e s)

end Sys2Proof.Machine
end

