-- ==== Sys2Proof/Machine/Dispatch.lean ====
section
/-! DEFINITION. The effect of each command on everything but the queue: one arm for each row of
spec/opcode_table.json. -/

namespace Sys2Proof.Machine

def exec (i : Instr) (s : State) : Host.Outcome State Fault Refusal :=
  match i with
  -- Requests 1 to 8, of the Network Model (chapter 1).
  | .defineSegment h a b c d => Sys2Proof.Machine.execDefineSegment h a b c d s
  | .defineValve h a b c d e f g m => Sys2Proof.Machine.execDefineValve h a b c d e f g m s
  | .openModel h => Sys2Proof.Machine.execOpenModel h s
  | .alterSegment h a b c => Sys2Proof.Machine.execAlterSegment h a b c s
  | .splitSegment h a b c d => Sys2Proof.Machine.execSplitSegment h a b c d s
  | .mergeAtStop h a => Sys2Proof.Machine.execMergeAtStop h a s
  | .readSegment h a => Sys2Proof.Machine.execReadSegment h a s
  | .readValve h a => Sys2Proof.Machine.execReadValve h a s
  -- Requests 9 to 16, of the Telemetry Intake, the Pressure Supervisor and the Supply Tracer (chapters 2 to 4).
  | .readStrays h a => Sys2Proof.Machine.execReadStrays h a s
  | .linkReset h => Sys2Proof.Machine.execLinkReset h s
  | .definePoint h a b c d e f g m j => Sys2Proof.Machine.execDefinePoint h a b c d e f g m j s
  | .alterPoint h a b c d e f g => Sys2Proof.Machine.execAlterPoint h a b c d e f g s
  | .setProfile h a b c d e f g m j => Sys2Proof.Machine.execSetProfile h a b c d e f g m j s
  | .readTrace h => Sys2Proof.Machine.execReadTrace h s
  | .readOutage h a b => Sys2Proof.Machine.execReadOutage h a b s
  | .reportRelit h a b => Sys2Proof.Machine.execReportRelit h a b s
  -- Requests 17 to 28, of the Incident Register and the Dispatch Selector (chapters 5 and 6).
  | .reportCall h a b c d e f => Sys2Proof.Machine.execReportCall h a b c d e f s
  | .regrade h a b => Sys2Proof.Machine.execRegrade h a b s
  | .setAllowances h a b c => Sys2Proof.Machine.execSetAllowances h a b c s
  | .declareControlled h a => Sys2Proof.Machine.execDeclareControlled h a s
  | .closeIncident h a => Sys2Proof.Machine.execCloseIncident h a s
  | .readIncident h a => Sys2Proof.Machine.execReadIncident h a s
  | .offerNext h a b => Sys2Proof.Machine.execOfferNext h a b s
  | .acceptOffer h a => Sys2Proof.Machine.execAcceptOffer h a s
  | .declineOffer h a => Sys2Proof.Machine.execDeclineOffer h a s
  | .dispatchDirect h a => Sys2Proof.Machine.execDispatchDirect h a s
  | .reportAttended h a => Sys2Proof.Machine.execReportAttended h a s
  | .setOfferTime h a => Sys2Proof.Machine.execSetOfferTime h a s
  -- Requests 29 to 37, of the Plan Engine (chapter 7).
  | .createPlan h a b c d e f => Sys2Proof.Machine.execCreatePlan h a b c d e f s
  | .deletePlan h a => Sys2Proof.Machine.execDeletePlan h a s
  | .lockDraft h a b => Sys2Proof.Machine.execLockDraft h a b s
  | .addValve h a b => Sys2Proof.Machine.execAddValve h a b s
  | .removeValve h a b => Sys2Proof.Machine.execRemoveValve h a b s
  | .commitDraft h a => Sys2Proof.Machine.execCommitDraft h a s
  | .unlockDraft h a => Sys2Proof.Machine.execUnlockDraft h a s
  | .releasePlan h a => Sys2Proof.Machine.execReleasePlan h a s
  | .readPlan h a => Sys2Proof.Machine.execReadPlan h a s
  -- Requests 38 to 45, of the Order Unit (chapter 8).
  | .reportValve h a b => Sys2Proof.Machine.execReportValve h a b s
  | .fetchOrder h => Sys2Proof.Machine.execFetchOrder h s
  | .withdrawOrder h a => Sys2Proof.Machine.execWithdrawOrder h a s
  | .reissueValve h a => Sys2Proof.Machine.execReissueValve h a s
  | .declareInoperable h a => Sys2Proof.Machine.execDeclareInoperable h a s
  | .restoreOperable h a => Sys2Proof.Machine.execRestoreOperable h a s
  | .setOrderTimes h a b => Sys2Proof.Machine.execSetOrderTimes h a b s
  | .readOrders h a b => Sys2Proof.Machine.execReadOrders h a b s
  -- Requests 46 to 52, of the Timebase, the Notice Unit and the Request Port (chapters 10 and 11).
  | .setClock h a => Sys2Proof.Machine.execSetClock h a s
  | .setDayClass h a => Sys2Proof.Machine.execSetDayClass h a s
  | .setNoticeEnables h a => Sys2Proof.Machine.execSetNoticeEnables h a s
  | .getNotices h => Sys2Proof.Machine.execGetNotices h s
  | .peekNotices h => Sys2Proof.Machine.execPeekNotices h s
  | .listChanged h a b => Sys2Proof.Machine.execListChanged h a b s
  | .setDeskArea h a b c => Sys2Proof.Machine.execSetDeskArea h a b c s
  -- Steps that are not requests.
  | .malformedRequestFrame a => Sys2Proof.Machine.execMalformedRequestFrame a s
  | .requestDiscarded => Sys2Proof.Machine.execRequestDiscarded s
  | .answerPlaced => Sys2Proof.Machine.execAnswerPlaced s
  | .readTransaction a => Sys2Proof.Machine.execReadTransaction a s
  | .telemetryByte a => Sys2Proof.Machine.execTelemetryByte a s
  | .readingItem => Sys2Proof.Machine.execReadingItem s
  | .holdItem => Sys2Proof.Machine.execHoldItem s
  | .positionItem => Sys2Proof.Machine.execPositionItem s
  | .linkUpItem => Sys2Proof.Machine.execLinkUpItem s
  | .linkDownItem => Sys2Proof.Machine.execLinkDownItem s
  | .badItem => Sys2Proof.Machine.execBadItem s
  | .publication => Sys2Proof.Machine.execPublication s
  | .secondEvent => Sys2Proof.Machine.execSecondEvent s
  | .pointStale => Sys2Proof.Machine.execPointStale s
  | .incidentOverdue => Sys2Proof.Machine.execIncidentOverdue s
  | .offerExpiry => Sys2Proof.Machine.execOfferExpiry s
  | .orderTimeout => Sys2Proof.Machine.execOrderTimeout s
  | .windowEnd => Sys2Proof.Machine.execWindowEnd s
  | .coldReset a => Sys2Proof.Machine.execColdReset a s

end Sys2Proof.Machine
end

