-- ==== Sys2Proof/Safety.lean ====
section
/-! DEFINITION. The terms in which statements about the part are made: when a request is taken and acted on at
once, the requests among the commands, what gas reaches, and the laws that every step keeps. No command faults
or is refused, so every run is safe in that sense; what a run keeps is said here. -/

namespace Sys2Proof.Machine

/-! ## Taking requests -/

/-- The port takes a request frame: it is IDLE, RESET is not held, and no transaction was cut off by it
(R183, R193). -/
def State.listening (s : State) : Prop := s.port.state = .idle ∧ s.port.held = false ∧ s.port.skip = false

/-- No block owes timed work for the latest second event (R173). -/
def State.caughtUp (s : State) : Prop := s.clock.due = []

/-- A request is taken and acts on the records as they stand. -/
def State.ready (s : State) : Prop := s.listening ∧ s.caughtUp

/-- Outside of cold reset, with no timed work owed: a step that is not a request acts on the records as they
stand. -/
def State.awake (s : State) : Prop := s.port.held = false ∧ s.caughtUp

/-- The header of a request; a command that is no request has none. -/
def requestHeader : Instr → Option Header
  | .defineSegment h _ _ _ _ => some h
  | .defineValve h _ _ _ _ _ _ _ _ => some h
  | .openModel h => some h
  | .alterSegment h _ _ _ => some h
  | .splitSegment h _ _ _ _ => some h
  | .mergeAtStop h _ => some h
  | .readSegment h _ => some h
  | .readValve h _ => some h
  | .readStrays h _ => some h
  | .linkReset h => some h
  | .definePoint h _ _ _ _ _ _ _ _ _ => some h
  | .alterPoint h _ _ _ _ _ _ _ => some h
  | .setProfile h _ _ _ _ _ _ _ _ _ => some h
  | .readTrace h => some h
  | .readOutage h _ _ => some h
  | .reportRelit h _ _ => some h
  | .reportCall h _ _ _ _ _ _ => some h
  | .regrade h _ _ => some h
  | .setAllowances h _ _ _ => some h
  | .declareControlled h _ => some h
  | .closeIncident h _ => some h
  | .readIncident h _ => some h
  | .offerNext h _ _ => some h
  | .acceptOffer h _ => some h
  | .declineOffer h _ => some h
  | .dispatchDirect h _ => some h
  | .reportAttended h _ => some h
  | .setOfferTime h _ => some h
  | .createPlan h _ _ _ _ _ _ => some h
  | .deletePlan h _ => some h
  | .lockDraft h _ _ => some h
  | .addValve h _ _ => some h
  | .removeValve h _ _ => some h
  | .commitDraft h _ => some h
  | .unlockDraft h _ => some h
  | .releasePlan h _ => some h
  | .readPlan h _ => some h
  | .reportValve h _ _ => some h
  | .fetchOrder h => some h
  | .withdrawOrder h _ => some h
  | .reissueValve h _ => some h
  | .declareInoperable h _ => some h
  | .restoreOperable h _ => some h
  | .setOrderTimes h _ _ => some h
  | .readOrders h _ _ => some h
  | .setClock h _ => some h
  | .setDayClass h _ => some h
  | .setNoticeEnables h _ => some h
  | .getNotices h => some h
  | .peekNotices h => some h
  | .listChanged h _ _ => some h
  | .setDeskArea h _ _ _ => some h
  | .malformedRequestFrame _ => none
  | .requestDiscarded => none
  | .answerPlaced => none
  | .readTransaction _ => none
  | .telemetryByte _ => none
  | .readingItem => none
  | .holdItem => none
  | .positionItem => none
  | .linkUpItem => none
  | .linkDownItem => none
  | .badItem => none
  | .publication => none
  | .secondEvent => none
  | .pointStale => none
  | .incidentOverdue => none
  | .offerExpiry => none
  | .orderTimeout => none
  | .windowEnd => none
  | .coldReset _ => none

/-- The command is one of the 52 requests. -/
def isRequest (c : Instr) : Bool := (requestHeader c).isSome

/-- The port holds a request it acts on, with the reply to be placed (R183). -/
def State.replying (s : State) (tag : Nat) (r : Reply) : Prop := s.port.state = .acting tag r

/-! ## What a command leaves alone -/

/-- The parts of the state but for the queue, one for each field; what the placing of an answer still clears is
a part of its own. -/
inductive Part where
  | model
  | stopCount
  | segments
  | valves
  | points
  | profiles
  | concentrators
  | incidents
  | plans
  | outages
  | orders
  | windows
  | intake
  | tracer
  | register
  | dispatch
  | orderUnit
  | clock
  | notices
  | port
  | onPlace
  | pending
deriving DecidableEq, Repr

/-- A part of the state is the same in both. -/
def State.same (s t : State) : Part → Prop
  | .model => t.model = s.model
  | .stopCount => t.stopCount = s.stopCount
  | .segments => t.segments = s.segments
  | .valves => t.valves = s.valves
  | .points => t.points = s.points
  | .profiles => t.profiles = s.profiles
  | .concentrators => t.concentrators = s.concentrators
  | .incidents => t.incidents = s.incidents
  | .plans => t.plans = s.plans
  | .outages => t.outages = s.outages
  | .orders => t.orders = s.orders
  | .windows => t.windows = s.windows
  | .intake => t.intake = s.intake
  | .tracer => t.tracer = s.tracer
  | .register => t.register = s.register
  | .dispatch => t.dispatch = s.dispatch
  | .orderUnit => t.orderUnit = s.orderUnit
  | .clock => t.clock = s.clock
  | .notices => t.notices = s.notices
  | .port => { t.port with onPlace := s.port.onPlace } = s.port
  | .onPlace => t.port.onPlace = s.port.onPlace
  | .pending => t.pending = s.pending

/-- From `s` to `t` no part changes but those of the list. -/
def changesOnly (l : List Part) (s t : State) : Prop := ∀ p, p ∉ l → s.same t p

/-- A notice class is pending (R176). -/
def pendingNotice (v : Notice) (s : State) : Bool := (s.notices.raised &&& v.bit) != 0

/-- The placing of the answer is still to clear a notice class, as GET NOTICES reported it (R178). -/
def clearsNotice (v : Notice) (s : State) : Bool := (s.port.onPlace.notices &&& v.bit) != 0

/-- The placing of the answer is still to clear a slot's flag, as LIST CHANGED listed it (R180). -/
def clearsFlag (k : RecordClass) (n : Nat) (s : State) : Bool :=
  s.port.onPlace.slots.any (fun l => l.1 = k && l.2.contains n)

/-- From `s` to `t` a notice class is raised if `b`: it is pending and the placing of an answer does not clear it
(R176, R178). Otherwise it is as it was. -/
def raisesIf (v : Notice) (b : Bool) (s t : State) : Prop :=
  pendingNotice v t = (pendingNotice v s || b) ∧ clearsNotice v t = (clearsNotice v s && !b)

/-- From `s` to `t` a slot is flagged if `b`: its flag is set and the placing of an answer does not clear it (R179,
R180). Otherwise it is as it was. -/
def flagsIf (k : RecordClass) (n : Nat) (b : Bool) (s t : State) : Prop :=
  flagged k n t = (flagged k n s || b) ∧ clearsFlag k n t = (clearsFlag k n s && !b)

/-- From `s` to `t` the classes of the list are raised, and no others; the enable set is the same, and so are the
indications that the placing of an answer is to clear (R189). -/
def raisesExactly (l : List Notice) (s t : State) : Prop :=
  t.notices.enabled = s.notices.enabled ∧ t.port.onPlace.incidentFull = s.port.onPlace.incidentFull ∧
    t.port.onPlace.orderIndications = s.port.onPlace.orderIndications ∧ ∀ v, raisesIf v (l.contains v) s t

/-- From `s` to `t` the slots of the list are flagged, and no others. -/
def flagsExactly (l : List (RecordClass × Nat)) (s t : State) : Prop :=
  ∀ k n, flagsIf k n (l.contains (k, n)) s t

/-- What a trigger does to the pass state, with inputs taken from the records as `t` has them (R64, R68). -/
def triggers (s t : State) : Prop :=
  match s.tracer.pass with
  | .idle => t.tracer = { s.tracer with pass := .running (takeInputs t) }
  | .running _ =>
    if s.tracer.restarts < 3 then
      t.tracer = { s.tracer with pass := .running (takeInputs t), restarts := s.tracer.restarts + 1 }
    else t.tracer = { s.tracer with rerun := true }

/-! ## Timed work -/

/-- The timed command that does a block's work for the latest second event (R173). -/
def timedCommand : TimedWork → Instr
  | .staleness => .pointStale
  | .overdue => .incidentOverdue
  | .expiry => .offerExpiry
  | .timeout => .orderTimeout
  | .windowEnd => .windowEnd

/-- The timed work whose records a command reaches, which is complete before the command acts: R173 as the model
reads it with the chapters (log 4), in the order of R173 (log 5). A frame of bytes reaches what its request reaches. -/
def workReached : Instr → List TimedWork
  | .defineSegment .. | .defineValve .. | .openModel .. | .alterSegment .. | .readSegment .. | .readStrays ..
  | .linkReset .. | .definePoint .. | .readTrace .. | .readOutage .. | .setAllowances .. | .setOfferTime ..
  | .setOrderTimes .. | .setNoticeEnables .. | .getNotices .. | .peekNotices .. | .listChanged ..
  | .setDeskArea .. | .malformedRequestFrame .. | .requestDiscarded .. | .answerPlaced .. | .readTransaction ..
  | .telemetryByte .. | .linkUpItem .. | .badItem .. | .publication .. | .pointStale .. | .incidentOverdue ..
  | .offerExpiry .. | .orderTimeout .. | .windowEnd .. | .coldReset .. => []
  | .setProfile .. | .setDayClass .. => [.staleness]
  | .reportRelit .. | .reportCall .. | .regrade .. | .declareControlled .. | .createPlan .. => [.overdue]
  | .readValve .. | .fetchOrder .. | .withdrawOrder .. | .reissueValve .. | .readOrders .. => [.timeout]
  | .closeIncident .. | .readIncident .. | .offerNext .. | .acceptOffer .. | .declineOffer ..
  | .dispatchDirect .. | .reportAttended .. => [.overdue, .expiry]
  | .deletePlan .. => [.overdue, .windowEnd]
  | .alterPoint .. => [.staleness, .windowEnd]
  | .lockDraft .. | .addValve .. | .removeValve .. | .unlockDraft .. | .readPlan .. => [.timeout, .windowEnd]
  | .readingItem .. | .holdItem .. => [.staleness, .overdue, .windowEnd]
  | .linkDownItem .. => [.staleness, .timeout, .windowEnd]
  | .commitDraft .. | .releasePlan .. | .reportValve .. | .declareInoperable .. | .restoreOperable ..
  | .positionItem .. => [.overdue, .timeout, .windowEnd]
  | .splitSegment .. | .mergeAtStop .. | .setClock .. | .secondEvent ..
    => [.staleness, .overdue, .expiry, .timeout, .windowEnd]

/-- The commands of a list, carried out one after the other, lead from `s` to `t`. -/
def leadsTo : List Instr → State → State → Prop
  | [], s, t => t = s
  | c :: l, s, t => ∃ u, exec c s = .next u ∧ leadsTo l u t

/-! ## Answers -/

/-- The bytes of one field of an answer (R186, R187). The value bytes of an optional field that holds none may be
any (log 12). -/
def FieldBytes : Field → List Byte → Prop
  | .u8 n, l => l = [BitVec.ofNat 8 n]
  | .u16 n, l => l = [BitVec.ofNat 8 (n / 256), BitVec.ofNat 8 n]
  | .u32 n, l => l = [BitVec.ofNat 8 (n / 16777216), BitVec.ofNat 8 (n / 65536), BitVec.ofNat 8 (n / 256),
      BitVec.ofNat 8 n]
  | .s8 z, l => l = [BitVec.ofInt 8 z]
  | .absent w, l => l.length = w

/-- The bytes of a body: those of its fields, one after the other (R187). -/
def BodyBytes : List Field → List Byte → Prop
  | [], l => l = []
  | f :: rest, l => ∃ x y, l = x ++ y ∧ FieldBytes f x ∧ BodyBytes rest y

/-! ## Tests -/

/-- A decay test and its plan's verdict as R164 starts them from `s`, for a plan of this target and window: an entry
for each point of the target that is OK and valid, RUNNING with at least one entry, ENDED and UNTESTED with none. -/
def testStarted (s : State) (target window : Nat) (test : DecayTest) (v : Verdict) : Prop :=
  let entry (n : Nat) : Option TestEntry :=
    (Table.at? s.points n).bind (fun p => if p.condition = .ok ∧ p.valid = true
      then p.lastPressure.map (fun x => { point := n, p0 := x, latest := x, state := .testing }) else none)
  let d : TestData :=
    { t0 := s.clock.second
      windowEnd := min 4294967295 (s.clock.second + window * 60)
      entries := (((Table.at? s.segments target).map (fun g => g.pointList)).getD []).filterMap entry }
  (d.entries ≠ [] → test = .running d ∧ v = .none) ∧ (d.entries = [] → test = .ended d ∧ v = .untested)

/-! ## Gas -/

/-- Gas reaches a segment of a pass's inputs (R66): a seed, or the far side of a valve that passes gas. -/
inductive Reaches (inp : PassInputs) : Nat → Prop where
  | seed (y : Nat) (v : PassValve) (hy : y ∈ inp.segments) (hv : v ∈ inp.valves) (hs : v.seeds y = true) :
      Reaches inp y
  | spread (x y : Nat) (v : PassValve) (hx : Reaches inp x) (hy : y ∈ inp.segments) (hv : v ∈ inp.valves)
      (hf : v.feeds [x] y = true) : Reaches inp y

/-- Two unreached segments are joined by a chain of valves that pass gas (R67). -/
inductive Chained (inp : PassInputs) (x : Nat) : Nat → Prop where
  | self : Chained inp x x
  | link (y z : Nat) (v : PassValve) (hy : Chained inp x y) (hz : z ∈ unreached inp) (hv : v ∈ inp.valves)
      (hj : v.joins [y] z = true) : Chained inp x z

/-! ## Laws that every step keeps -/

/-- The count and the day class lie in their ranges (R172). -/
def State.clockLegal (s : State) : Prop := s.clock.second ≤ Config.lastSecond ∧ s.clock.dayClass ≤ 7

/-- The operational parameters lie in their ranges (R97, R108, R145). -/
def State.parametersLegal (s : State) : Prop :=
  (15 ≤ s.register.allowanceA ∧ s.register.allowanceA ≤ 240) ∧
    (30 ≤ s.register.allowanceB ∧ s.register.allowanceB ≤ 480) ∧
    (60 ≤ s.register.allowanceC ∧ s.register.allowanceC ≤ 2880) ∧
    (30 ≤ s.dispatch.offerTime ∧ s.dispatch.offerTime ≤ 600) ∧
    (1 ≤ s.orderUnit.remoteTime ∧ s.orderUnit.remoteTime ≤ 30) ∧
    (10 ≤ s.orderUnit.crewTime ∧ s.orderUnit.crewTime ≤ 240)

/-- The windows that are listed are those of desks 1-15, with a base and a limit of 0-4095 (R190). -/
def State.windowsLegal (s : State) : Prop :=
  Table.wf s.windows 16 ∧
    ∀ d w, Table.at? s.windows d = some w → 1 ≤ d ∧ w.base < Config.segmentSlots ∧ w.limit < Config.segmentSlots

/-- An item as six bytes carry it (R186). -/
def Item.legal (i : Item) : Prop :=
  i.kind < 256 ∧ i.tag.concentrator < 256 ∧ i.tag.channel < 256 ∧ i.value < 65536

/-- What READ STRAYS reports: at most eight tags, none twice (R33). -/
def IntakeReport.legal (r : IntakeReport) : Prop := r.strays.length ≤ Config.strayCapacity ∧ r.strays.Nodup

/-- The receiver holds 1-5 bytes of an item, and an item is received only while the queue has room (R26, R27). -/
def Receiver.legal (queued : Nat) : Receiver → Prop
  | .seeking => True
  | .idle => True
  | .receiving bytes => 1 ≤ bytes.length ∧ bytes.length ≤ 5 ∧ queued < Config.queueCapacity
  | .discarding c => 1 ≤ c ∧ c ≤ 5

/-- The Telemetry Intake's state lies in its ranges (R26, R28, R33). -/
def State.intakeLegal (s : State) : Prop :=
  s.intake.queue.length ≤ Config.queueCapacity ∧ (∀ i ∈ s.intake.queue, i.legal) ∧
    s.intake.receiver.legal s.intake.queue.length ∧ s.intake.report.legal ∧
    (∀ r, s.intake.next = some r → r.legal)

/-- The pass state lies in its ranges, a rerun is set only in a pass that was restarted three times, and a pass
took each segment once (R63, R65, R68). -/
def State.tracerLegal (s : State) : Prop :=
  s.tracer.restarts ≤ 3 ∧ s.tracer.generation < 65536 ∧
    (s.tracer.rerun = true → s.tracer.restarts = 3) ∧
    (s.tracer.pass = .idle → s.tracer.restarts = 0 ∧ s.tracer.rerun = false) ∧
    ∀ inp, s.tracer.pass = .running inp → inp.segments.Pairwise (· < ·)

/-- Every table is in its canonical form, with its numbers below its capacity (00 §1.2). -/
def State.tablesLegal (s : State) : Prop :=
  Table.wf s.segments Config.segmentSlots ∧ Table.wf s.valves Config.valveSlots ∧
    Table.wf s.points Config.pointSlots ∧ Table.wf s.profiles Config.profileSlots ∧
    Table.wf s.incidents Config.incidentSlots ∧ Table.wf s.plans Config.planSlots ∧
    Table.wf s.outages Config.outageSlots

/-- The order list holds at most 256 orders with serials of 1-65535, and the next serial is one that no order
holds (R145, R146). -/
def State.ordersLegal (s : State) : Prop :=
  Table.wf s.orders 65536 ∧ s.orders.length ≤ Config.orderCapacity ∧
    (∀ n o, Table.at? s.orders n = some o → 1 ≤ n) ∧
    1 ≤ s.orderUnit.nextSerial ∧ s.orderUnit.nextSerial ≤ 65535 ∧
    Table.has s.orders s.orderUnit.nextSerial = false

/-- The law of R108: an incident is OFFERED, to a desk, exactly while that desk's offer names it. -/
def State.offersAgree (s : State) : Prop :=
  (∀ d n, Table.at? s.dispatch.offers d = some n →
      ∃ i, Table.at? s.incidents n = some i ∧ i.attendance = .offered ∧ i.offerDesk = some d) ∧
    ∀ n i, Table.at? s.incidents n = some i → i.attendance = .offered →
      ∃ d, i.offerDesk = some d ∧ Table.at? s.dispatch.offers d = some n

/-- The active side of a plan holds its valves (R119). -/
def Plan.holds (q : Plan) : Bool :=
  q.activeState = .issuing || q.activeState = .secured || q.activeState = .tight || q.activeState = .passing

/-- While LOADING no plan, incident, order or outage record is in use, no item is queued, no pass runs, there is no
STOP, and no block owes timed work (R6, R26, R63, R173). -/
def State.loadingLegal (s : State) : Prop :=
  s.model = .loading →
    s.plans = [] ∧ s.incidents = [] ∧ s.orders = [] ∧ s.outages = [] ∧ s.intake.queue = [] ∧
      s.tracer.pass = .idle ∧ s.stopCount = 0 ∧ s.clock.due = []

/-- How a plan's test stands to its active state and verdict, and what a RUNNING test holds (R163, R166). -/
def Plan.testLegal (q : Plan) : Prop :=
  match q.test with
  | .none => (q.activeState = .idle ∨ q.activeState = .issuing ∨ q.activeState = .releasing) ∧ q.verdict = .none
  | .running d => q.activeState = .secured ∧ q.verdict = .none ∧ ∃ e ∈ d.entries, e.state = .testing
  | .ended _ => (q.activeState = .secured ∧ q.verdict = .untested) ∨ (q.activeState = .tight ∧ q.verdict = .tight) ∨
      (q.activeState = .passing ∧ q.verdict = .passing)

/-- A plan's lists name valves in use, each once and 24 at most; it has an editor exactly in EDIT, and an active
list exactly in the states other than IDLE; and its test stands to its active state as R163 says (R118, R125). -/
def State.plansLegal (s : State) : Prop :=
  ∀ p q, Table.at? s.plans p = some q →
    q.draft.Nodup ∧ q.draft.length ≤ Config.draftCapacity ∧ (∀ v ∈ q.draft, Table.has s.valves v = true) ∧
    q.active.Nodup ∧ q.active.length ≤ Config.draftCapacity ∧ (∀ v ∈ q.active, Table.has s.valves v = true) ∧
    (q.draftState = .edit ↔ q.editor ≠ none) ∧ (q.activeState = .idle ↔ q.active = []) ∧ q.testLegal

/-- The law of R119: a valve's hold count is the number of plans that hold it. -/
def State.holdsLegal (s : State) : Prop :=
  ∀ v a, Table.at? s.valves v = some a →
    a.hold = (s.plans.filter (fun r => r.2.holds && r.2.active.contains v)).length

/-- The law of R134: a plan is SECURED, TIGHT or PASSING only while every listed valve is reported CLOSED. -/
def State.closedLegal (s : State) : Prop :=
  ∀ p q, Table.at? s.plans p = some q →
    q.activeState = .secured ∨ q.activeState = .tight ∨ q.activeState = .passing → allClosed s q.active = true

/-- What R164 and R166 make of a RUNNING test: an entry is TESTING only while its point is neither STALE, nor at
SENSOR FAULT, nor OVER RANGE. -/
def State.entriesLegal (s : State) : Prop :=
  ∀ p q d, Table.at? s.plans p = some q → q.test = .running d → ∀ e ∈ d.entries, e.state = .testing →
    ∀ n, Table.at? s.points e.point = some n →
      n.condition ≠ .stale ∧ n.condition ≠ .sensorFault ∧ n.condition ≠ .overRange

/-- What R144 and R145 say of one order: its valve names it by its serial, and a QUEUED one has the action its
operable valve is wanted to take. -/
def Order.legal (s : State) (n : Nat) (o : Order) : Prop :=
  ∃ a, Table.at? s.valves o.valve = some a ∧ a.orderSerial = some n ∧ o.channel = a.operation.channel ∧
    (o.state = .queued → a.orderState = .queued ∧ o.action = a.wanted.action ∧ a.inoperable = false ∧
      o.fetched = none ∧ o.expiry = none) ∧
    (o.state = .fetched → a.orderState = .fetched ∧ o.fetched ≠ none ∧ o.expiry ≠ none)

/-- The relations of R144 between the Order Unit's fields of a valve, and the law of R145 for a WAITING one. -/
def Valve.orderLegal (s : State) (v : Nat) (a : Valve) : Prop :=
  (a.orderState = .queued ∨ a.orderState = .fetched →
      ∃ n o, a.orderSerial = some n ∧ Table.at? s.orders n = some o ∧ o.valve = v) ∧
    (a.orderState ≠ .queued → a.orderState ≠ .fetched → a.orderSerial = none) ∧
    (a.orderState = .waiting ↔ a.waitingSince ≠ none) ∧ (a.followUp = true → a.orderState = .fetched) ∧
    (a.inoperable = true → a.orderState = .none ∨ a.orderState = .fetched ∨ a.orderState = .stalled) ∧
    (a.orderState = .waiting → s.orders.length = Config.orderCapacity)

/-- The laws of R145 and the relations of R144; no two orders are for one valve. -/
def State.orderLaws (s : State) : Prop :=
  (∀ n o, Table.at? s.orders n = some o → o.legal s n) ∧
    (∀ n m o x, Table.at? s.orders n = some o → Table.at? s.orders m = some x → o.valve = x.valve → n = m) ∧
    ∀ v a, Table.at? s.valves v = some a → a.orderLegal s v

/-- While RUNNING the two ends of a valve are different segments in use (R11). -/
def State.endsLegal (s : State) : Prop :=
  s.model = .running → ∀ v a, Table.at? s.valves v = some a →
    Table.has s.segments a.endB = true ∧ ∀ x, a.endA = some x → Table.has s.segments x = true ∧ x ≠ a.endB

/-- The lists of R2: while LOADING every list is empty; while RUNNING a segment's lists hold, in ascending number, the
valves with an end at it and the points that name it, 12 and 4 at most, and every point names a segment in use (R12). -/
def State.listsLegal (s : State) : Prop :=
  (s.model = .loading → ∀ n g, Table.at? s.segments n = some g → g.valveList = [] ∧ g.pointList = []) ∧
    (s.model = .running →
      (∀ n g, Table.at? s.segments n = some g →
        g.valveList = Table.which s.valves (fun a => a.ends n) ∧
        g.pointList = Table.which s.points (fun p => p.segment = n) ∧
        g.valveList.length ≤ Config.segmentValveCapacity ∧ g.pointList.length ≤ Config.segmentPointCapacity) ∧
      ∀ n p, Table.at? s.points n = some p → Table.has s.segments p.segment = true)

/-- The stop count is the number of STOP valves in use and 256 at most (R6); every incident names a segment in use,
and a segment's open incident count is the number of incidents that name it, up to 255 (R87); a point is valid
exactly while it holds a pressure (R39). -/
def State.countsLegal (s : State) : Prop :=
  s.stopCount = Table.count s.valves (fun a => a.kind = .stop) ∧ s.stopCount ≤ Config.stopCapacity ∧
    (∀ n i, Table.at? s.incidents n = some i → Table.has s.segments i.segment = true) ∧
    (∀ n g, Table.at? s.segments n = some g → g.openIncidents = min 255 (openIncidents s n).length) ∧
    ∀ n p, Table.at? s.points n = some p → (p.valid = true ↔ p.lastPressure ≠ none)

/-- What R71, R76 and R77 say of an outage record: it has a member, its figures are the sums over its members, and it
is ACTIVE exactly while one of them is UNSUPPLIED. -/
def Outage.legal (s : State) (n : Nat) (o : Outage) : Prop :=
  let m := Sys2Proof.Machine.members s n
  m ≠ [] ∧ o.members = m.length ∧ o.customersOff = (m.map (fun r => r.2.customers)).sum ∧
    o.customersRelit = (m.map (fun r => r.2.relit)).sum ∧ o.customersRelit ≤ o.customersOff ∧
    (o.state = .active ↔ ∃ r ∈ m, r.2.supply = .unsupplied) ∧ (o.state = .restoring → o.restoring ≠ none)

/-- The laws of R71 and R76: a SUPPLIED segment has no outage and no relit count, no segment has more customers relit
than customers, the outage it names is in use, and each record in use stands as R77 counts it. -/
def State.outagesLegal (s : State) : Prop :=
  (∀ n g, Table.at? s.segments n = some g →
      (g.supply = .supplied → g.outage = none ∧ g.relit = 0) ∧ g.relit ≤ g.customers ∧
      ∀ o, g.outage = some o → Table.has s.outages o = true) ∧
    ∀ n o, Table.at? s.outages n = some o → o.legal s n

end Sys2Proof.Machine
end

