-- ==== Sys2Proof/Certificates/Slice0/Obligations.lean ====
section
/-! DEFINITION. What is claimed of the part: one proposition for each statement, for the provers. -/

open Sys2Proof Sys2Proof.Machine

/-! ## The machine as a whole -/

/-- The block's own rule of a step: the command at the front of the queue is carried out with the queue's rest,
and on an empty queue the block idles (log 2). -/
def Obligations.StepRunsTheFrontCommand : Prop :=
  (∀ (c : Instr) (rest : List Instr) (s : State), step (s.setPending (c :: rest)) = exec c (s.setPending rest)) ∧
    ∀ s : State, step (s.setPending []) = .next (s.setPending [])

/-- Every command answers a next state in every state, and no command touches the queue of those that wait. That
the part answers every request is 00 §1.7; that an event which cannot come about (log 3) and a request that no frame
spells (log 7) answer a next state too is the model's choice. -/
def Obligations.EveryCommandCompletes : Prop :=
  ∀ (c : Instr) (s : State), ∃ t, exec c s = .next t ∧ t.pending = s.pending

/-- 00 §1.6: a refused request changes no record. It leaves its refusal to be placed and nothing else; a
READ INCIDENT answered NO RECORD still clears, at the placing of its answer, what it reported (R94). -/
def Obligations.RefusedRequestChangesNothing : Prop :=
  ∀ (c : Instr) (h : Header) (s t : State) (tag : Nat) (r : Reply),
    requestHeader c = some h → s.ready → exec c s = .next t → t.replying tag r → r.result ≠ .done →
      tag = h.tag ∧ r.clamped = false ∧
        (t = acting tag r s ∨
          (∃ n, c = .readIncident h n ∧ r.result = .noRecord ∧
            t = acting tag r (clearOnPlace (fun p => { p with incidentFull := true }) s)))

/-- R172, R175, R190, R191: no command but a SET DESK AREA from desk 0 and cold reset moves a desk's window, and no
command but a second event, a SET CLOCK from desk 0 and cold reset moves the count. Either request may come as the
bytes of its frame. -/
def Obligations.OnlyDeskZeroMovesWindowsAndCount : Prop :=
  ∀ (c : Instr) (s t : State), exec c s = .next t →
    let sent (r : Instr) : Prop :=
      c = r ∨ ∃ bytes, c = .malformedRequestFrame bytes ∧ parseFrame bytes = .passed r
    (t.windows ≠ s.windows →
      (∃ e, c = .coldReset e) ∨ ∃ h d b l, h.desk = 0 ∧ sent (.setDeskArea h d b l)) ∧
    (t.clock.second ≠ s.clock.second →
      c = .secondEvent ∨ (∃ e, c = .coldReset e) ∨ ∃ h n, h.desk = 0 ∧ sent (.setClock h n))

/-- R86, R91, R98, R101: whatever is commanded, an incident that stays in its slot keeps its kind and its first
report, its deadline never becomes later, and overdue, indoor and damage stay yes once they are. -/
def Obligations.IncidentsKeepTheirDeadlines : Prop :=
  ∀ (c : Instr) (s t : State) (n : Nat) (i j : Incident), exec c s = .next t →
    Table.at? s.incidents n = some i → Table.at? t.incidents n = some j →
    j.kind = i.kind ∧ j.firstReport = i.firstReport ∧ j.deadline ≤ i.deadline ∧
      (i.overdue = true → j.overdue = true) ∧ (i.indoor = true → j.indoor = true) ∧
      (i.damage = true → j.damage = true)

/-! ## Laws that every step keeps -/

/-- The count, the day class and the operational parameters keep to their ranges, and the windows to desks 1-15 and
segments 0-4095, whatever is commanded; and so do the intake queue to 64 items, the receiver to its byte counts and
the stray tags to eight. -/
def Obligations.SettingsAndIntakeStayLegal : Prop :=
  ∀ s t : State, step s = .next t →
    (s.clockLegal → s.parametersLegal → s.windowsLegal → t.clockLegal ∧ t.parametersLegal ∧ t.windowsLegal) ∧
      (s.intakeLegal → t.intakeLegal)

/-- The record tables keep their canonical form and their capacities; the restart count keeps to 3, the generation to
16 bits, a rerun to a pass restarted three times, and the inputs of a pass to each segment once. The inputs are read
from the segment table, so its form is a premise. -/
def Obligations.TablesAndPassesStayLegal : Prop :=
  ∀ s t : State, s.tablesLegal → step s = .next t → t.tablesLegal ∧ (s.tracerLegal → t.tracerLegal)

/-- The order list keeps to 256 orders with serials of 1-65535, and the next serial to one that is not held. The laws
of R145 and the relations of R144 hold from step to step: never two orders for one valve, a QUEUED order's action is
its operable valve's wanted position, and a valve is WAITING only while the list holds 256 orders. -/
def Obligations.OrderListStaysLegal : Prop :=
  ∀ s t : State, s.ordersLegal → step s = .next t → t.ordersLegal ∧
    (s.tablesLegal → s.loadingLegal → s.orderLaws → t.orderLaws)

/-- The law of R108: the incidents that are OFFERED are those named by outstanding offers, desk by desk. -/
def Obligations.OffersAndAttendanceAgree : Prop :=
  ∀ s t : State, s.tablesLegal → s.offersAgree → step s = .next t → t.offersAgree

/-- A plan's lists name valves in use, each once and 24 at most; it has an editor exactly in EDIT and an active list
exactly outside of IDLE, and its test stands to its active state and verdict as R163 says (R118, R163). With that
every step keeps the laws of R119 and R134: a valve's hold count is the number of plans that hold it, and a plan is
SECURED, TIGHT or PASSING only while every valve it lists is reported CLOSED; and what R164 and R166 make of a RUNNING
test: no entry is TESTING whose point is STALE, at SENSOR FAULT or OVER RANGE. -/
def Obligations.PlanLawsHold : Prop :=
  ∀ s t : State, s.tablesLegal → s.loadingLegal → s.plansLegal → step s = .next t →
    t.plansLegal ∧ (s.holdsLegal → t.holdsLegal) ∧ (s.closedLegal → t.closedLegal) ∧
      (s.entriesLegal → t.entriesLegal)

/-- R2, R6, R11, R39, R71, R76, R77, R87: while LOADING nothing is in use but the loaded records; while RUNNING a valve's
ends are different segments in use, and a segment's valve and point lists are those a fresh build gives, 12 and 4 long
at most; with such ends, the stop count is the number of STOP valves, an open incident count the number of incidents
that name the segment, each in use, and a point is valid exactly while it holds a pressure; a SUPPLIED segment has no
outage, every outage record has a member, and its figures and state are those its members give. -/
def Obligations.RecordLawsHold : Prop :=
  ∀ s t : State, s.tablesLegal → s.loadingLegal → step s = .next t →
    t.loadingLegal ∧ (s.endsLegal → t.endsLegal ∧ (s.listsLegal → t.listsLegal)) ∧
      (s.endsLegal → s.countsLegal → t.countsLegal) ∧ (s.tracerLegal → s.outagesLegal → t.outagesLegal)

/-- The state after reset meets each of the laws. -/
def Obligations.ResetMeetsTheLaws : Prop :=
  State.reset.clockLegal ∧ State.reset.parametersLegal ∧ State.reset.windowsLegal ∧ State.reset.intakeLegal ∧
    State.reset.tracerLegal ∧ State.reset.tablesLegal ∧ State.reset.loadingLegal ∧ State.reset.ordersLegal ∧
    State.reset.orderLaws ∧ State.reset.offersAgree ∧ State.reset.plansLegal ∧ State.reset.holdsLegal ∧
    State.reset.closedLegal ∧ State.reset.entriesLegal ∧ State.reset.endsLegal ∧ State.reset.listsLegal ∧
    State.reset.countsLegal ∧ State.reset.outagesLegal

/-! ## Cold reset -/

/-- R193, R176, R184, R27: RESET going low holds the part with its reset values, and RESET rising leaves every block at
its cold-reset values. What is kept is the model's own: the queue and the count of answers placed (log 22). While RESET
is held, a read transaction sends 0 for every byte, and no other command but an edge of RESET changes anything; so from
its falling to its rising ANSWER and NOTICE are low and READY is high. The transaction that was in progress when RESET rose
is ignored to its end: whatever it is (a request, the bytes of a frame, a discarded or an empty transaction, or a read,
which sends 0 for every byte), it changes nothing but that the next transaction is taken again. -/
def Obligations.ColdResetClearsAndHoldIsDeaf : Prop :=
  (∀ (e : ResetEdge) (s : State), ∃ t, exec (.coldReset e) s = .next t ∧
    t.model = .loading ∧ t.stopCount = 0 ∧ t.segments = [] ∧ t.valves = [] ∧ t.points = [] ∧ t.profiles = [] ∧
    t.incidents = [] ∧ t.plans = [] ∧ t.outages = [] ∧ t.orders = [] ∧
    (∀ n, concentrator t n = { state := .unknown, lastChange := 0 }) ∧
    (∀ d, windowOf t d = { base := 1, limit := 0 }) ∧
    t.intake.receiver = .seeking ∧ t.intake.queue = [] ∧ t.intake.report = .clear ∧ t.intake.next = none ∧
    t.tracer = State.reset.tracer ∧
    t.register = { allowanceA := 60, allowanceB := 120, allowanceC := 1440, full := false, lastRefused := none } ∧
    t.dispatch = { offers := [], offerTime := 120 } ∧
    t.orderUnit.nextSerial = 1 ∧ t.orderUnit.remoteTime = 3 ∧ t.orderUnit.crewTime = 90 ∧
    t.orderUnit.unplanned = { set := false, valve := none } ∧ t.orderUnit.timeout = { set := false, valve := none } ∧
    t.clock = { second := 0, dayClass := 0, due := [] } ∧
    t.notices.raised = 0 ∧ t.notices.enabled = 0 ∧ (∀ c n, flagged c n t = false) ∧
    t.port.state = .idle ∧ t.port.discarded = false ∧ t.port.onPlace = .nothing ∧
    t.port.held = (e = .falls) ∧ t.port.skip = (e = .rises true) ∧
    t.pending = s.pending ∧ t.port.drawn = s.port.drawn) ∧
  (∀ (c : Instr) (s : State), s.port.held = true → (∀ e, c ≠ .coldReset e) →
    let sendsZeros (n : Nat) : Prop := exec c s = .next (s.setPort { s.port with sent := List.replicate n 0 })
    (∀ n, c = .readTransaction n → sendsZeros n) ∧
      (∀ rest : List Byte, c = .malformedRequestFrame (90 :: rest) → sendsZeros rest.length) ∧
      ((∀ n, c ≠ .readTransaction n) → (∀ rest : List Byte, c ≠ .malformedRequestFrame (90 :: rest)) →
        exec c s = .next s)) ∧
  (∀ (c : Instr) (s : State), s.port.held = false → s.port.skip = true →
    let sendsZeros (n : Nat) : Prop :=
      exec c s = .next (s.setPort { s.port with skip := false, sent := List.replicate n 0 })
    (∀ n, c = .readTransaction n → sendsZeros n) ∧
      (∀ rest : List Byte, c = .malformedRequestFrame (90 :: rest) → sendsZeros rest.length) ∧
      (isRequest c = true ∨ c = .requestDiscarded ∨ c = .malformedRequestFrame [] ∨
          (∃ first rest, first ≠ 90 ∧ c = .malformedRequestFrame (first :: rest)) →
        exec c s = .next (s.setPort { s.port with skip := false }))) ∧
  ∀ (l : List Instr) (s t : State), (∀ c ∈ l, ∀ e, c ≠ .coldReset e) →
    Host.Core.run Sys2Proof.core (l.length + 1) (s.setPending (.coldReset .falls :: l)) = .next t →
      answerPin t = false ∧ noticePin t = false ∧ readyPin t = true

/-! ## The request port -/

/-- R188, for a frame taken in IDLE: the answer each failed port test gives, in the order of the five tests. The body
of each request holds fields of a fixed width, with end B of DEFINE VALVE as an optional field (log 11); that of
SPLIT SEGMENT alone holds two lists, of 12 and 4 entries at most. -/
def Obligations.PortTestsRefuse : Prop :=
  ∀ (l : List Byte) (s : State), s.listening → l ≠ [] → l.head? ≠ some 90 →
    let answers (tag : Nat) (r : Result) : Prop :=
      exec (.malformedRequestFrame l) s = .next (acting tag { result := r, clamped := false, body := [] } s)
    -- The width of each request's body by its code, 1 first; that of SPLIT SEGMENT is read from the frame.
    let width : List Nat :=
      [8, 15, 0, 9, 0, 2, 2, 2, 2, 0, 15, 17, 21, 0, 3, 4, 12, 3, 6, 2, 2, 2, 2, 2, 2, 2, 2, 2, 14, 1, 2, 3, 3, 1, 1, 1,
        1, 3, 0, 2, 2, 2, 2, 2, 2, 4, 1, 1, 0, 0, 2, 5]
    let number (k : Nat) : Option Nat := (l[k]?).map (fun b => b.toNat)
    (l.length < 4 ∨ l.head? ≠ some 165 → answers 0 .badField) ∧
      ∀ desk code tag, l[0]? = some 165 → number 1 = some desk → number 2 = some code → number 3 = some tag →
        (l.length = 4 → answers tag .badField) ∧
        ∀ len, number 4 = some len →
          (l.length - 5 ≠ len → answers tag .badField) ∧
          (l.length - 5 = len → 16 ≤ desk → answers tag .badField) ∧
          (l.length - 5 = len → desk < 16 → code = 0 ∨ 52 < code → answers tag .unknownRequest) ∧
          (l.length - 5 = len → desk < 16 → 1 ≤ code → code ≤ 52 → code ≠ 5 → width[code - 1]? ≠ some len →
            answers tag .badField) ∧
          (l.length - 5 = len → desk < 16 → code = 5 →
            (∀ a b, number 7 = some a → a ≤ 12 → number (8 + 2 * a) = some b → b ≤ 4 → len ≠ 8 + 2 * a + 2 * b) →
            answers tag .badField)

/-- R186 to R188: the frame a host builds for a request that fits its fields is read back as that request, every
operand at every value the encoding carries; and whatever bytes pass the port tests spell a request whose fields
fit their widths and whose lists keep their capacities. The bytes of DEFINE VALVE have end B as an optional field
(log 11). -/
def Obligations.RequestFramesReadBack : Prop :=
  (∀ c : Instr, isRequest c = true → wellFormed c = true → parseFrame (requestFrame c) = .passed c) ∧
    ∀ (l : List Byte) (c : Instr), parseFrame l = .passed c → isRequest c = true ∧ wellFormed c = true

/-- R183, R185, R188: what the bytes of a request's frame do. They do what the request does: MALFORMED REQUEST FRAME
carries the bytes of any transaction, a valid frame too (log 6), and DEFINE VALVE's bytes have end B as an optional
field (log 11). A frame that ends in ACTING or ANSWERED, as a request, as bytes or as the bare event, sets the
discarded flag and does nothing else; the bare event in IDLE does nothing (log 3). -/
def Obligations.FramesActOrAreDiscarded : Prop :=
  (∀ (c : Instr) (s : State), isRequest c = true → wellFormed c = true →
    exec (.malformedRequestFrame (requestFrame c)) s = exec c s) ∧
  ∀ (c : Instr) (s : State), s.port.held = false → s.port.skip = false →
    (isRequest c = true ∨ c = .requestDiscarded ∨
      ∃ first rest, first ≠ 90 ∧ c = .malformedRequestFrame (first :: rest)) →
    (s.port.state ≠ .idle → exec c s = .next (s.setPort { s.port with discarded := true })) ∧
      (s.port.state = .idle → c = .requestDiscarded → exec c s = .next s)

/-- R183, R185, R189: the placing of the answer. The frame carries the tag, the reply and the discarded flag, ANSWER
goes high, and what the request reported is cleared: the notice classes and slots noted and not raised since (R178,
R180), the strays but for those come since its taking, which are kept (R38; log 8), and the incident-full indication
and both order indications as they stand, whatever has set them since the taking (R94, R161; log 9). -/
def Obligations.AnswerIsPlaced : Prop :=
  ∀ (s : State) (tag : Nat) (r : Reply), s.port.held = false → s.port.state = .acting tag r →
    ∃ t, exec .answerPlaced s = .next t ∧ answerPin t = true ∧
      t.port =
        { s.port with
          state := .answered { tag := tag, reply := r, discarded := s.port.discarded, number := s.port.drawn }
          discarded := false
          onPlace := .nothing
          drawn := s.port.drawn + 1 } ∧
      t.notices.enabled = s.notices.enabled ∧
      (∀ v : Notice, t.notices.raised &&& v.bit =
        if s.port.onPlace.notices &&& v.bit = 0 then s.notices.raised &&& v.bit else 0) ∧
      (∀ k n, flagged k n t = (flagged k n s &&
        !s.port.onPlace.slots.any (fun p => decide (p.1 = k) && p.2.contains n))) ∧
      t.register = (if s.port.onPlace.incidentFull then
        { s.register with full := false, lastRefused := none } else s.register) ∧
      t.orderUnit = (if s.port.onPlace.orderIndications then
        { s.orderUnit with unplanned := .clear, timeout := .clear } else s.orderUnit) ∧
      t.intake = { s.intake with report := s.intake.next.getD s.intake.report, next := none } ∧
      t.model = s.model ∧ t.stopCount = s.stopCount ∧ t.segments = s.segments ∧ t.valves = s.valves ∧
      t.points = s.points ∧ t.profiles = s.profiles ∧ t.concentrators = s.concentrators ∧
      t.incidents = s.incidents ∧ t.plans = s.plans ∧ t.outages = s.outages ∧ t.orders = s.orders ∧
      t.windows = s.windows ∧ t.tracer = s.tracer ∧ t.dispatch = s.dispatch ∧ t.clock = s.clock

/-- R184, R186, R187: a read transaction of `n` bytes, sent as such or as a transaction of the read marker and `n` more
bytes. In ANSWERED the frame is sent, the same at each reading, and read once it is clocked whole; in IDLE and ACTING
the idle frame is sent. Beyond the end of a frame 0 is sent. The value bytes of an optional field that holds none are
left open (log 12). -/
def Obligations.ReadTransactionSends : Prop :=
  ∃ body : AnswerFrame → List Byte, (∀ f, BodyBytes f.reply.body (body f)) ∧
  ∀ (c : Instr) (n : Nat) (s : State), s.port.held = false → s.port.skip = false →
    (c = .readTransaction n ∨ ∃ rest : List Byte, rest.length = n ∧ c = .malformedRequestFrame (90 :: rest)) →
    let value (r : Result) : Nat :=
      match r with
      | .done => 1
      | .notRunning => 2
      | .modelLocked => 3
      | .noRecord => 4
      | .outOfArea => 5
      | .wrongState => 6
      | .busy => 7
      | .full => 8
      | .duplicate => 9
      | .badField => 10
      | .tooLate => 11
      | .unknownRequest => 12
    let frame (f : AnswerFrame) : List Byte :=
      [BitVec.ofNat 8 f.tag, BitVec.ofNat 8 (value f.reply.result),
        BitVec.ofNat 8 ((if f.reply.clamped then 1 else 0) + (if f.discarded then 2 else 0)),
        BitVec.ofNat 8 ((body f).length / 256), BitVec.ofNat 8 (body f).length] ++ body f
    ∃ t, exec c s = .next t ∧ t.port.sent.length = n ∧
      t = s.setPort { s.port with sent := t.port.sent, state := t.port.state } ∧
      (∀ f, s.port.state = .answered f →
        (∀ k b, (frame f)[k]? = some b → k < n → t.port.sent[k]? = some b) ∧
        (∀ k, (frame f).length ≤ k → k < n → t.port.sent[k]? = some 0) ∧
        ((frame f).length ≤ n → t.port.state = .idle ∧ answerPin t = false) ∧
        (n < (frame f).length → t.port.state = s.port.state)) ∧
      ((∀ f, s.port.state ≠ .answered f) →
        t.port.state = s.port.state ∧ t.port.sent = List.replicate n 0)

/-- R190 to R192: SET DESK AREA from desk 0 writes one window and answers with the old and the new; no other
window and no other part of the state changes, so no work a desk already holds is touched. From another desk it
is OUT OF AREA, and a desk or segment outside its range is BAD FIELD. -/
def Obligations.SetDeskAreaWritesOneWindow : Prop :=
  ∀ (h : Header) (desk base limit : Nat) (s : State), s.listening →
    wellFormed (.setDeskArea h desk base limit) = true →
    let refuses (r : Result) : Prop := exec (.setDeskArea h desk base limit) s =
      .next (acting h.tag { result := r, clamped := false, body := [] } s)
    (h.desk ≠ 0 → refuses .outOfArea) ∧
    (h.desk = 0 → desk = 0 ∨ 16 ≤ desk ∨ 4096 ≤ base ∨ 4096 ≤ limit → refuses .badField) ∧
    (h.desk = 0 → 1 ≤ desk → desk ≤ 15 → base < 4096 → limit < 4096 →
      ∃ t, exec (.setDeskArea h desk base limit) s = .next t ∧
        t = acting h.tag
          { result := .done
            clamped := false
            body := [.u8 desk, .u16 (windowOf s desk).base, .u16 (windowOf s desk).limit, .u16 base, .u16 limit] }
          (s.setWindows t.windows) ∧
        (∀ d, windowOf t d = if d = desk then { base := base, limit := limit } else windowOf s d) ∧
        ∀ n, inWindow t desk n = (decide (base ≤ n) && decide (n ≤ limit)))

/-! ## The Network Model (chapter 1) -/

/-- R7 to R9, R40: while LOADING, a definition from desk 0 writes the whole record of its slot with the values of
R1, R3 and R39, clears the slot's attention flag and raises nothing. -/
def Obligations.DefinitionsWriteRecords : Prop :=
  ∀ (h : Header) (s : State), s.listening → h.desk = 0 → s.model = .loading →
    (∀ n tier zone customers k, wellFormed (.defineSegment h n tier zone customers) = true → n < 4096 →
      Tier.ofCode? tier = some k → ∃ u,
        exec (.defineSegment h n tier zone customers) s =
          .next (acting h.tag { result := .done, clamped := decide (65535 < customers), body := [.u16 n] } u) ∧
        changesOnly [.segments, .notices] s u ∧
        (∀ m, Table.at? u.segments m = if m = n then some
          { tier := k, zone := zone, customers := min 65535 customers, valveList := [], pointList := [],
            supply := .supplied, outage := none, relit := 0, openIncidents := 0 } else Table.at? s.segments m) ∧
        raisesExactly [] s u ∧
        ∀ c m, flagged c m u = (flagged c m s && !decide (c = .segment ∧ m = n))) ∧
    (∀ n kind a b normal op tag rep k p o r,
      wellFormed (.defineValve h n kind a (some b) normal op tag rep) = true → n < 6144 →
      ValveKind.ofCode? kind = some k → k ≠ .stop → (∀ x, a = some x → x < 4096) → b < 4096 →
      Position.ofCode? normal = some p → Operation.ofCode? op = some o → (o = .manual → tag = none) →
      Reported.ofCode? rep = some r → r ≠ .moving → ∃ u,
        exec (.defineValve h n kind a (some b) normal op tag rep) s =
          .next (acting h.tag { result := .done, clamped := false, body := [.u16 n] } u) ∧
        changesOnly [.valves, .notices] s u ∧
        (∀ m, Table.at? u.valves m = if m = n then some
          { kind := k, endA := a, endB := b, normal := p, operation := o, tag := tag, reported := r,
            unconfirmed := false, inoperable := false, orderState := .none, orderSerial := none,
            followUp := false, waitingSince := none, hold := 0, lastReport := s.clock.second }
          else Table.at? s.valves m) ∧
        raisesExactly [] s u ∧
        ∀ c m, flagged c m u = (flagged c m s && !decide (c = .valve ∧ m = n))) ∧
    (∀ n tag seg z g group k hyst stale, wellFormed (.definePoint h n tag seg z g group k hyst stale) = true →
      n < 1024 → seg < 4096 → g ≠ 0 → group < 32 → ∃ u,
        exec (.definePoint h n tag seg z g group k hyst stale) s =
          .next (acting h.tag
            { result := .done, clamped := decide (k < 1 ∨ 15 < k ∨ stale < 1 ∨ 60 < stale), body := [.u16 n] } u) ∧
        changesOnly [.points, .notices] s u ∧
        (∀ m, Table.at? u.points m = if m = n then some
          { tag := tag, segment := seg, zero := z, gain := g, group := group, persistence := max 1 (min 15 k),
            hysteresis := hyst, staleLimit := max 1 (min 60 stale), lastRaw := none, lastPressure := none,
            valid := false, lastContact := s.clock.second, condition := .ok, band := .normal, candidate := none,
            count := 0, selected := none } else Table.at? s.points m) ∧
        raisesExactly [] s u ∧
        ∀ c m, flagged c m u = (flagged c m s && !decide (c = .point ∧ m = n)))

/-- R2, R10 to R14, R41: OPEN MODEL from desk 0 while LOADING. The four checks are taken in order, each over its records
in ascending number; at the first record at fault the model stays LOADING and the answer names the check, the record's
kind (segment 0, valve 1, point 2) and its number. A model that passes them is RUNNING with its lists built, every
point has its first selection and counts its contact from now, MODEL is raised and a pass is triggered. A point that
finds no entry becomes UNBANDED at the opening (R41; log 10 reads it against R52). -/
def Obligations.OpenModelOpens : Prop :=
  ∀ (h : Header) (s : State), s.listening → s.tablesLegal → wellFormed (.openModel h) = true → h.desk = 0 →
    s.model = .loading →
    let free (n : Nat) : Prop := Table.at? s.segments n = none
    let remote (v : Nat) (tag : Option Tag) : Prop :=
      ∃ a, Table.at? s.valves v = some a ∧ a.operation = .remote ∧ a.tag = tag
    let badValve (v : Nat) : Prop := ∃ a, Table.at? s.valves v = some a ∧
      ((a.kind = .offtake ∧ (a.endA ≠ none ∨ free a.endB)) ∨
        (a.kind ≠ .offtake ∧ (a.endA = none ∨ free a.endB ∨ ∃ x, a.endA = some x ∧ (free x ∨ x = a.endB))))
    let overfull (n : Nat) : Prop := ¬ free n ∧
      (12 < (s.valves.filter (fun r => decide (r.2.endA = some n ∨ r.2.endB = n))).length ∨
        4 < (s.points.filter (fun r => decide (r.2.segment = n))).length)
    let lost (n : Nat) : Prop := ∃ p, Table.at? s.points n = some p ∧ free p.segment
    let doublePoint (n : Nat) : Prop := ∃ p, Table.at? s.points n = some p ∧
      ∃ m q, m < n ∧ Table.at? s.points m = some q ∧ q.tag = p.tag
    let badTag (v : Nat) : Prop := remote v none ∨ ∃ x, remote v (some x) ∧
      ((∃ m q, Table.at? s.points m = some q ∧ q.tag = x) ∨ ∃ w, w < v ∧ remote w (some x))
    let refuses (check kind : Nat) (bad : Nat → Prop) : Prop := ∀ n, bad n → (∀ m, m < n → ¬ bad m) →
      exec (.openModel h) s = .next (acting h.tag
        { result := .badField, clamped := false, body := [.u8 check, .u8 kind, .u16 n] } s)
    refuses 1 1 badValve ∧
    ((∀ v, ¬ badValve v) → refuses 2 0 overfull ∧
    ((∀ n, ¬ overfull n) → refuses 3 2 lost ∧
    ((∀ n, ¬ lost n) → refuses 4 2 doublePoint ∧
    ((∀ n, ¬ doublePoint n) → refuses 4 1 badTag ∧
    ((∀ v, ¬ badTag v) → ∃ u,
      exec (.openModel h) s = .next (acting h.tag { result := .done, clamped := false, body := [] } u) ∧
      changesOnly [.model, .segments, .points, .tracer, .notices, .onPlace] s u ∧
      u.model = .running ∧ triggers s u ∧
      (∀ n, Table.at? u.segments n = (Table.at? s.segments n).map (fun g =>
        { g with valveList := Table.which s.valves (fun a => a.ends n),
                 pointList := Table.which s.points (fun p => p.segment = n),
                 supply := .supplied, outage := none, relit := 0, openIncidents := 0 })) ∧
      (∀ n, Table.at? u.points n = (Table.at? s.points n).map (fun p =>
        { p with lastContact := s.clock.second, selected := selection s p.group, candidate := none, count := 0,
                 condition := conditionAfter p.condition (selection s p.group) })) ∧
      raisesIf .model true s u)))))

/-- R15: the tests of ALTER SEGMENT in their order, and the admitted request. It writes the fields given, flags the
segment and raises MODEL; with neither field given it changes nothing. -/
def Obligations.AlterSegmentWrites : Prop :=
  ∀ (h : Header) (n : Nat) (zone customers : Option Nat) (s : State), s.listening →
    wellFormed (.alterSegment h n zone customers) = true →
    let refuses (r : Result) : Prop := exec (.alterSegment h n zone customers) s =
      .next (acting h.tag { result := r, clamped := false, body := [] } s)
    (s.model = .loading → refuses .notRunning) ∧
    (s.model = .running → 4096 ≤ n → refuses .badField) ∧
    (s.model = .running → n < 4096 → inWindow s h.desk n = false → refuses .outOfArea) ∧
    (s.model = .running → n < 4096 → inWindow s h.desk n = true → Table.at? s.segments n = none →
      refuses .noRecord) ∧
    ∀ g, s.model = .running → n < 4096 → inWindow s h.desk n = true → Table.at? s.segments n = some g →
      (customers ≠ none → g.supply ≠ .supplied → refuses .wrongState) ∧
      (customers = none ∨ g.supply = .supplied →
        ∃ u, exec (.alterSegment h n zone customers) s = .next (acting h.tag
            { result := .done, clamped := customers.any (fun c => decide (65535 < c)), body := [] } u) ∧
          (zone = none → customers = none → u = s) ∧
          (zone ≠ none ∨ customers ≠ none →
            changesOnly [.segments, .notices, .onPlace] s u ∧ raisesExactly [.model] s u ∧
            flagsExactly [(.segment, n)] s u ∧
            ∀ m, Table.at? u.segments m = if m = n then some
              { g with zone := zone.getD g.zone,
                       customers := match customers with
                         | none => g.customers
                         | some c => min 65535 c } else Table.at? s.segments m))

/-- R16 to R18: an admitted SPLIT SEGMENT. The lowest free segment and valve slots are taken, the customers are
shared out, the valves and points named move, and the new STOP joins the two parts. -/
def Obligations.SplitSegmentDivides : Prop :=
  ∀ (h : Header) (seg : Nat) (vs ps : List Nat) (customers t v : Nat) (s : State) (g : Segment), s.ready →
    wellFormed (.splitSegment h seg vs ps customers) = true → s.model = .running → seg < 4096 →
    (∀ x ∈ vs, x < 6144) → (∀ x ∈ ps, x < 1024) → vs.Nodup → ps.Nodup → inWindow s h.desk seg = true →
    Table.at? s.segments seg = some g → (∀ x ∈ vs, x ∈ g.valveList) → (∀ x ∈ ps, x ∈ g.pointList) →
    g.supply = .supplied →
    (∀ p q, (p, q) ∈ s.plans → q.target = seg → q.activeState = .idle) →
    (∀ x ∈ vs, ∀ p q, (p, q) ∈ s.plans → x ∉ q.active) →
    Table.lowestFree s.segments 4096 = some t → Table.lowestFree s.valves 6144 = some v → s.stopCount < 256 →
    g.valveList.length - vs.length + 1 ≤ 12 → vs.length + 1 ≤ 12 →
    ∃ u, exec (.splitSegment h seg vs ps customers) s = .next (acting h.tag
        { result := .done, clamped := decide (g.customers < customers), body := [.u16 t, .u16 v] } u) ∧
      changesOnly [.segments, .valves, .points, .stopCount, .tracer, .notices, .onPlace] s u ∧
      u.stopCount = s.stopCount + 1 ∧
      (∀ n, Table.at? u.segments n =
        if n = t then some
          { tier := g.tier, zone := g.zone, customers := min g.customers customers,
            valveList := insertNat v (sortNat vs), pointList := sortNat ps, supply := .supplied, outage := none,
            relit := 0, openIncidents := 0 }
        else if n = seg then some
          { g with customers := g.customers - customers,
                   valveList := insertNat v (g.valveList.filter (fun x => decide (x ∉ vs))),
                   pointList := g.pointList.filter (fun x => decide (x ∉ ps)) }
        else Table.at? s.segments n) ∧
      (∀ n, Table.at? u.valves n =
        if n = v then some
          { kind := .stop, endA := some seg, endB := t, normal := .opened, operation := .manual, tag := none,
            reported := .opened, unconfirmed := false, inoperable := false, orderState := .none,
            orderSerial := none, followUp := false, waitingSince := none, hold := 0,
            lastReport := s.clock.second }
        else if n ∈ vs then (Table.at? s.valves n).map (fun a => a.rename seg t)
        else Table.at? s.valves n) ∧
      (∀ n, Table.at? u.points n =
        if n ∈ ps then (Table.at? s.points n).map (fun p => { p with segment := t }) else Table.at? s.points n) ∧
      triggers s u ∧ raisesExactly [.model] s u ∧
      flagsExactly ([(.segment, seg), (.segment, t), (.valve, v)] ++ vs.map (fun x => (.valve, x)) ++
        ps.map (fun x => (.point, x))) s u

/-- R19 to R21: an admitted MERGE AT STOP. Segment b's valves, points, customers, incidents and plans go to
segment a, the stop and segment b become free, and no draft names the stop any longer. That PLAN is raised with MODEL
where a plan is changed, and INCIDENT is not where an incident is renamed, is log 18. -/
def Obligations.MergeAtStopJoins : Prop :=
  ∀ (h : Header) (v a b : Nat) (s : State) (x : Valve) (ga gb : Segment), s.ready → s.tablesLegal →
    wellFormed (.mergeAtStop h v) = true → s.model = .running → v < 6144 → Table.at? s.valves v = some x →
    x.kind = .stop → x.endA = some a → x.endB = b → a ≠ b → inWindow s h.desk a = true →
    inWindow s h.desk b = true → x.reported = .opened → x.hold = 0 → x.orderState = .none →
    (∀ p q, (p, q) ∈ s.plans → v ∉ q.active) → Table.at? s.segments a = some ga →
    Table.at? s.segments b = some gb → ga.supply = .supplied → gb.supply = .supplied →
    (∀ p q, (p, q) ∈ s.plans → q.target = a ∨ q.target = b → q.activeState = .idle) →
    (∀ w y, (w, y) ∈ s.valves → w ≠ v → ¬(y.ends a = true ∧ y.ends b = true)) →
    (mergedValves v ga gb).length ≤ 12 → ga.pointList.length + gb.pointList.length ≤ 4 →
    ∃ u, exec (.mergeAtStop h v) s = .next (acting h.tag
        { result := .done, clamped := decide (65535 < ga.customers + gb.customers), body := [.u16 a] } u) ∧
      changesOnly [.segments, .valves, .points, .incidents, .plans, .stopCount, .tracer, .notices, .onPlace] s u ∧
      u.stopCount = s.stopCount - 1 ∧ Table.at? u.segments b = none ∧
      (∃ g, Table.at? u.segments a = some g ∧ g.tier = ga.tier ∧ g.zone = ga.zone ∧
        g.customers = min 65535 (ga.customers + gb.customers) ∧ g.supply = .supplied ∧ g.outage = none ∧
        g.relit = 0 ∧ g.openIncidents = min 255 (ga.openIncidents + gb.openIncidents) ∧
        g.valveList.Pairwise (· < ·) ∧ g.pointList.Pairwise (· < ·) ∧
        (∀ w, w ∈ g.valveList ↔ w ≠ v ∧ (w ∈ ga.valveList ∨ w ∈ gb.valveList)) ∧
        ∀ p, p ∈ g.pointList ↔ p ∈ ga.pointList ∨ p ∈ gb.pointList) ∧
      (∀ n, n ≠ a → n ≠ b → Table.at? u.segments n = Table.at? s.segments n) ∧
      (∀ w, Table.at? u.valves w =
        if w = v then none else (Table.at? s.valves w).map (fun y => y.rename b a)) ∧
      (∀ p, Table.at? u.points p = if p ∈ gb.pointList
        then (Table.at? s.points p).map (fun q => { q with segment := a }) else Table.at? s.points p) ∧
      (∀ n, Table.at? u.incidents n =
        (Table.at? s.incidents n).map (fun i => if i.segment = b then { i with segment := a } else i)) ∧
      (∀ p, Table.at? u.plans p = (Table.at? s.plans p).map (fun q =>
        { q with target := if q.target = b then a else q.target,
                 draft := q.draft.filter (fun w => w != v) })) ∧
      raisesExactly (if s.plans.any (fun r => r.2.target = b || r.2.draft.contains v) then [.model, .plan]
        else [.model]) s u ∧
      (∀ n, flagsIf .segment n (decide (n = a ∨ n = b)) s u) ∧
      (∀ n, flagsIf .valve n (decide (n = v) || Table.test s.valves n (fun y => y.ends b)) s u) ∧
      (∀ n, flagsIf .point n (gb.pointList.contains n) s u) ∧
      (∀ n, flagsIf .incident n (Table.test s.incidents n (fun i => i.segment = b)) s u) ∧
      (∀ n, flagsIf .plan n (Table.test s.plans n (fun q => q.target = b || q.draft.contains v)) s u) ∧
      (∀ n, flagsIf .outage n false s u) ∧
      (s.tracer.pass = .idle ∨ s.tracer.restarts < 3 → triggers s u) ∧
      ∀ inp, s.tracer.pass = .running inp → 3 ≤ s.tracer.restarts →
        u.tracer = { s.tracer with pass := .running { inp with freed := b :: inp.freed }, rerun := true }

/-- R23, R24, R43, R84, R85, R142, R171, R178, R187: the requests that only read answer DONE with the record as it
stands, or NO RECORD for a free slot, and change nothing, in either model state but for READ PLAN. The bodies are
given field by field. What the rules leave open of them is the model's: an optional field that holds none (log 12),
the place of the lists and figures and the width of some counts (log 13), and no figures with BAD FIELD or NOT
RUNNING (log 34). -/
def Obligations.ReadsChangeNothing : Prop :=
  ∀ (h : Header) (s : State), s.ready →
    let answers (c : Instr) (r : Result) (body : List Field) : Prop := wellFormed c = true →
      exec c s = .next (acting h.tag { result := r, clamped := false, body := body } s)
    let o8 (x : Option Nat) : List Field := (x.map (fun n => [Field.u8 1, .u8 n])).getD [.u8 0, .absent 1]
    let o16 (x : Option Nat) : List Field := (x.map (fun n => [Field.u8 1, .u16 n])).getD [.u8 0, .absent 2]
    let o32 (x : Option Nat) : List Field := (x.map (fun n => [Field.u8 1, .u32 n])).getD [.u8 0, .absent 4]
    let yn (x : Bool) : Field := .u8 (if x then 1 else 0)
    let list (l : List (List Field)) : List Field := .u8 l.length :: l.flatten
    let numbers (l : List Nat) : List Field := list (l.map (fun n => [.u16 n]))
    let figures : List Field := [.u8 s.model.code, .u16 s.stopCount]
    let code : Nat := s.clock.dayClass * 32 + s.clock.second % 86400 / 3600
    (∀ n, 4096 ≤ n → answers (.readSegment h n) .badField []) ∧
    (∀ n, n < 4096 → Table.at? s.segments n = none → answers (.readSegment h n) .noRecord figures) ∧
    (∀ n g, n < 4096 → Table.at? s.segments n = some g → answers (.readSegment h n) .done
      ([.u16 n, .u8 g.tier.code, .u8 g.zone, .u32 g.customers] ++ numbers g.valveList ++ numbers g.pointList ++
        [.u8 g.supply.code] ++ o8 g.outage ++ [.u32 g.relit, .u8 g.openIncidents, yn (flagged .segment n s)] ++
        figures)) ∧
    (∀ v, 6144 ≤ v → answers (.readValve h v) .badField []) ∧
    (∀ v, v < 6144 → Table.at? s.valves v = none → answers (.readValve h v) .noRecord figures) ∧
    (∀ v a, v < 6144 → Table.at? s.valves v = some a → answers (.readValve h v) .done
      ([.u16 v, .u8 a.kind.code] ++ o16 a.endA ++ [.u16 a.endB, .u8 a.normal.code, .u8 a.operation.code] ++
        (a.tag.map (fun t => [Field.u8 1, .u8 t.concentrator, .u8 t.channel])).getD [.u8 0, .absent 2] ++
        [.u8 a.reported.code, yn a.unconfirmed, yn a.inoperable, .u8 a.orderState.code,
          .u16 (a.orderSerial.getD 0), yn a.followUp] ++ o32 a.waitingSince ++
        [.u8 a.hold, .u32 a.lastReport, yn (flagged .valve v s),
          .u8 (if 0 < a.hold then Position.closed.code else a.normal.code),
          yn (decide (a.reported ≠ .closed))] ++ figures)) ∧
    (∀ n, n < 1024 → Table.at? s.points n = none →
      answers (.alterPoint h n none none none none none none) .noRecord []) ∧
    (∀ n p, n < 1024 → Table.at? s.points n = some p →
      answers (.alterPoint h n none none none none none none) .done
        ([.u16 n, .u8 p.tag.concentrator, .u8 p.tag.channel, .u16 p.segment, .u16 p.zero, .u16 p.gain, .u8 p.group,
            .u8 p.persistence, .u16 p.hysteresis, .u8 p.staleLimit] ++ o16 p.lastRaw ++ o32 p.lastPressure ++
          [yn p.valid, .u32 p.lastContact, .u8 p.condition.code, .u8 p.band.code] ++
          o8 (p.candidate.map (fun b => b.code)) ++ [.u8 p.count] ++ o8 p.selected ++ [yn (flagged .point n s)] ++
          ((p.selected.bind (fun k => Table.at? s.profiles k)).map (fun e =>
            [Field.u32 e.ll, .u32 e.l, .u32 e.h, .u32 e.hh])).getD [])) ∧
    (let t := s.tracer
      let segs (x : Supply) : Nat := (s.segments.filter (fun r => r.2.supply = x)).length
      let outs (x : OutageState) : Nat := (s.outages.filter (fun r => r.2.state = x)).length
      answers (.readTrace h) .done
        ([.u8 (if t.pass = .idle then 0 else 1), .u8 t.restarts, yn t.rerun, .u16 t.generation] ++
          o32 t.lastPublication ++ [yn t.overflow, .u16 t.unassigned, .u16 (segs .supplied), .u16 (segs .unsupplied),
            .u16 (segs .relight), .u8 s.outages.length, .u8 (outs .active), .u8 (outs .restoring)])) ∧
    (∀ o start, o < 128 → start < 4096 → Table.at? s.outages o = none →
      answers (.readOutage h o start) .noRecord []) ∧
    (∀ o start r, o < 128 → start < 4096 → Table.at? s.outages o = some r →
      let listed := s.segments.filter (fun x => decide (x.2.outage = some o) && decide (start ≤ x.1))
      answers (.readOutage h o start) .done
        ([.u8 o, .u8 r.state.code, .u32 r.start] ++ o32 r.restoring ++ [.u16 r.members, .u32 r.customersOff,
            .u32 r.customersRelit, yn (flagged .outage o s)] ++
          list ((listed.take 64).map (fun x => [.u16 x.1, .u8 x.2.supply.code, .u32 x.2.relit])) ++
          [yn (decide (64 < listed.length))])) ∧
    (s.model = .running → ∀ p, p < 64 →
      let above : List Field := o8 ((s.plans.map (fun r => r.1)).find? (fun m => p < m)) ++ [.u8 s.plans.length]
      (Table.at? s.plans p = none → answers (.readPlan h p) .noRecord above) ∧
      ∀ q, Table.at? s.plans p = some q →
        let valve (v : Nat) : List Field := .u16 v :: ((Table.at? s.valves v).map (fun a =>
          [Field.u8 a.reported.code, .u8 a.hold, .u8 a.orderState.code, yn a.inoperable])).getD []
        let data (d : TestData) : List Field := [.u32 d.t0, .u32 d.windowEnd] ++ list (d.entries.map (fun e =>
          [.u16 e.point, .u32 e.p0, .u32 e.latest, .u8 e.state.code, .u32 (e.p0 * q.keep / 256)]))
        let test : List Field :=
          match q.test with
          | .none => [.u8 0]
          | .running d => .u8 1 :: data d
          | .ended d => .u8 2 :: data d
        answers (.readPlan h p) .done
          (.u8 p :: o16 q.incident ++ [.u16 q.target, .u8 q.mode.code, .u8 q.window, .u16 q.rise, .u8 q.keep,
              .u8 q.draftState.code] ++ o8 q.editor ++
            [.u8 q.activeState.code, .u8 q.verdict.code, yn q.orderFailed, yn q.needsRevision,
              yn (flagged .plan p s)] ++ numbers q.draft ++ list (q.active.map valve) ++ test ++ above)) ∧
    answers (.peekNotices h) .done [.u8 s.notices.raised.toNat, .u8 s.notices.enabled.toNat, .u32 s.clock.second,
      .u8 s.clock.dayClass, .u8 code]

/-- R38, R94, R106, R161, R178, R180, R187, R189: the requests that clear what they report answer with it, change
nothing as they are acted on, and note what the placing of the answer is to clear. The bodies are given field by
field. What the rules leave open of them is the model's: an optional field that holds none (log 12), the place of
lists and figures and the width of some counts (log 13), and the flag of LIST CHANGED that is 1 for a slot in use
(log 33). -/
def Obligations.ClearingReadsNoteWhatTheyReport : Prop :=
  ∀ (h : Header) (s : State), s.ready →
    let notes (c : Instr) (r : Result) (clamped : Bool) (body : List Field) (p : PlaceClear) : Prop :=
      wellFormed c = true → exec c s = .next (acting h.tag { result := r, clamped := clamped, body := body }
        (s.setPort { s.port with onPlace := p }))
    let o8 (x : Option Nat) : List Field := (x.map (fun n => [Field.u8 1, .u8 n])).getD [.u8 0, .absent 1]
    let o16 (x : Option Nat) : List Field := (x.map (fun n => [Field.u8 1, .u16 n])).getD [.u8 0, .absent 2]
    let o32 (x : Option Nat) : List Field := (x.map (fun n => [Field.u8 1, .u32 n])).getD [.u8 0, .absent 4]
    let yn (x : Bool) : Field := .u8 (if x then 1 else 0)
    let list (l : List (List Field)) : List Field := .u8 l.length :: l.flatten
    (∀ c, wellFormed (.readStrays h c) = true →
      let x := s.intake.report
      exec (.readStrays h c) s = .next (acting h.tag
        { result := .done
          clamped := false
          body := list (x.strays.map (fun t => [.u8 t.concentrator, .u8 t.channel])) ++
            [yn x.moreStrays, yn x.badItem, yn x.overrun, yn x.framing, .u8 s.intake.queue.length] ++
            (c.map (fun n => [Field.u8 (concentrator s n).state.code, .u32 (concentrator s n).lastChange])).getD [] }
        (s.setIntake { s.intake with next := some .clear }))) ∧
    (∀ n, s.model = .running → n < 512 →
      let p := { s.port.onPlace with incidentFull := true }
      let figures : List Field := o16 ((s.incidents.map (fun r => r.1)).find? (fun m => n < m)) ++
        [.u16 s.incidents.length, yn s.register.full] ++ o16 s.register.lastRefused
      (Table.at? s.incidents n = none → notes (.readIncident h n) .noRecord false figures p) ∧
      ∀ i, Table.at? s.incidents n = some i → notes (.readIncident h n) .done false
        ([.u16 n, .u8 i.kind.code, .u16 i.segment, .u32 i.firstReport, .u32 i.deadline, .u8 i.score, .u8 i.grade.code,
            yn i.overdue, yn i.indoor, yn i.damage, .u8 i.callCount, .u8 i.attendance.code] ++ o8 i.offerDesk ++
          o32 i.offerExpiry ++ [.u8 i.safety.code] ++ o8 i.plan ++ [.s8 i.adjustment, yn (flagged .incident n s)] ++
          list (i.entries.map (fun e => [.u32 e.ref, .u32 e.second, yn e.indoor, yn e.damage])) ++
          ((Table.at? s.segments i.segment).map (fun g => [Field.u8 g.tier.code, .u8 g.openIncidents])).getD [] ++
          figures) p) ∧
    (∀ start sel k, s.model = .running → s.ordersLegal → start < 256 → OrderSelection.ofCode? sel = some k →
      let wanted (o : Order) : Prop := k = .all ∨ (k = .queued ∧ o.state = .queued) ∨ (k = .fetched ∧ o.state = .fetched)
      let before (x y : Nat × Order) : Prop := (x.2.state = .queued ∧ y.2.state = .fetched) ∨
        (x.2.state = .queued ∧ y.2.state = .queued ∧ (x.2.action.code < y.2.action.code ∨
          (x.2.action = y.2.action ∧ (x.2.queued < y.2.queued ∨ (x.2.queued = y.2.queued ∧ x.1 < y.1))))) ∨
        (x.2.state = .fetched ∧ y.2.state = .fetched ∧ (x.2.expiry.getD 0 < y.2.expiry.getD 0 ∨
          (x.2.expiry.getD 0 = y.2.expiry.getD 0 ∧ x.1 < y.1)))
      let count (x : FetchState) : Nat := (s.orders.filter (fun r => r.2.state = x)).length
      let shown (x : Indication) : List Field := yn x.set :: o16 x.valve
      ∃ l : List (Nat × Order), (∀ r, r ∈ l ↔ r ∈ s.orders ∧ wanted r.2) ∧ l.Pairwise before ∧
        notes (.readOrders h start sel) .done false
          ([.u16 s.orders.length, .u16 (count .queued), .u16 (count .fetched),
              .u16 (s.valves.filter (fun r => r.2.orderState = .waiting)).length, .u16 s.orderUnit.nextSerial,
              .u8 s.orderUnit.remoteTime, .u8 s.orderUnit.crewTime] ++
            shown s.orderUnit.unplanned ++ shown s.orderUnit.timeout ++
            list (((l.drop start).take 16).map (fun r => [.u16 r.1, .u16 r.2.valve, .u8 r.2.action.code,
              .u8 r.2.channel.code, .u8 r.2.state.code, .u32 r.2.queued] ++ o32 r.2.fetched ++ o32 r.2.expiry)) ++
            [yn (decide (16 < (l.drop start).length))])
          { s.port.onPlace with orderIndications := true }) ∧
    notes (.getNotices h) .done false [.u8 s.notices.raised.toNat, .u8 s.notices.enabled.toNat, .u32 s.clock.second,
        .u8 s.clock.dayClass, .u8 (s.clock.dayClass * 32 + s.clock.second % 86400 / 3600)]
      { s.port.onPlace with notices := s.notices.raised } ∧
    ∀ c k m, RecordClass.ofCode? c = some k →
      let flags := s.notices.flags.of k
      let listed := flags.take (max 1 (min 32 m))
      let slot (n : Nat) : List Field :=
        match k with
        | .segment => [.u16 n, yn (Table.has s.segments n)]
        | .valve => [.u16 n, yn (Table.has s.valves n)]
        | .point => [.u16 n, yn (Table.has s.points n)]
        | .incident => [.u16 n, yn (Table.has s.incidents n)]
        | .plan => [.u8 n, yn (Table.has s.plans n)]
        | .outage => [.u8 n, yn (Table.has s.outages n)]
      notes (.listChanged h c m) .done (decide (m < 1 ∨ 32 < m))
        (.u8 c :: list (listed.map slot) ++ [.u16 (flags.length - listed.length)])
        { s.port.onPlace with slots := some (k, listed) }

/-- R29, R97, R109, R155, R177: the parameters of desk 0 (allowances, offer time, order times) are taken at the
nearest limit of their ranges, with CLAMPED where one was; SET NOTICE ENABLES replaces the enable set alone; LINK
RESET empties the queue and sends the receiver to SEEKING. Each answers with what it wrote and changes nothing else,
and is OUT OF AREA from another desk. -/
def Obligations.SupervisorSettingsAreWritten : Prop :=
  ∀ (h : Header) (s : State), s.listening →
    (∀ c, wellFormed c = true → h.desk ≠ 0 →
      ((∃ x y z, c = .setAllowances h x y z) ∨ (∃ x, c = .setOfferTime h x) ∨ (∃ x y, c = .setOrderTimes h x y) ∨
        (∃ x, c = .setNoticeEnables h x) ∨ c = .linkReset h) →
      exec c s = .next (acting h.tag { result := .outOfArea, clamped := false, body := [] } s)) ∧
    (h.desk = 0 →
    (∀ a b c, wellFormed (.setAllowances h a b c) = true →
      exec (.setAllowances h a b c) s = .next (acting h.tag
        { result := .done, clamped := decide (a < 15 ∨ 240 < a ∨ b < 30 ∨ 480 < b ∨ c < 60 ∨ 2880 < c),
          body := [.u16 (max 15 (min 240 a)), .u16 (max 30 (min 480 b)), .u16 (max 60 (min 2880 c))] }
        (s.setRegister { s.register with
          allowanceA := max 15 (min 240 a), allowanceB := max 30 (min 480 b),
          allowanceC := max 60 (min 2880 c) }))) ∧
    (∀ n, wellFormed (.setOfferTime h n) = true →
      exec (.setOfferTime h n) s = .next (acting h.tag
        { result := .done, clamped := decide (n < 30 ∨ 600 < n), body := [.u16 (max 30 (min 600 n))] }
        (s.setDispatch { s.dispatch with offerTime := max 30 (min 600 n) }))) ∧
    (∀ r c, wellFormed (.setOrderTimes h r c) = true →
      exec (.setOrderTimes h r c) s = .next (acting h.tag
        { result := .done, clamped := decide (r < 1 ∨ 30 < r ∨ c < 10 ∨ 240 < c),
          body := [.u8 (max 1 (min 30 r)), .u8 (max 10 (min 240 c))] }
        (s.setOrderUnit { s.orderUnit with
          remoteTime := max 1 (min 30 r), crewTime := max 10 (min 240 c) }))) ∧
    (∀ e, wellFormed (.setNoticeEnables h e) = true →
      exec (.setNoticeEnables h e) s = .next (acting h.tag
        { result := .done, clamped := false, body := [.u8 e.toNat, .u8 s.notices.raised.toNat] }
        (s.setNotices { s.notices with enabled := e }))) ∧
    (wellFormed (.linkReset h) = true →
      exec (.linkReset h) s = .next (acting h.tag
        { result := .done, clamped := false, body := [.u8 s.intake.queue.length] }
        (s.setIntake { s.intake with queue := [], receiver := .seeking }))))

/-! ## The Telemetry Intake (chapter 2) -/

/-- R26 to R30, R194: a byte on the telemetry port, by the receiver's state. Its eight samples are its bits, most
significant first, and the mark is that of the first. -/
def Obligations.TelemetryByteIsReceived : Prop :=
  ∀ (l : List BitSample) (x : BitSample) (s : State), s.port.held = false → l.length = 8 → l.head? = some x →
    ∃ (b : Byte) (u : State), exec (.telemetryByte l) s = .next u ∧
      (∀ k < 8, (l[k]?).map (fun y => y.data) = some (b.getLsbD (7 - k))) ∧
      changesOnly [.intake, .notices, .onPlace] s u ∧
      (x.mark = false → s.intake.receiver = .seeking → u = s) ∧
      (∀ bytes, x.mark = false → s.intake.receiver = .receiving bytes → bytes.length < 5 →
        u = s.setIntake { s.intake with receiver := .receiving (bytes ++ [b]) }) ∧
      (∀ bytes, x.mark = false → s.intake.receiver = .receiving bytes → bytes.length = 5 →
        u = s.setIntake { s.intake with
          receiver := .idle
          queue := if s.model = .running then s.intake.queue ++ [itemOf (bytes ++ [b])] else s.intake.queue }) ∧
      (∀ c, x.mark = false → s.intake.receiver = .discarding c →
        u = s.setIntake { s.intake with receiver := if c < 5 then .discarding (c + 1) else .idle }) ∧
      (x.mark = true → s.intake.receiver = .seeking ∨ s.intake.receiver = .idle →
        (s.intake.queue.length < 64 → u = s.setIntake { s.intake with receiver := .receiving [b] }) ∧
        (64 ≤ s.intake.queue.length → u.intake.receiver = .discarding 1 ∧ u.intake.queue = s.intake.queue ∧
          (currentReport u).overrun = true ∧ raisesExactly [.telemetry] s u)) ∧
      (x.mark = false → s.intake.receiver = .idle →
        u.intake.receiver = .seeking ∧ u.intake.queue = [] ∧ (currentReport u).framing = true ∧
          raisesExactly [.telemetry] s u) ∧
      (x.mark = true → (∃ bytes, s.intake.receiver = .receiving bytes) ∨ (∃ c, s.intake.receiver = .discarding c) →
        u.intake.receiver = .receiving [b] ∧ u.intake.queue = [] ∧ (currentReport u).framing = true ∧
          raisesExactly [.telemetry] s u)

/-- R28, R31 to R35, R57, R152: items of the intake queue that reach no record, and link items. A bad item and a kind
that does not suit the record its tag names set the bad-item indication; a tag that names no record is a stray, kept
once, eight at most. With an item of another kind than the step's at the head of the queue, or with an empty queue, each
of the six steps changes nothing (log 3). LINK UP and LINK DOWN set the concentrator's state; a change writes its last
change second and raises TELEMETRY, and where the state already stands neither is done. LINK UP raises no other class and
sets no flag; LINK DOWN makes every point of the concentrator STALE and every REMOTE valve of it unconfirmed, whether or
not the state changed, and changes nothing else of them. -/
def Obligations.StraysBadItemsAndLinks : Prop :=
  (∀ (c : Instr) (k : ItemKind) (s : State),
    (c = .readingItem ∧ k = .reading) ∨ (c = .holdItem ∧ k = .hold) ∨ (c = .positionItem ∧ k = .position) ∨
      (c = .linkUpItem ∧ k = .linkUp) ∨ (c = .linkDownItem ∧ k = .linkDown) ∨ (c = .badItem ∧ k = .bad) →
    (∀ i rest, s.intake.queue = i :: rest → i.sort ≠ k) → exec c s = .next s) ∧
  (∀ (s : State) (i : Item) (rest : List Item), s.awake → s.intake.queue = i :: rest →
    let bad (u : State) : Prop := changesOnly [.intake, .notices, .onPlace] s u ∧ u.intake.queue = rest ∧
      currentReport u = { currentReport s with badItem := true } ∧ raisesExactly [.telemetry] s u
    let stray (u : State) : Prop := changesOnly [.intake, .notices, .onPlace] s u ∧ u.intake.queue = rest ∧
      (i.tag ∈ (currentReport s).strays → currentReport u = currentReport s ∧ raisesExactly [] s u) ∧
      (i.tag ∉ (currentReport s).strays → (currentReport s).strays.length < 8 →
        currentReport u = { currentReport s with strays := (currentReport s).strays ++ [i.tag] } ∧
          raisesExactly [.telemetry] s u) ∧
      (i.tag ∉ (currentReport s).strays → 8 ≤ (currentReport s).strays.length →
        currentReport u = { currentReport s with moreStrays := true } ∧
          raisesExactly (if (currentReport s).moreStrays then [] else [.telemetry]) s u)
    let dataStep (k : ItemKind) (c : Instr) (mismatch : Bool) : Prop := i.sort = k →
      (mismatch = true → ∃ u, exec c s = .next u ∧ bad u) ∧
      (pointByTag s i.tag = none → valveByTag s i.tag = none → ∃ u, exec c s = .next u ∧ stray u)
    (i.sort = .bad → ∃ u, exec .badItem s = .next u ∧ bad u) ∧
      dataStep .reading .readingItem ((pointByTag s i.tag).isNone && (valveByTag s i.tag).isSome) ∧
      dataStep .hold .holdItem ((pointByTag s i.tag).isNone && (valveByTag s i.tag).isSome) ∧
      dataStep .position .positionItem (pointByTag s i.tag).isSome) ∧
  ∀ (s : State) (i : Item) (rest : List Item), s.awake → s.tablesLegal → s.intake.queue = i :: rest →
    let link (u : State) (l : LinkState) : Prop := u.intake = { s.intake with queue := rest } ∧
      (∀ c, c ≠ i.tag.concentrator → concentrator u c = concentrator s c) ∧
      concentrator u i.tag.concentrator =
        (if (concentrator s i.tag.concentrator).state = l then concentrator s i.tag.concentrator
          else { state := l, lastChange := s.clock.second }) ∧
      raisesIf .telemetry (decide ((concentrator s i.tag.concentrator).state ≠ l)) s u
    (i.sort = .linkUp → ∃ u, exec .linkUpItem s = .next u ∧ link u .up ∧
      changesOnly [.intake, .concentrators, .notices, .onPlace] s u ∧
      raisesExactly (if (concentrator s i.tag.concentrator).state = .up then [] else [.telemetry]) s u ∧
      flagsExactly [] s u) ∧
    (i.sort = .linkDown → ∃ u, exec .linkDownItem s = .next u ∧ link u .down ∧
      changesOnly [.intake, .concentrators, .points, .valves, .plans, .notices, .onPlace] s u ∧
      (∀ n, Table.at? u.points n = (Table.at? s.points n).map (fun p =>
        if p.tag.concentrator = i.tag.concentrator then { p with condition := .stale } else p)) ∧
      ∀ v, Table.at? u.valves v = (Table.at? s.valves v).map (fun a =>
        if a.operation = .remote ∧ (∃ t, a.tag = some t ∧ t.concentrator = i.tag.concentrator)
        then { a with unconfirmed := true } else a))

/-! ## The Pressure Supervisor (chapter 3) -/

/-- R44 to R47, R53 to R55: a reading or a hold taken from the queue reaches its point. A rail reading makes the point a
SENSOR FAULT; any other is converted, gives the condition and, with an entry selected, counts toward the target band. A
hold with no valid pressure is discarded; at a rail it refreshes the contact and takes a STALE point to SENSOR FAULT;
otherwise it gives the last raw value again, with its condition, and counts as `value + 1` readings of it. Every other
field of the point, and every other point, stays. What is handed on is said by ReadingsReachTheRegisterAndTheTests. -/
def Obligations.ReadingsAndHoldsReachTheirPoint : Prop :=
  (∀ (s : State) (i : Item) (rest : List Item) (n : Nat) (p : Point), s.awake → s.intake.queue = i :: rest →
    i.sort = .reading → pointByTag s i.tag = some n → Table.at? s.points n = some p →
    ∃ u q, exec .readingItem s = .next u ∧ u.intake = { s.intake with queue := rest } ∧
      changesOnly [.intake, .points, .plans, .incidents, .segments, .register, .notices, .onPlace] s u ∧
      (∀ m, m ≠ n → Table.at? u.points m = Table.at? s.points m) ∧ Table.at? u.points n = some q ∧
      q.lastContact = s.clock.second ∧ q.lastRaw = some i.value ∧
      (i.value = 0 ∨ i.value = 65535 →
        q = { p with lastContact := s.clock.second, lastRaw := some i.value, condition := .sensorFault }) ∧
      (i.value ≠ 0 → i.value ≠ 65535 →
        let full := if i.value ≤ p.zero then 0 else ((i.value - p.zero) * p.gain + 512) / 1024
        let x := min 1048575 full
        q = { p with lastContact := s.clock.second, lastRaw := some i.value, lastPressure := some x, valid := true,
                     condition := q.condition, band := q.band, candidate := q.candidate, count := q.count } ∧
        (p.selected = none → q.condition = .unbanded ∧ q.band = p.band ∧ q.candidate = p.candidate ∧
          q.count = p.count) ∧
        ∀ k e, p.selected = some k → Table.at? s.profiles k = some e →
          let t := targetBand e p.hysteresis p.band x
          let c := if p.candidate = some t then min 15 (p.count + 1) else 1
          q.condition = (if 1048575 < full then .overRange else .ok) ∧
          (t = p.band → q.band = p.band ∧ q.candidate = none ∧ q.count = 0) ∧
          (t ≠ p.band → p.persistence ≤ c → q.band = t ∧ q.candidate = none ∧ q.count = 0) ∧
          (t ≠ p.band → c < p.persistence → q.band = p.band ∧ q.candidate = some t ∧ q.count = c))) ∧
  ∀ (s : State) (i : Item) (rest : List Item) (n : Nat) (p : Point), s.awake → s.intake.queue = i :: rest →
    i.sort = .hold → pointByTag s i.tag = some n → Table.at? s.points n = some p →
    ∃ u q, exec .holdItem s = .next u ∧ u.intake = { s.intake with queue := rest } ∧
      changesOnly [.intake, .points, .plans, .incidents, .segments, .register, .notices, .onPlace] s u ∧
      (∀ m, m ≠ n → Table.at? u.points m = Table.at? s.points m) ∧ Table.at? u.points n = some q ∧
      (p.valid = false → u = s.setIntake { s.intake with queue := rest }) ∧
      ∀ r, p.valid = true → p.lastRaw = some r →
        (r = 0 ∨ r = 65535 → q = { p with
          lastContact := s.clock.second
          condition := if p.condition = .stale then .sensorFault else p.condition }) ∧
        (r ≠ 0 → r ≠ 65535 →
          let full := if r ≤ p.zero then 0 else ((r - p.zero) * p.gain + 512) / 1024
          q = { p with lastContact := s.clock.second, lastRaw := some r, lastPressure := some (min 1048575 full), valid := true,
                       condition := q.condition, band := q.band, candidate := q.candidate, count := q.count } ∧
          (p.selected = none → q.condition = .unbanded ∧ q.band = p.band ∧ q.candidate = p.candidate ∧
            q.count = p.count) ∧
          ∀ k e, p.selected = some k → Table.at? s.profiles k = some e →
            let t := targetBand e p.hysteresis p.band (min 1048575 full)
            let c := if p.candidate = some t then min 15 (p.count + (i.value + 1)) else min 15 (i.value + 1)
            q.condition = (if 1048575 < full then .overRange else .ok) ∧
            (t = p.band → q.band = p.band ∧ q.candidate = none ∧ q.count = 0) ∧
            (t ≠ p.band → p.persistence ≤ c → q.band = t ∧ q.candidate = none ∧ q.count = 0) ∧
            (t ≠ p.band → c < p.persistence → q.band = p.band ∧ q.candidate = some t ∧ q.count = c))

/-- R58 to R61, R93, R94, R102, R165, R166: what a reading or a hold of a point hands on. A change of its condition or
band, and nothing else, sets its flag and raises PRESSURE. Where no test has a TESTING entry for it, the Register is
reached by a band change alone: entering a severe band on a SUPPLIED segment makes a PRESSURE incident if the segment
has no open incident, or sets the incident-full indication if no slot is free, and regrades its open incidents if it
has any; any other band change regrades them where the open incident count is above 0. That an incident made with its
deadline at or before now is overdue at once is the model's reading of R98 against R86 (log 15). The TESTING entry of a
RUNNING test takes the pressure, drops at a rail or over range, which with no other left ends the test UNTESTED, and a rise
beyond the allowance ends it PASSING, with the incident MAKING SAFE and graded anew. -/
def Obligations.ReadingsReachTheRegisterAndTheTests : Prop :=
  ∀ (c : Instr) (s : State) (i : Item) (rest : List Item) (n : Nat) (p : Point), s.awake → s.tablesLegal →
    s.intake.queue = i :: rest → pointByTag s i.tag = some n → Table.at? s.points n = some p →
    (c = .readingItem ∧ i.sort = .reading) ∨ (c = .holdItem ∧ i.sort = .hold) →
    ∃ u q, exec c s = .next u ∧ Table.at? u.points n = some q ∧
      (∀ m, flagsIf .point m (decide (m = n ∧ (q.condition ≠ p.condition ∨ q.band ≠ p.band))) s u) ∧
      raisesIf .pressure (decide (q.condition ≠ p.condition ∨ q.band ≠ p.band)) s u ∧
      (underTest s n = false →
        let x := p.segment
        let supplied : Bool := Table.test s.segments x (fun g => g.supply = .supplied)
        let counted : Bool := Table.test s.segments x (fun g => 0 < g.openIncidents)
        let severe : Prop := q.band = .lowLow ∨ q.band = .highHigh
        let none' : Prop := ∀ m j, Table.at? s.incidents m = some j → j.segment ≠ x
        let kept : Prop := u.incidents = s.incidents ∧ u.register = s.register ∧ u.segments = s.segments
        let regrades : Prop := u.register = s.register ∧ u.segments = s.segments ∧
          ∀ m, Table.at? u.incidents m = (Table.at? s.incidents m).map (fun j =>
            if j.segment = x then regraded u j else j)
        (q.band = p.band → kept) ∧
        (q.band ≠ p.band → severe → supplied = true →
          (¬ none' → regrades) ∧
          (none' → ∀ k, Table.lowestFree s.incidents 512 = some k → u.register = s.register ∧
            flagsIf .incident k true s u ∧ raisesIf .incident true s u ∧
            (∃ j, j = { kind := .pressure, segment := x, firstReport := s.clock.second, deadline := j.deadline,
                        score := score u j, grade := gradeOf (score u j),
                        overdue := decide (j.deadline ≤ s.clock.second), indoor := false, damage := false,
                        callCount := 0, entries := [], attendance := .unassigned, offerDesk := none,
                        offerExpiry := none, safety := .opened, plan := none, adjustment := 0 } ∧
              j.deadline = min 4294967295 (s.clock.second + allowance s j.grade * 60) ∧
              ∀ m, Table.at? u.incidents m = if m = k then some j else Table.at? s.incidents m) ∧
            ∀ m, Table.at? u.segments m = (Table.at? s.segments m).map (fun g =>
              if m = x then { g with openIncidents := 1 } else g)) ∧
          (none' → Table.lowestFree s.incidents 512 = none → u.incidents = s.incidents ∧ u.segments = s.segments ∧
            u.register = { s.register with full := true, lastRefused := some x })) ∧
        (q.band ≠ p.band → ¬ (severe ∧ supplied = true) → (counted = true → regrades) ∧ (counted = false → kept))) ∧
      ∀ a r d e, Table.at? s.plans a = some r → r.test = .running d → r.activeState = .secured →
        (d.entries.map (fun y => y.point)).Nodup → e ∈ d.entries → e.point = n → e.state = .testing →
        p.condition = .ok ∨ p.condition = .unbanded →
        let put (f : TestEntry → TestEntry) : TestData :=
          { d with entries := d.entries.map (fun y => if y.point = n then f y else y) }
        let drops : Prop :=
          let d' := put (fun y => { y with state := .dropped })
          Table.at? u.plans a = some (if d.entries.any (fun y => decide (y.point ≠ n ∧ y.state = .testing))
            then { r with test := .running d' } else { r with test := .ended d', verdict := .untested }) ∧
          flagsIf .plan a true s u ∧ raisesIf .plan true s u
        (∀ raw, (c = .readingItem ∧ raw = i.value) ∨ (c = .holdItem ∧ p.valid = true ∧ p.lastRaw = some raw) →
          let full := if raw ≤ p.zero then 0 else ((raw - p.zero) * p.gain + 512) / 1024
          let pr := min 1048575 full
          let d' := put (fun y => { y with latest := pr })
          (c = .readingItem → raw = 0 ∨ raw = 65535 → drops) ∧
          (raw ≠ 0 → raw ≠ 65535 → q.condition = .overRange → drops) ∧
          (raw ≠ 0 → raw ≠ 65535 → q.condition ≠ .overRange → pr ≤ e.p0 + r.rise →
            Table.at? u.plans a = some { r with test := .running d' }) ∧
          (raw ≠ 0 → raw ≠ 65535 → q.condition ≠ .overRange → e.p0 + r.rise < pr →
            Table.at? u.plans a = some { r with test := .ended d', verdict := .passing, activeState := .passing } ∧
            flagsIf .plan a true s u ∧ raisesIf .plan true s u ∧
            ∀ k j, r.incident = some k → Table.at? s.incidents k = some j → j.plan = some a →
              ∃ j', Table.at? u.incidents k = some j' ∧ j'.safety = .makingSafe ∧ j'.score = score u j' ∧
                j'.grade = gradeOf j'.score))

/-- R53, R54: the target band, with thresholds in order, row by row of the table of R54 (a subtraction is floored at 0).
With a hysteresis of 0 it is the zone of the pressure in every row. A pressure that goes further from NORMAL than the
present band needs no margin, one that goes toward NORMAL must clear the threshold by the hysteresis, and a target that is
reached is its own target. -/
def Obligations.TargetBandWidensThePresentBand : Prop :=
  ∀ (e : Profile) (h p : Nat) (b : Band), e.ll ≤ e.l → e.l < e.h → e.h ≤ e.hh →
    let zone : Band := if p < e.ll then .lowLow else if p < e.l then .low else if p ≤ e.h then .normal
      else if p ≤ e.hh then .high else .highHigh
    targetBand e 0 b p = zone ∧
      targetBand e h .normal p = zone ∧
      targetBand e h .low p = (if p < e.ll then .lowLow else if p < e.l + h then .low else zone) ∧
      targetBand e h .lowLow p = (if p < e.ll + h then .lowLow else if p < e.l + h then .low else zone) ∧
      targetBand e h .high p = (if e.hh < p then .highHigh else if e.h - h < p then .high else zone) ∧
      targetBand e h .highHigh p = (if e.hh - h < p then .highHigh else if e.h - h < p then .high else zone) ∧
      (p < e.ll → b = .normal ∨ b = .low ∨ b = .lowLow → targetBand e h b p = .lowLow) ∧
      (e.hh < p → b = .normal ∨ b = .high ∨ b = .highHigh → targetBand e h b p = .highHigh) ∧
      (targetBand e h .low p = .normal → e.l + h ≤ p) ∧ (targetBand e h .high p = .normal → p + h ≤ e.h ∨ p = 0) ∧
      (targetBand e h .lowLow p = .low → e.ll + h ≤ p) ∧
      targetBand e h (targetBand e h b p) p = targetBand e h b p

/-- R42, R43, R51: an ALTER POINT that writes. The fields given are written, persistence and stale limit at the
nearest limit of their ranges; new calibration drops the converted value and the run toward a band; another group
selects anew. The point is flagged, and no other point changes. -/
def Obligations.AlterPointWrites : Prop :=
  ∀ (h : Header) (n : Nat) (z g group k hyst stale : Option Nat) (s : State) (p : Point), s.ready →
    wellFormed (.alterPoint h n z g group k hyst stale) = true →
    (z.isSome || g.isSome || group.isSome || k.isSome || hyst.isSome || stale.isSome) = true →
    s.model = .running → n < 1024 → (∀ x, g = some x → x ≠ 0) → (∀ x, group = some x → x < 32) →
    Table.at? s.points n = some p → inWindow s h.desk p.segment = true →
    (z.isSome || g.isSome) = false ∨ underTest s n = false →
    ∃ r u q, exec (.alterPoint h n z g group k hyst stale) s = .next (acting h.tag r u) ∧ r.result = .done ∧
      r.clamped = (k.any (fun x => decide (x < 1 ∨ 15 < x)) || stale.any (fun x => decide (x < 1 ∨ 60 < x))) ∧
      changesOnly [.points, .notices, .onPlace] s u ∧ flagsIf .point n true s u ∧
      (∀ m, m ≠ n → Table.at? u.points m = Table.at? s.points m) ∧ Table.at? u.points n = some q ∧
      q.tag = p.tag ∧ q.segment = p.segment ∧ q.lastRaw = p.lastRaw ∧ q.lastContact = p.lastContact ∧
      q.band = p.band ∧ q.zero = z.getD p.zero ∧ q.gain = g.getD p.gain ∧ q.group = group.getD p.group ∧
      q.persistence = ((k.map (fun x => max 1 (min 15 x))).getD p.persistence) ∧
      q.hysteresis = hyst.getD p.hysteresis ∧
      q.staleLimit = ((stale.map (fun x => max 1 (min 60 x))).getD p.staleLimit) ∧
      ((z.isSome || g.isSome) = true → q.lastPressure = none ∧ q.valid = false ∧ q.candidate = none ∧ q.count = 0) ∧
      ((z.isSome || g.isSome) = false → q.lastPressure = p.lastPressure ∧ q.valid = p.valid) ∧
      (q.group = p.group → q.selected = p.selected ∧
        q.condition = (if (z.isSome || g.isSome) = true ∧ p.condition = .overRange then .ok else p.condition) ∧
        ((z.isSome || g.isSome) = false → q.candidate = p.candidate ∧ q.count = p.count)) ∧
      (q.group ≠ p.group → q.selected = selection s q.group)

/-- R48 to R52: the selection for a group is the lowest-numbered entry in use that is enabled, is of the group and agrees
with the period code in every bit of its mask. SET PROFILE from desk 0 with thresholds in order writes one entry. While RUNNING the points of its
new group, and of the group it had before, hold the selection that R50 gives them; no other point changes. -/
def Obligations.SetProfileWritesAndReselects : Prop :=
  (∀ (x : State) (g n : Nat), x.tablesLegal →
    let meets (m : Nat) : Prop := ∃ e, Table.at? x.profiles m = some e ∧ e.enabled = true ∧ e.group = g ∧
      ((x.clock.dayClass * 32 + x.clock.second % 86400 / 3600) &&& e.periodMask) = (e.periodValue &&& e.periodMask)
    (selection x g = some n ↔ meets n ∧ ∀ m, m < n → ¬ meets m)) ∧
  ∀ (h : Header) (n group pv pm ll l hi hh : Nat) (enabled : Bool) (s : State), s.ready → s.tablesLegal →
    wellFormed (.setProfile h n group pv pm ll l hi hh enabled) = true → h.desk = 0 → n < 256 → group < 32 →
    min 1048575 ll ≤ min 1048575 l → min 1048575 l < min 1048575 hi → min 1048575 hi ≤ min 1048575 hh →
    let touched (p : Point) : Prop :=
      s.model = .running ∧ (p.group = group ∨ ∃ e, Table.at? s.profiles n = some e ∧ p.group = e.group)
    ∃ u, exec (.setProfile h n group pv pm ll l hi hh enabled) s = .next (acting h.tag
        { result := .done
          clamped := decide (1048575 < ll ∨ 1048575 < l ∨ 1048575 < hi ∨ 1048575 < hh)
          body := [.u8 n] } u) ∧
      changesOnly [.profiles, .points, .notices, .onPlace] s u ∧
      (∀ m, Table.at? u.profiles m = if m = n then some
        { group := group, periodValue := pv, periodMask := pm, ll := min 1048575 ll, l := min 1048575 l,
          h := min 1048575 hi, hh := min 1048575 hh, enabled := enabled } else Table.at? s.profiles m) ∧
      ∀ m p, Table.at? s.points m = some p → ∃ q, Table.at? u.points m = some q ∧
        (¬ touched p → q = p) ∧
        (touched p → q = { p with
          selected := q.selected, candidate := q.candidate, count := q.count, condition := q.condition } ∧
          q.selected = selection u p.group ∧
          (selection u p.group ≠ p.selected ∨ selection u p.group = some n →
            q.candidate = none ∧ q.count = 0 ∧ q.condition = conditionAfter p.condition (selection u p.group)) ∧
          (selection u p.group = p.selected → selection u p.group ≠ some n → q = p))

/-! ## The Supply Tracer (chapter 4) -/

/-- R4, R66, R67: the reached segments of a pass are exactly those to which gas spreads from a seed, and two unreached
segments stand in one island exactly if a chain of valves that pass gas joins them. -/
def Obligations.PassFindsReachAndIslands : Prop :=
  ∀ inp : PassInputs, (∀ y, y ∈ reached inp ↔ Reaches inp y) ∧
    ∀ x y, x ∈ unreached inp → y ∈ unreached inp →
      ((∃ i ∈ islands inp, x ∈ i ∧ y ∈ i) ↔ Chained inp x y)

/-- R68 to R70, R79: a publication writes the supply fields of the segments that were in its pass and have stayed
in use, by the table of R69, and no other field of any segment. The generation goes up and the pass ends, or a
rerun begins. With no pass RUNNING the step changes nothing (log 3). What the outage records become is said by
PublicationAssignsOutages. -/
def Obligations.PublicationWritesSupply : Prop :=
  ∀ (s : State), s.port.held = false → s.tablesLegal → s.tracerLegal →
    (s.tracer.pass = .idle → exec .publication s = .next s) ∧
    ∀ inp, s.tracer.pass = .running inp → ∃ u, exec .publication s = .next u ∧
      changesOnly [.segments, .outages, .tracer, .incidents, .notices, .onPlace] s u ∧
      (∀ n, Table.at? s.segments n = none → Table.at? u.segments n = none) ∧
      (∀ n g, Table.at? s.segments n = some g → n ∉ inp.segments ∨ n ∈ inp.freed →
        Table.at? u.segments n = some g) ∧
      (∀ n g, Table.at? s.segments n = some g → n ∈ inp.segments → n ∉ inp.freed →
        ∃ g', Table.at? u.segments n = some g' ∧
          g' = { g with supply := g'.supply, outage := g'.outage, relit := g'.relit } ∧
          (Reaches inp n → g.supply = .supplied → g'.supply = .supplied ∧ g'.outage = none ∧ g'.relit = 0) ∧
          (Reaches inp n → g.supply = .unsupplied → 0 < g.customers →
            g'.supply = .relight ∧ g'.outage = g.outage ∧ g'.relit = 0) ∧
          (Reaches inp n → g.supply = .unsupplied → g.customers = 0 →
            g'.supply = .supplied ∧ g'.outage = none ∧ g'.relit = 0) ∧
          (Reaches inp n → g.supply = .relight → g' = g) ∧
          (¬ Reaches inp n → g'.supply = .unsupplied ∧
            g'.relit = (if g.supply = .supplied then 0 else g.relit))) ∧
      u.tracer.generation = (s.tracer.generation + 1) % 65536 ∧
      u.tracer.lastPublication = some s.clock.second ∧ u.tracer.restarts = 0 ∧ u.tracer.rerun = false ∧
      (s.tracer.rerun = false → u.tracer.pass = .idle) ∧
      (s.tracer.rerun = true → u.tracer.pass = .running (takeInputs u))

/-- R71 to R79: what the publication of a pass makes of the outage records and hands on. An island keeps the lowest
of the records whose lowest UNSUPPLIED member lies in it; the islands that no record claims are given new records, in
the order of their lowest segments, in the lowest free slots while there are any; that the lowest segment of an
island is taken over the whole island of the pass, segments freed since included, is the model's reading (log 21). A record is in use exactly while a
segment names it, and one that is kept keeps its start second. The flags, the OUTAGE notice, the unassigned count
and the regrades of R79 follow. -/
def Obligations.PublicationAssignsOutages : Prop :=
  ∀ (s : State) (inp : PassInputs), s.port.held = false → s.tablesLegal → s.tracerLegal → s.outagesLegal →
    s.tracer.pass = .running inp →
    let written (n : Nat) : Prop := n ∈ inp.segments ∧ n ∉ inp.freed ∧ Table.has s.segments n = true
    let lost (n : Nat) : Prop := written n ∧ ¬ Reaches inp n
    -- The UNSUPPLIED members a record has after R69, and the record whose home island a lost segment lies in.
    let left (o n : Nat) : Prop := ∃ g, Table.at? s.segments n = some g ∧ g.outage = some o ∧
      (lost n ∨ (¬ written n ∧ g.supply = .unsupplied))
    let claims (o n : Nat) : Prop := ∃ m, left o m ∧ (∀ k, left o k → m ≤ k) ∧ lost m ∧ Chained inp n m
    let unclaimed (n : Nat) : Prop := lost n ∧ ∀ o, ¬ claims o n
    let lowest (n x : Nat) : Prop := Chained inp n x ∧ ∀ y, Chained inp n y → x ≤ y
    ∃ u, exec .publication s = .next u ∧
      let names (n : Nat) (o : Option Nat) : Prop := ∃ g, Table.at? u.segments n = some g ∧ g.outage = o
      (∀ n o, lost n → claims o n → (∀ k, claims k n → o ≤ k) → names n (some o)) ∧
      (∀ n m, lost n → lost m → Chained inp n m → ∀ o, names n o → names m o) ∧
      (∀ n, unclaimed n →
        (names n none ∧ ∀ o < 128, Table.has u.outages o = true) ∨
        ∃ o r, names n (some o) ∧ Table.at? u.outages o = some r ∧ r.state = .active ∧ r.start = s.clock.second ∧
          r.restoring = none ∧ flagsIf .outage o true s u ∧ (∀ k < o, Table.has u.outages k = true) ∧
          ∀ m, names m (some o) → lost m ∧ Chained inp n m) ∧
      (∀ n m x y o, unclaimed n → unclaimed m → lowest n x → lowest m y → x < y → names m (some o) →
        ∃ k < o, names n (some k)) ∧
      (∀ o, Table.has u.outages o = true ↔ ∃ n, names n (some o)) ∧
      (∀ o r, Table.at? u.outages o = some r → r.legal u o) ∧
      (∀ o r r' n, Table.at? s.outages o = some r → Table.at? u.outages o = some r' → names n (some o) →
        ¬ unclaimed n → r'.start = r.start ∧
          r'.restoring = (if r'.state = .active then r.restoring else some (r.restoring.getD s.clock.second))) ∧
      u.tracer.unassigned = (inp.segments.filter (fun n => decide (n ∉ inp.freed) &&
        Table.test u.segments n (fun g => decide (g.supply = .unsupplied) && decide (g.outage = none)))).length ∧
      u.tracer.overflow = decide (0 < u.tracer.unassigned) ∧
      (∀ n, flagsIf .segment n (decide (Table.at? u.segments n ≠ Table.at? s.segments n)) s u) ∧
      (∀ o, (Table.at? u.outages o ≠ Table.at? s.outages o → flagsIf .outage o true s u) ∧
        (flagged .outage o u = true → flagged .outage o s = true ∨ Table.at? u.outages o ≠ Table.at? s.outages o ∨
          ∃ n, unclaimed n ∧ names n (some o))) ∧
      raisesIf .outage (decide (u.segments ≠ s.segments ∨ u.outages ≠ s.outages ∨ 0 < u.tracer.unassigned)) s u ∧
      ∀ k, Table.at? u.incidents k = (Table.at? s.incidents k).map (fun i =>
        if Table.test s.segments i.segment (fun g => decide (0 < g.openIncidents) &&
          Table.test u.segments i.segment (fun g' => decide (g'.supply ≠ g.supply))) then regraded u i else i)

/-- R76, R77, R80 to R82: an admitted REPORT RELIT. A count that leaves the relit count below the customers is added;
one that reaches them makes the segment SUPPLIED, out of its outage, and regrades its open incidents; a count of 0
changes nothing. CLAMPED is given where the sum exceeds the customers. The outage the segment named is counted again,
or retired with its last member. No other segment and no other outage changes. -/
def Obligations.ReportRelitCounts : Prop :=
  ∀ (h : Header) (n count : Nat) (s : State) (g : Segment), s.ready → s.tablesLegal → s.outagesLegal →
    wellFormed (.reportRelit h n count) = true → s.model = .running → n < 4096 → inWindow s h.desk n = true →
    Table.at? s.segments n = some g → g.supply = .relight →
    ∃ r u, exec (.reportRelit h n count) s = .next (acting h.tag r u) ∧ r.result = .done ∧
      r.clamped = decide (g.customers < g.relit + count) ∧
      changesOnly [.segments, .outages, .incidents, .notices, .onPlace] s u ∧
      (∀ m, m ≠ n → Table.at? u.segments m = Table.at? s.segments m) ∧
      (count = 0 → u = s) ∧
      (0 < count → g.relit + count < g.customers →
        Table.at? u.segments n = some { g with relit := g.relit + count }) ∧
      (0 < count → g.customers ≤ g.relit + count →
        Table.at? u.segments n = some { g with supply := .supplied, outage := none, relit := 0 }) ∧
      (0 < count → raisesIf .outage true s u ∧ flagsIf .segment n true s u) ∧
      (∀ m, g.outage ≠ some m → Table.at? u.outages m = Table.at? s.outages m) ∧
      (∀ o x, 0 < count → g.outage = some o → Table.at? s.outages o = some x → flagsIf .outage o true s u ∧
        (((∀ m k, Table.at? u.segments m = some k → k.outage ≠ some o) ∧ Table.at? u.outages o = none) ∨
          ∃ y, Table.at? u.outages o = some y ∧ y.legal u o ∧ y.start = x.start ∧
            y.restoring = (if y.state = .active then x.restoring else some (x.restoring.getD s.clock.second)))) ∧
      ∀ k, Table.at? u.incidents k = (Table.at? s.incidents k).map (fun i =>
        if 0 < count ∧ g.customers ≤ g.relit + count ∧ 0 < g.openIncidents ∧ i.segment = n then regraded u i else i)

/-! ## The Incident Register (chapter 5) -/

/-- R89 to R91: an admitted REPORT CALL. It joins the incident named; with none named and the new-incident flag clear,
the open incident of the segment with the earliest first report, the lowest-numbered of equals; in every other case a new
incident is made in the lowest free slot. Either is graded. No other incident changes. An
incident made with its deadline at or before now is overdue at once, as R98 is read for the making too (log 15). -/
def Obligations.ReportCallJoinsOrMakes : Prop :=
  ∀ (h : Header) (ref seg : Nat) (indoor damage newInc : Bool) (merge : Option Nat) (s : State) (g : Segment),
    s.ready → s.tablesLegal → wellFormed (.reportCall h ref seg indoor damage newInc merge) = true →
    s.model = .running → seg < 4096 → (∀ m, merge = some m → m < 512 ∧ newInc = false) →
    inWindow s h.desk seg = true → Table.at? s.segments seg = some g →
    let e : CallEntry := { ref := ref, second := s.clock.second, indoor := indoor, damage := damage }
    let kept (n : Nat) (u : State) : Prop :=
      changesOnly [.incidents, .segments, .notices, .onPlace] s u ∧ flagsIf .incident n true s u ∧
        raisesIf .incident true s u ∧
        (∀ m, m ≠ n → Table.at? u.incidents m = Table.at? s.incidents m)
    (∀ n i, Table.at? s.incidents n = some i →
      (merge = some n ∨ (merge = none ∧ newInc = false ∧ i.segment = seg ∧
        ∀ m j, Table.at? s.incidents m = some j → j.segment = seg →
          i.firstReport < j.firstReport ∨ (i.firstReport = j.firstReport ∧ n ≤ m))) →
      (merge.isSome → inWindow s h.desk i.segment = true) → (∀ x ∈ i.entries, x.ref ≠ ref) →
      ∃ r u, exec (.reportCall h ref seg indoor damage newInc merge) s = .next (acting h.tag r u) ∧
        r.result = .done ∧ kept n u ∧ u.segments = s.segments ∧
        Table.at? u.incidents n = some (regraded s { i with
          callCount := min 255 (i.callCount + 1)
          entries := if i.entries.length < 8 then i.entries ++ [e] else i.entries
          indoor := i.indoor || indoor
          damage := i.damage || damage })) ∧
    (∀ n, merge = none → newInc = true ∨ (∀ m j, Table.at? s.incidents m = some j → j.segment ≠ seg) →
      Table.lowestFree s.incidents 512 = some n →
      ∃ r u i, exec (.reportCall h ref seg indoor damage newInc merge) s = .next (acting h.tag r u) ∧
        r.result = .done ∧ kept n u ∧ Table.at? u.incidents n = some i ∧
        i = { kind := if damage then .damage else .escape, segment := seg, firstReport := s.clock.second,
              deadline := i.deadline, score := score s i, grade := gradeOf (score s i),
              overdue := decide (i.deadline ≤ s.clock.second),
              indoor := indoor, damage := damage, callCount := 1, entries := [e], attendance := .unassigned,
              offerDesk := none, offerExpiry := none, safety := .opened, plan := none, adjustment := 0 } ∧
        i.deadline = min 4294967295 (s.clock.second + allowance s i.grade * 60) ∧
        ∀ m, Table.at? u.segments m = (Table.at? s.segments m).map (fun g => if m = seg
          then { g with openIncidents := min 255 (openIncidents u seg).length } else g))

/-- R95, R96, R98, R100, R103: REGRADE replaces the adjustment, taken at the nearest limit of -64 to 63, and grades
the incident anew by its factors; its deadline never becomes later. DECLARE CONTROLLED sets the safety. A flag
and the INCIDENT notice follow only where the record changed. -/
def Obligations.RegradeAndDeclareControlled : Prop :=
  ∀ (h : Header) (n : Nat) (s : State) (i : Incident) (g : Segment), s.ready → s.model = .running → n < 512 →
    Table.at? s.incidents n = some i → Table.at? s.segments i.segment = some g →
    inWindow s h.desk i.segment = true →
    let becomes (c : Instr) (clamped : Bool) (i' : Incident) : Prop := ∃ body u,
      exec c s = .next (acting h.tag { result := .done, clamped := clamped, body := body } u) ∧
        changesOnly [.incidents, .notices, .onPlace] s u ∧
        (∀ m, Table.at? u.incidents m = if m = n then some i' else Table.at? s.incidents m) ∧
        raisesExactly (if i' = i then [] else [.incident]) s u ∧
        flagsExactly (if i' = i then [] else [(.incident, n)]) s u
    (∀ a : Int, wellFormed (.regrade h n a) = true →
      let b := max (-64) (min 63 a)
      let base : Int := match g.tier with
        | .lp => 10
        | .mp => 30
        | .ip => 50
      let sum : Int := base + 12 * min i.callCount 5 + (if i.indoor then 40 else 0) +
        (if g.supply = .supplied ∧ hasBand s g [.low, .lowLow] = true then 25 else 0) +
        (if i.kind = .pressure ∧ hasBand s g [.lowLow, .highHigh] = true then 50 else 0) +
        (if (i.plan.any (fun p => Table.test s.plans p (fun q => q.verdict = .passing))) = true then 40 else 0) +
        (if i.damage then 20 else 0) + b
      let sc : Nat := if sum < 0 then 0 else if 255 < sum then 255 else sum.toNat
      let gr : Grade := if 80 ≤ sc then .a else if 40 ≤ sc then .b else .c
      let dl : Nat := min i.deadline (min 4294967295 (i.firstReport + allowance s gr * 60))
      becomes (.regrade h n a) (decide (a < -64 ∨ 63 < a)) { i with
        adjustment := b, score := sc, grade := gr, deadline := dl
        overdue := i.overdue || (decide (dl ≤ s.clock.second) && decide (i.attendance ≠ .attended)) }) ∧
    (wellFormed (.declareControlled h n) = true →
      becomes (.declareControlled h n) false { i with safety := .controlled })

/-- R104, R105: an admitted CLOSE INCIDENT frees the slot. The plan names the incident no longer, an outstanding
offer of it is cleared, and the segment's open incident count is set afresh. No other incident changes. That
PLAN is raised where a plan named the incident is R141 (log 19). -/
def Obligations.CloseIncidentRetires : Prop :=
  ∀ (h : Header) (n : Nat) (s : State) (i : Incident), s.ready → wellFormed (.closeIncident h n) = true →
    s.model = .running → n < 512 → Table.at? s.incidents n = some i → inWindow s h.desk i.segment = true →
    (∀ p, i.plan = some p → ∃ q, Table.at? s.plans p = some q ∧ q.activeState = .idle) →
    ∃ r u, exec (.closeIncident h n) s = .next (acting h.tag r u) ∧ r.result = .done ∧
      changesOnly [.incidents, .segments, .plans, .dispatch, .notices, .onPlace] s u ∧
      (∀ m, Table.at? u.incidents m = if m = n then none else Table.at? s.incidents m) ∧
      (∀ p, Table.at? u.plans p = (Table.at? s.plans p).map (fun q =>
        if i.plan = some p then { q with incident := none } else q)) ∧
      u.dispatch.offerTime = s.dispatch.offerTime ∧
      (∀ d, Table.at? u.dispatch.offers d = if i.attendance = .offered ∧ i.offerDesk = some d then none
        else Table.at? s.dispatch.offers d) ∧
      (∀ m, Table.at? u.segments m = (Table.at? s.segments m).map (fun g => if m = i.segment
        then { g with openIncidents := min 255 (openIncidents u i.segment).length } else g)) ∧
      flagsIf .incident n true s u ∧ (∀ m, m ≠ n → flagsIf .incident m false s u) ∧
      raisesIf .incident true s u ∧ (i.plan ≠ none → raisesIf .plan true s u)

/-- R56, R58, R101, R108, R112, R173: the timed work of the Supervisor, the Register and the Selector for the latest
second event, each done once. Every point whose contact has lapsed becomes STALE, every unattended incident that
has reached its deadline becomes overdue, and every offer that has reached its expiry lapses; the rest stay as
they were. Work that is not owed changes nothing (log 3). -/
def Obligations.TimedWorkReachesDeadlines : Prop :=
  ∀ s : State, s.port.held = false → s.tablesLegal → s.offersAgree →
    let works (c : Instr) (w : TimedWork) (l : List Part) (p : State → Prop) : Prop :=
      (w ∉ s.clock.due → exec c s = .next s) ∧
      (w ∈ s.clock.due → ∃ u, exec c s = .next u ∧ changesOnly (l ++ [.clock, .notices, .onPlace]) s u ∧
        u.clock = { s.clock with due := s.clock.due.filter (fun x => x != w) } ∧ p u)
    works .pointStale .staleness [.points, .plans] (fun u =>
      ∀ n, Table.at? u.points n = (Table.at? s.points n).map (fun p =>
        if p.staleLimit * 60 < s.clock.second - p.lastContact then { p with condition := .stale } else p)) ∧
    works .incidentOverdue .overdue [.incidents] (fun u =>
      ∀ n, Table.at? u.incidents n = (Table.at? s.incidents n).map (fun i =>
        if i.attendance ≠ .attended ∧ i.deadline ≤ s.clock.second then { i with overdue := true } else i)) ∧
    works .offerExpiry .expiry [.incidents, .dispatch] (fun u =>
      let lapses (i : Incident) : Prop := i.attendance = .offered ∧ ∃ e, i.offerExpiry = some e ∧ e ≤ s.clock.second
      (∀ n i, Table.at? s.incidents n = some i → ¬ lapses i → Table.at? u.incidents n = some i) ∧
      (∀ n i, Table.at? s.incidents n = some i → lapses i → Table.at? u.incidents n = some
        { i with attendance := .unassigned, offerDesk := none, offerExpiry := none }) ∧
      (∀ n, Table.at? s.incidents n = none → Table.at? u.incidents n = none) ∧
      (∀ d n i, Table.at? s.dispatch.offers d = some n → Table.at? s.incidents n = some i →
        (lapses i → Table.at? u.dispatch.offers d = none) ∧
        (¬ lapses i → Table.at? u.dispatch.offers d = some n)) ∧
      u.dispatch.offerTime = s.dispatch.offerTime)

/-- R173: a request, an item or a second event that comes while blocks still owe their work for the latest second event.
It acts as on the state that the timed commands of the blocks it reaches lead to, each done once; after it those blocks
owe nothing, and of the others each owes what it owed. Which blocks a command reaches is `workReached`, the model's
reading of the chapters (log 4), and their order is log 5. -/
def Obligations.OwedWorkComesFirst : Prop :=
  ∀ (c : Instr) (s t : State), s.port.held = false →
    (isRequest c = true ∧ s.listening ∧ wellFormed c = true) ∨
      (∃ i rest, s.intake.queue = i :: rest ∧ ((c = .readingItem ∧ i.sort = .reading) ∨
        (c = .holdItem ∧ i.sort = .hold) ∨ (c = .positionItem ∧ i.sort = .position) ∨
        (c = .linkUpItem ∧ i.sort = .linkUp) ∨ (c = .linkDownItem ∧ i.sort = .linkDown) ∨
        (c = .badItem ∧ i.sort = .bad))) ∨
      c = .secondEvent →
    leadsTo ((workReached c).map timedCommand) s t →
    (∀ w, w ∈ t.clock.due ↔ w ∈ s.clock.due ∧ w ∉ workReached c) ∧
      exec c s = exec c t ∧
      (c ≠ .secondEvent → ∃ u, exec c s = .next u ∧ u.clock.due = t.clock.due)

/-! ## The Dispatch Selector (chapter 6) -/

/-- R110, R111: an admitted OFFER NEXT. The desk's own offer is withdrawn; the candidates are the UNASSIGNED
incidents of the zones asked for within the desk's window; the one of the lowest priority group, then the
earliest deadline, then the lowest number becomes OFFERED to the desk. The answer's
body is given field by field; that an optional field with none still has its value bytes (log 12), that the part of
the body on an incident is left out where there is none (log 13), and that the offer expiry second has no presence
byte (log 33), is the model's. -/
def Obligations.OfferNextOffersTheMostUrgent : Prop :=
  ∀ (h : Header) (v m : Nat) (s : State), s.ready → s.tablesLegal → wellFormed (.offerNext h v m) = true →
    s.model = .running →
    let s1 := withdrawOffer h.desk s
    let candidate (n : Nat) (i : Incident) : Prop := Table.at? s1.incidents n = some i ∧
      i.attendance = .unassigned ∧ inWindow s h.desk i.segment = true ∧
      ∃ g, Table.at? s.segments i.segment = some g ∧ (g.zone &&& m) = (v &&& m)
    (offerOf s h.desk = none → s1 = s) ∧
    (∀ k, offerOf s h.desk = some k → changesOnly [.incidents, .dispatch, .notices, .onPlace] s s1 ∧
      (∀ n, Table.at? s1.incidents n = if n = k then (Table.at? s.incidents n).map (fun i =>
        { i with attendance := .unassigned, offerDesk := none, offerExpiry := none })
        else Table.at? s.incidents n) ∧
      ∀ d, offerOf s1 d = if d = h.desk then none else offerOf s d) ∧
    ((∀ n i, ¬ candidate n i) → exec (.offerNext h v m) s = .next (acting h.tag
      { result := .done, clamped := false, body := [.u16 0, .u8 0, .absent 2] } s1)) ∧
    (∀ n i, candidate n i →
      (∀ n' i', candidate n' i' → priorityGroup i < priorityGroup i' ∨
        (priorityGroup i = priorityGroup i' ∧
          (i.deadline < i'.deadline ∨ (i.deadline = i'.deadline ∧ n ≤ n')))) →
      let expiry := min 4294967295 (s.clock.second + s.dispatch.offerTime)
      let found := (s1.incidents.filter (fun r => decide (r.2.attendance = .unassigned) &&
        inWindow s h.desk r.2.segment &&
        Table.test s.segments r.2.segment (fun g => decide ((g.zone &&& m) = (v &&& m))))).length
      ∃ g u, Table.at? s.segments i.segment = some g ∧ exec (.offerNext h v m) s = .next (acting h.tag
          { result := .done, clamped := false, body :=
            [.u16 found, .u8 1, .u16 n, .u16 i.segment, .u8 g.zone, .u8 i.score, .u8 i.grade.code,
              .u8 (if i.overdue then 1 else 0), .u32 i.deadline, .u8 i.safety.code, .u8 i.callCount, .u32 expiry] } u) ∧
        changesOnly [.incidents, .dispatch, .notices, .onPlace] s1 u ∧
        (∀ k, Table.at? u.incidents k = if k = n then some
          { i with attendance := .offered, offerDesk := some h.desk,
                   offerExpiry := some expiry }
          else Table.at? s1.incidents k) ∧
        (∀ d, offerOf u d = if d = h.desk then some n else offerOf s1 d) ∧
        u.dispatch.offerTime = s.dispatch.offerTime ∧
        raisesExactly [.dispatch] s1 u ∧ flagsExactly [(.incident, n)] s1 u)

/-- R113, R114: ACCEPT OFFER and DECLINE OFFER, with their tests in order, are decided by the desk's own offer. Where
it names the incident, the incident becomes DISPATCHED or UNASSIGNED and the offer ends; otherwise the answer is
TOO LATE and nothing changes. Neither is tested against the desk's window. -/
def Obligations.AcceptAndDeclineEndTheOffer : Prop :=
  ∀ (h : Header) (n : Nat) (s : State), s.ready →
    let ends (c : Instr) (a : Attendance) (body : Incident → List Field) : Prop := wellFormed c = true →
      let refuses (r : Result) : Prop := exec c s =
        .next (acting h.tag { result := r, clamped := false, body := [] } s)
      (s.model = .loading → refuses .notRunning) ∧
      (s.model = .running → 512 ≤ n → refuses .badField) ∧
      (s.model = .running → n < 512 → offerOf s h.desk ≠ some n → refuses .tooLate) ∧
      ∀ i, s.model = .running → n < 512 → offerOf s h.desk = some n → Table.at? s.incidents n = some i →
        ∃ u, exec c s = .next (acting h.tag { result := .done, clamped := false, body := body i } u) ∧
          changesOnly [.incidents, .dispatch, .notices, .onPlace] s u ∧
          (∀ m, Table.at? u.incidents m = if m = n then some
            { i with attendance := a, offerDesk := none, offerExpiry := none } else Table.at? s.incidents m) ∧
          (∀ d, offerOf u d = if d = h.desk then none else offerOf s d) ∧
          u.dispatch.offerTime = s.dispatch.offerTime ∧
          raisesExactly [.dispatch] s u ∧ flagsExactly [(.incident, n)] s u
    ends (.acceptOffer h n) .dispatched (fun i => [.u16 n, .u16 i.segment, .u32 i.deadline]) ∧
      ends (.declineOffer h n) .unassigned (fun _ => [.u16 n])

/-- R115, R116: an admitted DISPATCH DIRECT and REPORT ATTENDED, by the incident's attendance. An offer of the
incident ends; where the attendance already stands, nothing changes. An incident offered to another desk is BUSY
and an ATTENDED one is WRONG STATE to DISPATCH DIRECT. -/
def Obligations.DispatchAndAttendance : Prop :=
  ∀ (h : Header) (n : Nat) (s : State) (i : Incident), s.ready → s.offersAgree → s.model = .running → n < 512 →
    Table.at? s.incidents n = some i → inWindow s h.desk i.segment = true →
    let becomes (c : Instr) (a : Attendance) : Prop := ∃ r u, exec c s = .next (acting h.tag r u) ∧
      r.result = .done ∧ (i.attendance = a → u = s) ∧
      (i.attendance ≠ a → changesOnly [.incidents, .dispatch, .notices, .onPlace] s u ∧
        (∀ m, Table.at? u.incidents m = if m = n then some
          { i with attendance := a, offerDesk := none, offerExpiry := none } else Table.at? s.incidents m) ∧
        (∀ d, offerOf u d = if i.attendance = .offered ∧ i.offerDesk = some d then none else offerOf s d) ∧
        u.dispatch.offerTime = s.dispatch.offerTime ∧
        raisesExactly [.dispatch] s u ∧ flagsExactly [(.incident, n)] s u)
    (wellFormed (.dispatchDirect h n) = true →
      (i.attendance = .offered → i.offerDesk ≠ some h.desk → exec (.dispatchDirect h n) s =
        .next (acting h.tag { result := .busy, clamped := false, body := [] } s)) ∧
      (i.attendance = .attended → exec (.dispatchDirect h n) s =
        .next (acting h.tag { result := .wrongState, clamped := false, body := [] } s)) ∧
      (i.attendance = .unassigned ∨ i.attendance = .dispatched ∨ i.offerDesk = some h.desk →
        i.attendance ≠ .attended → becomes (.dispatchDirect h n) .dispatched)) ∧
    (wellFormed (.reportAttended h n) = true → becomes (.reportAttended h n) .attended)

/-! ## The Plan Engine and the Verification Unit (chapters 7 and 9) -/

/-- R118, R120 to R126, R128, R141: an admitted CREATE PLAN makes a plan in the lowest free slot and links the incident
given; an admitted DELETE PLAN frees the slot of an IDLE plan whose draft is EMPTY and holds no list, and unlinks the
incident it names. No other plan changes. The draft requests that only edit each write the draft side of one plan, flag it
and raise PLAN, and leave the active side, the holds and every other plan alone. A lock by the editor changes nothing; a
lock, or an edit, against another desk's lock is refused. -/
def Obligations.PlansAndDraftsAreEdited : Prop :=
  (∀ (h : Header) (incident target : Option Nat) (mode t p : Nat) (window rise keep : Option Nat) (s : State)
      (k : PlanMode), s.ready → wellFormed (.createPlan h incident target mode window rise keep) = true →
    s.model = .running → (∀ n, incident = some n → n < 512 ∧ ∃ i, Table.at? s.incidents n = some i ∧
      i.plan = none ∧ (target = none → t = i.segment)) → (∀ x, target = some x → x < 4096 ∧ t = x) →
    (incident ≠ none ∨ target ≠ none) → PlanMode.ofCode? mode = some k → Table.has s.segments t = true →
    inWindow s h.desk t = true → Table.lowestFree s.plans 64 = some p →
    let w := (window.map (fun x => max 5 (min 120 x))).getD 30
    ∃ u, exec (.createPlan h incident target mode window rise keep) s = .next (acting h.tag
        { result := .done
          clamped := window.any (fun x => decide (x < 5 ∨ 120 < x))
          body := [.u8 p, .u16 t, .u8 w, .u16 (rise.getD 200), .u8 (keep.getD 64)] } u) ∧
      changesOnly [.plans, .incidents, .notices, .onPlace] s u ∧
      (∀ m, Table.at? u.plans m = if m = p then some
        { incident := incident, target := t, mode := k, window := w, rise := rise.getD 200,
          keep := keep.getD 64, draftState := .empty, editor := none, draft := [], activeState := .idle,
          active := [], verdict := .none, orderFailed := false, needsRevision := false, test := .none }
        else Table.at? s.plans m) ∧
      (∀ n, Table.at? u.incidents n = (Table.at? s.incidents n).map (fun i =>
        if incident = some n then { i with plan := some p } else i)) ∧
      raisesExactly (if incident = none then [.plan] else [.plan, .incident]) s u ∧
      flagsExactly ((.plan, p) :: incident.toList.map (fun n => (.incident, n))) s u) ∧
  (∀ (h : Header) (p : Nat) (s : State) (q : Plan), s.ready → wellFormed (.deletePlan h p) = true →
    s.model = .running → p < 64 → Table.at? s.plans p = some q → inWindow s h.desk q.target = true →
    q.activeState = .idle → q.draftState = .empty → q.draft = [] →
    ∃ u, exec (.deletePlan h p) s = .next (acting h.tag { result := .done, clamped := false, body := [] } u) ∧
      changesOnly [.plans, .incidents, .notices, .onPlace] s u ∧
      (∀ m, Table.at? u.plans m = if m = p then none else Table.at? s.plans m) ∧
      (∀ n, Table.at? u.incidents n = (Table.at? s.incidents n).map (fun i =>
        if q.incident = some n then { i with plan := none } else i)) ∧
      raisesExactly (if q.incident = none then [.plan] else [.plan, .incident]) s u ∧
      flagsExactly ((.plan, p) :: q.incident.toList.map (fun n => (.incident, n))) s u) ∧
  ∀ (h : Header) (p v : Nat) (copy : Bool) (s : State) (q : Plan), s.ready → s.model = .running → p < 64 →
    Table.at? s.plans p = some q → inWindow s h.desk q.target = true →
    let edits (c : Instr) (q' : Plan) : Prop := wellFormed c = true → ∃ r u,
      exec c s = .next (acting h.tag r u) ∧ r.result = .done ∧ changesOnly [.plans, .notices, .onPlace] s u ∧
        (∀ m, Table.at? u.plans m = if m = p then some q' else Table.at? s.plans m) ∧
        raisesExactly [.plan] s u ∧ flagsExactly [(.plan, p)] s u
    let refuses (c : Instr) (x : Result) : Prop := wellFormed c = true →
      exec c s = .next (acting h.tag { result := x, clamped := false, body := [] } s)
    let mine : Prop := q.draftState = .edit ∧ q.editor = some h.desk
    (q.draftState ≠ .edit → edits (.lockDraft h p copy)
      { q with draftState := .edit, editor := some h.desk, draft := if copy then q.active else q.draft }) ∧
    (mine → wellFormed (.lockDraft h p copy) = true →
      ∃ r, exec (.lockDraft h p copy) s = .next (acting h.tag r s) ∧ r.result = .done) ∧
    (q.draftState = .edit → q.editor ≠ some h.desk → refuses (.lockDraft h p copy) .busy) ∧
    (∀ a, mine → v < 6144 → Table.at? s.valves v = some a → (h.desk = 0 ∨ a.inWindow s h.desk = true) →
      v ∉ q.draft → q.draft.length < 24 → a.inoperable = false →
      edits (.addValve h p v) { q with draft := q.draft ++ [v] }) ∧
    (mine → v < 6144 → v ∈ q.draft →
      edits (.removeValve h p v) { q with draft := q.draft.filter (fun x => x != v) }) ∧
    (mine → edits (.unlockDraft h p) { q with draftState := .empty, editor := none }) ∧
    (¬ mine → v < 6144 → refuses (.addValve h p v) .wrongState ∧ refuses (.removeValve h p v) .wrongState) ∧
    (¬ mine → refuses (.unlockDraft h p) .wrongState)

/-- R102, R119, R127, R130 to R132, R139, R140, R164: an admitted COMMIT DRAFT. Where the plan's mode does not accept,
the draft waits and nothing but the draft side changes. Where it accepts, and no other plan is RELEASING, the draft
becomes the active list, the hold of each valve added goes up by 1 and of each valve dropped down by 1, and the plan is
SECURED, with its test started, exactly where every listed valve is reported CLOSED. The incident it names takes the
events of R102, leaving IDLE and TIGHT to ISSUING, and is regraded where the verdict was PASSING. No report changes;
the orders are said by WantedChangesAreOrdered. -/
def Obligations.CommitDraftWaitsOrTransfers : Prop :=
  ∀ (h : Header) (p : Nat) (s : State) (q : Plan), s.ready → wellFormed (.commitDraft h p) = true →
    s.model = .running → p < 64 → Table.at? s.plans p = some q → inWindow s h.desk q.target = true →
    q.draftState = .edit → q.editor = some h.desk → q.draft ≠ [] →
    (q.mode.accepts q.activeState = false → ∃ r u, exec (.commitDraft h p) s = .next (acting h.tag r u) ∧
      r.result = .done ∧ changesOnly [.plans, .notices, .onPlace] s u ∧
      (∀ m, Table.at? u.plans m = if m = p then some { q with draftState := .committed, editor := none }
        else Table.at? s.plans m) ∧
      raisesExactly [.plan] s u ∧ flagsExactly [(.plan, p)] s u) ∧
    (q.mode.accepts q.activeState = true → q.draft.Nodup → q.active.Nodup →
      (∀ m r, Table.at? s.plans m = some r → m ≠ p → r.activeState ≠ .releasing) → ∃ r u q',
      exec (.commitDraft h p) s = .next (acting h.tag r u) ∧ r.result = .done ∧
      changesOnly [.valves, .plans, .incidents, .orders, .orderUnit, .notices, .onPlace] s u ∧
      Table.at? u.plans p = some q' ∧ q'.active = q.draft ∧ q'.draftState = .empty ∧ q'.editor = none ∧
      q'.draft = [] ∧ q'.incident = q.incident ∧ q'.target = q.target ∧ q'.mode = q.mode ∧
      q'.window = q.window ∧ q'.rise = q.rise ∧ q'.keep = q.keep ∧
      q'.activeState = (if allClosed s q.draft then .secured else .issuing) ∧
      (q'.activeState = .issuing → q'.verdict = .none ∧ q'.test = .none) ∧
      (q'.activeState = .secured → testStarted s q.target q.window q'.test q'.verdict) ∧
      q'.needsRevision = q.draft.any (fun v => Table.test s.valves v (fun a => a.inoperable)) ∧
      q'.orderFailed = (q.orderFailed &&
        q.draft.any (fun v => Table.test u.valves v (fun a => a.orderState = .stalled))) ∧
      (∀ k, Table.at? u.incidents k = (Table.at? s.incidents k).map (fun i =>
        if q.incident = some k then
          let i' := { i with safety :=
            if q.activeState = .idle then (if i.safety = .opened then .makingSafe else i.safety)
            else if q.activeState = .tight ∧ q'.activeState = .issuing then .makingSafe else i.safety }
          if q.verdict = .passing then regraded u i' else i'
        else i)) ∧
      (∀ m, m ≠ p → Table.at? u.plans m = Table.at? s.plans m) ∧
      (∀ v a, Table.at? s.valves v = some a → ∃ a', Table.at? u.valves v = some a' ∧
        a'.hold = (if v ∈ q.draft ∧ v ∉ q.active then a.hold + 1
          else if v ∈ q.active ∧ v ∉ q.draft then a.hold - 1 else a.hold) ∧
        a'.reported = a.reported ∧ a'.unconfirmed = a.unconfirmed ∧ a'.inoperable = a.inoperable ∧
        a'.lastReport = a.lastReport ∧ a'.kind = a.kind ∧ a'.endA = a.endA ∧ a'.endB = a.endB ∧
        a'.normal = a.normal ∧ a'.operation = a.operation ∧ a'.tag = a.tag) ∧
      flagsIf .plan p true s u ∧ raisesIf .plan true s u)

/-- R119, R137, R138: an admitted RELEASE PLAN, with no other plan RELEASING and no draft committed. Each listed
valve's hold goes down by 1, the verdict becomes NONE and the test is cleared. The plan is IDLE with its list
cleared where every listed valve is settled, and RELEASING otherwise. The
incident it names keeps its safety, and is regraded where the verdict was PASSING. -/
def Obligations.ReleasePlanGivesUpTheHolds : Prop :=
  ∀ (h : Header) (p : Nat) (s : State) (q : Plan), s.ready → wellFormed (.releasePlan h p) = true →
    s.model = .running → p < 64 → Table.at? s.plans p = some q → inWindow s h.desk q.target = true →
    (q.activeState = .issuing ∨ q.activeState = .secured ∨ q.activeState = .tight ∨ q.activeState = .passing) →
    q.active.Nodup → q.draftState ≠ .committed →
    (∀ m r, Table.at? s.plans m = some r → m ≠ p → r.activeState ≠ .releasing) → ∃ r u q',
      exec (.releasePlan h p) s = .next (acting h.tag r u) ∧ r.result = .done ∧
      changesOnly [.valves, .plans, .incidents, .orders, .orderUnit, .notices, .onPlace] s u ∧
      Table.at? u.plans p = some q' ∧
      q' = { q with activeState := q'.activeState, active := q'.active, verdict := .none, test := .none,
                    orderFailed := q'.orderFailed, needsRevision := q'.needsRevision } ∧
      (q.active.all (settled u) = true → q'.activeState = .idle ∧ q'.active = [] ∧ q'.orderFailed = false ∧
        q'.needsRevision = false) ∧
      (q.active.all (settled u) = false → q'.activeState = .releasing ∧ q'.active = q.active ∧
        q'.orderFailed = q.orderFailed ∧ q'.needsRevision = q.needsRevision) ∧
      (∀ m, m ≠ p → Table.at? u.plans m = Table.at? s.plans m) ∧
      (∀ v a, Table.at? s.valves v = some a → ∃ a', Table.at? u.valves v = some a' ∧
        a'.hold = (if v ∈ q.active then a.hold - 1 else a.hold) ∧ a'.reported = a.reported ∧
        a'.unconfirmed = a.unconfirmed ∧ a'.inoperable = a.inoperable ∧ a'.lastReport = a.lastReport) ∧
      (∀ k, Table.at? u.incidents k = (Table.at? s.incidents k).map (fun i =>
        if q.incident = some k ∧ q.verdict = .passing then regraded u i else i)) ∧
      flagsIf .plan p true s u ∧ raisesIf .plan true s u

/-- R119, R146, R147: the orders that follow the hold changes of a transfer or a release, with room in the list for
each and no valve waiting. A valve whose wanted position moves takes the change by its order state: a FETCHED order
stands with follow-up wanted; an inoperable valve is left alone; of any other a QUEUED order is withdrawn, and an
order for the wanted position is queued, or the order state is NONE where the valve is reported there. No other order
and no other valve changes, but for the hold counts. -/
def Obligations.WantedChangesAreOrdered : Prop :=
  ∀ (c : Instr) (h : Header) (p : Nat) (s : State) (q : Plan), s.ready → s.tablesLegal → s.plansLegal →
    s.ordersLegal → s.orderLaws → waitingValves s = [] → s.orders.length + 48 ≤ 256 → wellFormed c = true →
    s.model = .running → p < 64 → Table.at? s.plans p = some q → inWindow s h.desk q.target = true →
    (∀ m r, Table.at? s.plans m = some r → m ≠ p → r.activeState ≠ .releasing) →
    (c = .commitDraft h p ∧ q.editor = some h.desk ∧ q.draft ≠ [] ∧ q.mode.accepts q.activeState = true) ∨
      (c = .releasePlan h p ∧ q.draftState ≠ .committed ∧ (q.activeState = .issuing ∨ q.activeState = .secured ∨
        q.activeState = .tight ∨ q.activeState = .passing)) →
    ∃ r u, exec c s = .next (acting h.tag r u) ∧ r.result = .done ∧
      let moved (v : Nat) : Prop := ∃ a b, Table.at? s.valves v = some a ∧ Table.at? u.valves v = some b ∧
        b.wanted ≠ a.wanted
      (∀ v a, Table.at? s.valves v = some a → ∃ b, Table.at? u.valves v = some b ∧
        (b ≠ a → flagsIf .valve v true s u) ∧
        (b ≠ { a with hold := b.hold } → raisesIf .order true s u) ∧
        let settled := { a with
          hold := b.hold, orderState := .none, orderSerial := none, followUp := false, waitingSince := none }
        (b.wanted = a.wanted → b = { a with hold := b.hold }) ∧
        (b.wanted ≠ a.wanted → a.orderState = .fetched → b = { a with hold := b.hold, followUp := true }) ∧
        (b.wanted ≠ a.wanted → a.orderState ≠ .fetched → a.inoperable = true → b = { a with hold := b.hold }) ∧
        (b.wanted ≠ a.wanted → a.orderState ≠ .fetched → a.inoperable = false →
          (a.reported = (if 0 < b.hold then .closed else .opened) → b = settled) ∧
          (a.reported ≠ (if 0 < b.hold then .closed else .opened) → ∃ n,
            b = { settled with orderState := .queued, orderSerial := some n } ∧
            Table.at? u.orders n = some
              { valve := v, action := if 0 < b.hold then .close else .opening, channel := a.operation.channel,
                state := .queued, queued := s.clock.second, fetched := none, expiry := none }))) ∧
      (∀ n o, Table.at? s.orders n = some o → o.state = .fetched ∨ ¬ moved o.valve → Table.at? u.orders n = some o) ∧
      (∀ n o, Table.at? u.orders n = some o → Table.at? s.orders n = some o ∨ (moved o.valve ∧
        o.queued = s.clock.second)) ∧
      ∀ n m o x, Table.at? u.orders n = some o → Table.at? u.orders m = some x → o.valve = x.valve → n = m

/-- R102, R135, R167, R168: the Verification Unit's work for the latest second event. A RUNNING test that has reached
its window end is ENDED; its plan, if SECURED, becomes TIGHT where every entry still TESTING has fallen to its keep
threshold or below, and PASSING otherwise, and the incident it names becomes CONTROLLED, or MAKING SAFE and is
regraded. A test that has not reached its end, and every other field of a plan, stays. Which work is owed (log 4), and
that work not owed changes nothing (log 3), is the model's. -/
def Obligations.WindowEndGivesTheVerdict : Prop :=
  ∀ s : State, s.port.held = false → s.tablesLegal →
    (.windowEnd ∉ s.clock.due → exec .windowEnd s = .next s) ∧
    (.windowEnd ∈ s.clock.due → ∃ u, exec .windowEnd s = .next u ∧
      changesOnly [.plans, .incidents, .clock, .notices, .onPlace] s u ∧
      u.clock = { s.clock with due := s.clock.due.filter (fun x => x != .windowEnd) } ∧
      (∀ p, Table.at? s.plans p = none → Table.at? u.plans p = none) ∧
      ∀ p q, Table.at? s.plans p = some q →
        (∀ d, q.test = .running d → d.windowEnd ≤ s.clock.second →
          let held := d.entries.all (fun e =>
            decide (e.state = .dropped) || decide (e.latest ≤ e.p0 * q.keep / 256))
          Table.at? u.plans p = some (if q.activeState = .secured then
            { q with test := .ended d, verdict := if held then .tight else .passing,
                     activeState := if held then .tight else .passing }
            else { q with test := .ended d })) ∧
        (∀ d, q.test = .running d → s.clock.second < d.windowEnd → Table.at? u.plans p = some q) ∧
        ((∀ d, q.test ≠ .running d) → Table.at? u.plans p = some q) ∧
        (∀ d k i, q.test = .running d → d.windowEnd ≤ s.clock.second → q.activeState = .secured →
          q.incident = some k → Table.at? s.incidents k = some i → i.plan = some p →
          (∀ m r, Table.at? s.plans m = some r → r.incident = some k → m = p) →
          Table.at? u.incidents k = some (if Table.test u.plans p (fun r => r.activeState = .tight)
            then { i with safety := .controlled } else regraded u { i with safety := .makingSafe })) ∧
        ∀ k, (∀ m r, Table.at? s.plans m = some r → r.incident ≠ some k) →
          Table.at? u.incidents k = Table.at? s.incidents k)

/-! ## The Order Unit (chapter 8) -/

/-- R148 to R151, R64: a position report, by REPORT VALVE or by a POSITION item of a REMOTE valve. The valve takes
the position, the second and its contact back; no other valve's report changes; a change of "passes gas" is a
trigger. For a valve that no plan's active list names, with no valve waiting, an order whose action the report
meets leaves the list, a FETCHED one with follow-up wanted gives its place to the order the valve is still owed, and an
unplanned change is given an order. -/
def Obligations.PositionReportIsActedOn : Prop :=
  ∀ (c : Instr) (v : Nat) (pos : Reported) (s : State) (a : Valve), s.awake →
    Table.at? s.valves v = some a →
    ((∃ h code, c = .reportValve h v code ∧ s.listening ∧ wellFormed c = true ∧ s.model = .running ∧ v < 6144 ∧
        Reported.ofCode? code = some pos ∧ (h.desk = 0 ∨ a.inWindow s h.desk = true)) ∨
      (∃ i rest, c = .positionItem ∧ s.intake.queue = i :: rest ∧ i.sort = .position ∧ pointByTag s i.tag = none ∧
        valveByTag s i.tag = some v ∧ positionOfCode i.value = pos)) →
    ∃ t u, exec c s = .next t ∧
      ((∃ h code r, c = .reportValve h v code ∧ t = acting h.tag r u ∧ r.result = .done ∧
          u.intake = s.intake) ∨
        (c = .positionItem ∧ t = u ∧ u.intake = { s.intake with queue := s.intake.queue.tail })) ∧
      changesOnly [.intake, .valves, .plans, .incidents, .orders, .orderUnit, .tracer, .notices, .onPlace] s u ∧
      (∃ a', Table.at? u.valves v = some a' ∧ a'.reported = pos ∧ a'.lastReport = s.clock.second ∧
        a'.unconfirmed = false ∧ a'.inoperable = a.inoperable) ∧
      (∀ w b, w ≠ v → Table.at? s.valves w = some b → ∃ b', Table.at? u.valves w = some b' ∧
        b'.reported = b.reported ∧ b'.lastReport = b.lastReport ∧ b'.unconfirmed = b.unconfirmed ∧
        b'.inoperable = b.inoperable) ∧
      (a.passesGas = (pos != .closed) → u.tracer = s.tracer) ∧
      (a.passesGas ≠ (pos != .closed) → triggers s u) ∧
      ((∀ p q, Table.at? s.plans p = some q → v ∉ q.active) → waitingValves s = [] →
        u.plans = s.plans ∧ u.incidents = s.incidents ∧
        (∀ n o, a.orderSerial = some n → Table.at? s.orders n = some o → o.action.target = pos →
          (o.state = .queued ∨ a.followUp = false) →
          u.orders = Table.del s.orders n ∧ u.orderUnit = s.orderUnit ∧
          ∃ a', Table.at? u.valves v = some a' ∧ a'.orderState = .none ∧ a'.orderSerial = none) ∧
        (∀ n o, a.orderSerial = some n → Table.at? s.orders n = some o → o.action.target = pos → o.state = .fetched →
          a.followUp = true → s.orders.length ≤ 256 →
          u.orderUnit = { s.orderUnit with nextSerial := u.orderUnit.nextSerial } ∧
          ∃ a', Table.at? u.valves v = some a' ∧ a'.followUp = false ∧
            (a.inoperable = false → pos ≠ a.wanted.reported →
              u.orders = Table.put (Table.del s.orders n) s.orderUnit.nextSerial
                { valve := v, action := a.wanted.action, channel := a.operation.channel, state := .queued,
                  queued := s.clock.second, fetched := none, expiry := none } ∧
              a'.orderState = .queued ∧ a'.orderSerial = some s.orderUnit.nextSerial) ∧
            (a.inoperable = true ∨ pos = a.wanted.reported → u.orders = Table.del s.orders n ∧
              u.orderUnit = s.orderUnit ∧ a'.orderState = .none ∧ a'.orderSerial = none)) ∧
        (a.orderSerial = none → a.orderState = .none → a.inoperable = false → a.atWanted = true →
          pos = a.wanted.other.reported → s.orders.length < 256 →
          u.orders = Table.put s.orders s.orderUnit.nextSerial
            { valve := v, action := a.wanted.action, channel := a.operation.channel, state := .queued,
              queued := s.clock.second, fetched := none, expiry := none } ∧
          u.orderUnit.unplanned = { set := true, valve := some v } ∧
          ∃ a', Table.at? u.valves v = some a' ∧ a'.orderState = .queued ∧
            a'.orderSerial = some s.orderUnit.nextSerial))

/-- R102, R134, R136, R164, R169: a change of a valve's reported position reaches every plan whose active list names
the valve, none of them RELEASING and none with a waiting draft. A plan in ISSUING becomes SECURED, with its test
started, once every valve it lists is reported CLOSED; one in SECURED, TIGHT or PASSING returns to ISSUING when the
valve leaves CLOSED, with its verdict NONE and its test cleared, and the incident it names becomes MAKING SAFE from
TIGHT and is regraded from PASSING. Every other plan and incident stays. -/
def Obligations.PlansFollowReports : Prop :=
  ∀ (c : Instr) (v : Nat) (pos : Reported) (s : State) (a : Valve), s.awake → s.tablesLegal → s.plansLegal →
    Table.at? s.valves v = some a → pos ≠ a.reported →
    ((∃ h code, c = .reportValve h v code ∧ s.listening ∧ wellFormed c = true ∧ s.model = .running ∧ v < 6144 ∧
        Reported.ofCode? code = some pos ∧ (h.desk = 0 ∨ a.inWindow s h.desk = true)) ∨
      (∃ i rest, c = .positionItem ∧ s.intake.queue = i :: rest ∧ i.sort = .position ∧ pointByTag s i.tag = none ∧
        valveByTag s i.tag = some v ∧ positionOfCode i.value = pos)) →
    (∀ p q, Table.at? s.plans p = some q → v ∈ q.active →
      q.activeState ≠ .releasing ∧ q.draftState ≠ .committed) →
    ∃ t u, exec c s = .next t ∧ (t = u ∨ ∃ tag r, t = acting tag r u ∧ r.result = .done) ∧
      (∀ p, Table.at? s.plans p = none → Table.at? u.plans p = none) ∧
      (∀ p q, Table.at? s.plans p = some q → ∃ q', Table.at? u.plans p = some q' ∧
        let others : Prop := ∀ w ∈ q.active, w ≠ v →
          ∃ b, Table.at? s.valves w = some b ∧ b.reported = .closed
        let held : Prop := q.activeState = .secured ∨ q.activeState = .tight ∨ q.activeState = .passing
        (v ∈ q.active → q.activeState = .issuing → pos = .closed → others →
          q' = { q with activeState := .secured, verdict := q'.verdict, test := q'.test } ∧
          testStarted s q.target q.window q'.test q'.verdict) ∧
        (v ∈ q.active → held → pos ≠ .closed →
          q' = { q with activeState := .issuing, verdict := .none, test := .none }) ∧
        (¬ (v ∈ q.active ∧ ((q.activeState = .issuing ∧ pos = .closed ∧ others) ∨ (held ∧ pos ≠ .closed))) →
          q' = q) ∧
        flagsIf .plan p (decide (q' ≠ q)) s u ∧ (q' ≠ q → raisesIf .plan true s u) ∧
        ∀ k i, v ∈ q.active → pos ≠ .closed → q.incident = some k → Table.at? s.incidents k = some i →
          i.plan = some p → (∀ m r, Table.at? s.plans m = some r → v ∈ r.active → r.incident = some k → m = p) →
          Table.at? u.incidents k = some (if q.activeState = .tight then { i with safety := .makingSafe }
            else if q.activeState = .passing then regraded u i else i)) ∧
      ∀ k, pos = .closed ∨ (∀ m r, Table.at? s.plans m = some r → v ∈ r.active → r.incident ≠ some k) →
        Table.at? u.incidents k = Table.at? s.incidents k

/-- R102, R119, R130 to R132, R136 to R138: a release that completes with a draft waiting. It is completed by a report,
from a desk or from telemetry, that settles the last valve of a RELEASING plan, or at once by RELEASE PLAN with no other
plan RELEASING. The plan becomes IDLE and, in the same event, the draft is transferred: it is the active list, its holds
are raised, the plan is SECURED with its test started where every listed valve is reported CLOSED and ISSUING otherwise,
both plan flags are as a transfer from IDLE leaves them, and the incident's safety leaves OPEN; it is regraded where
RELEASE PLAN took the plan from PASSING. A plan RELEASING beside it, with no draft waiting, that names a valve whose hold
went up becomes IDLE where all its valves are then settled; every other plan stays. -/
def Obligations.ReleaseEndsWithTheWaitingDraft : Prop :=
  ∀ (c : Instr) (h : Header) (p : Nat) (s : State) (q : Plan) (report : Option (Nat × Reported)), s.awake →
    s.tablesLegal → s.plansLegal → s.model = .running → wellFormed c = true → Table.at? s.plans p = some q →
    q.draftState = .committed → q.draft ≠ [] →
    (∀ m r, Table.at? s.plans m = some r → m ≠ p → r.activeState = .releasing → r.draftState ≠ .committed) →
    -- The reported position of a valve as the event leaves it, and that a valve is settled with it while so many
    -- plans hold it (R138).
    let now (w : Nat) (b : Valve) : Reported :=
      match report with
      | some (v, pos) => if w = v then pos else b.reported
      | none => b.reported
    let settles (w : Nat) (holds : Nat → Nat) : Prop := ∃ b, Table.at? s.valves w = some b ∧
      (0 < holds b.hold ∨ b.inoperable = true ∨ now w b = b.normal.reported)
    ((∃ v pos a, report = some (v, pos) ∧ Table.at? s.valves v = some a ∧ pos ≠ a.reported ∧ v ∈ q.active ∧
        q.activeState = .releasing ∧ (∀ w ∈ q.active, settles w id) ∧
        (∀ m r, Table.at? s.plans m = some r → m ≠ p → v ∉ r.active) ∧
        ((∃ code, c = .reportValve h v code ∧ s.listening ∧ v < 6144 ∧ Reported.ofCode? code = some pos ∧
            (h.desk = 0 ∨ a.inWindow s h.desk = true)) ∨
          ∃ i rest, c = .positionItem ∧ s.intake.queue = i :: rest ∧ i.sort = .position ∧
            pointByTag s i.tag = none ∧ valveByTag s i.tag = some v ∧ positionOfCode i.value = pos)) ∨
      (report = none ∧ c = .releasePlan h p ∧ s.listening ∧ p < 64 ∧ inWindow s h.desk q.target = true ∧
        (q.activeState = .issuing ∨ q.activeState = .secured ∨ q.activeState = .tight ∨ q.activeState = .passing) ∧
        (∀ w ∈ q.active, settles w (fun n => n - 1)) ∧
        ∀ m r, Table.at? s.plans m = some r → m ≠ p → r.activeState ≠ .releasing)) →
    ∃ t u q', exec c s = .next t ∧ (t = u ∨ ∃ r, t = acting h.tag r u ∧ r.result = .done) ∧
      Table.at? u.plans p = some q' ∧
      q' = { q with draftState := .empty, editor := none, draft := [], active := q.draft
                    activeState := if allClosed u q.draft then .secured else .issuing
                    verdict := q'.verdict, test := q'.test, orderFailed := false
                    needsRevision := q.draft.any (fun v => Table.test s.valves v (fun a => a.inoperable)) } ∧
      (q'.activeState = .issuing → q'.verdict = .none ∧ q'.test = .none) ∧
      (q'.activeState = .secured → testStarted s q.target q.window q'.test q'.verdict) ∧
      flagsIf .plan p true s u ∧ raisesIf .plan true s u ∧
      (∀ w b, Table.at? s.valves w = some b → ∃ b', Table.at? u.valves w = some b' ∧ b'.reported = now w b ∧
        b'.inoperable = b.inoperable ∧
        let low := if w ∈ q.active ∧ q.activeState ≠ .releasing then b.hold - 1 else b.hold
        b'.hold = if w ∈ q.draft then low + 1 else low) ∧
      (∀ k, Table.at? u.incidents k = (Table.at? s.incidents k).map (fun i =>
        if q.incident = some k then
          let i' := { i with safety := if i.safety = .opened then .makingSafe else i.safety }
          if q.activeState ≠ .releasing ∧ q.verdict = .passing then regraded u i' else i'
        else i)) ∧
      ∀ m r, Table.at? s.plans m = some r → m ≠ p → ∃ r', Table.at? u.plans m = some r' ∧
        (r.activeState = .releasing → (∃ w ∈ r.active, w ∈ q.draft) → (∀ w ∈ r.active, settled u w = true) →
          r' = { r with activeState := .idle, active := [], orderFailed := false, needsRevision := false } ∧
          flagsIf .plan m true s u) ∧
        (r.activeState ≠ .releasing ∨ (∀ w ∈ r.active, w ∉ q.draft) ∨ (∃ w ∈ r.active, settled u w = false) → r' = r)

/-- R153: an admitted FETCH ORDER takes the first order in fetch order that the desk may have: CLOSE before OPEN,
then the earliest queued second, then the lowest serial. It becomes FETCHED with the expiry of its channel; with
no such order nothing changes. No other order and no other valve changes. That the answer with no order gives the serial
0 and none of the other fields (log 14), and that the expiry second of the order taken has no presence byte (log 33), is
the model's choice. -/
def Obligations.FetchOrderTakesTheFirst : Prop :=
  ∀ (h : Header) (s : State), s.ready → s.ordersLegal → wellFormed (.fetchOrder h) = true → s.model = .running →
    let may (n : Nat) (o : Order) : Prop := Table.at? s.orders n = some o ∧ fetchable s h.desk o = true
    ((∀ n o, ¬ may n o) →
      exec (.fetchOrder h) s = .next (acting h.tag { result := .done, clamped := false, body := [.u16 0] } s)) ∧
    ∀ n o, may n o →
      (∀ n' o', may n' o' → o.action.code < o'.action.code ∨ (o.action = o'.action ∧
        (o.queued < o'.queued ∨ (o.queued = o'.queued ∧ n ≤ n')))) →
      let seconds := match o.channel with
        | .remote => s.orderUnit.remoteTime * 60
        | .crew => s.orderUnit.crewTime * 60
      let expiry := min 4294967295 (s.clock.second + seconds)
      ∃ rest u, exec (.fetchOrder h) s = .next (acting h.tag
          { result := .done
            clamped := false
            body := .u16 n :: .u16 o.valve :: .u8 o.action.code :: .u8 o.channel.code :: .u32 expiry :: rest } u) ∧
        changesOnly [.orders, .valves, .notices, .onPlace] s u ∧
        (∀ m, Table.at? u.orders m = if m = n then some
          { o with state := .fetched, fetched := some s.clock.second, expiry := some expiry }
          else Table.at? s.orders m) ∧
        (∀ v, Table.at? u.valves v = if v = o.valve then
          (Table.at? s.valves v).map (fun a => { a with orderState := .fetched }) else Table.at? s.valves v) ∧
        raisesExactly [.order] s u ∧ flagsExactly [(.valve, o.valve)] s u

/-- R139, R144, R146, R156, R157: WITHDRAW ORDER removes the order and leaves its valve STALLED, without a notice or a
flag; REISSUE VALVE queues the order that an operable valve away from its wanted position is owed, or settles a
STALLED one, and is refused while an order is held. A valve that leaves STALLED takes ORDER FAILED from every plan
whose list names it and no STALLED valve. With no valve waiting, no other order and no other valve changes. -/
def Obligations.WithdrawAndReissue : Prop :=
  ∀ (h : Header) (s : State), s.ready → s.model = .running → waitingValves s = [] →
    let clears (v : Nat) (u : State) : Prop := s.tablesLegal → ∀ p q, Table.at? s.plans p = some q →
      ∃ q', Table.at? u.plans p = some q' ∧
        q' = { q with orderFailed := q.orderFailed && !(q.active.contains v && q.active.all (fun w =>
          !Table.test u.valves w (fun b => b.orderState = .stalled))) } ∧
        (q' ≠ q → flagsIf .plan p true s u ∧ raisesIf .plan true s u)
    (∀ n o a, wellFormed (.withdrawOrder h n) = true → 1 ≤ n → Table.at? s.orders n = some o →
      Table.at? s.valves o.valve = some a → (h.desk = 0 ∨ a.inWindow s h.desk = true) → ∃ u,
      exec (.withdrawOrder h n) s =
        .next (acting h.tag { result := .done, clamped := false, body := [.u16 o.valve] } u) ∧
      changesOnly [.orders, .valves] s u ∧ u.orders = Table.del s.orders n ∧
      ∀ v, Table.at? u.valves v = if v = o.valve then some { a with
        orderState := .stalled, orderSerial := none, followUp := false, waitingSince := none }
        else Table.at? s.valves v) ∧
    (∀ v a, wellFormed (.reissueValve h v) = true → v < 6144 → Table.at? s.valves v = some a →
      (h.desk = 0 ∨ a.inWindow s h.desk = true) →
      (a.orderState = .queued ∨ a.orderState = .fetched ∨ a.orderState = .waiting →
        exec (.reissueValve h v) s =
          .next (acting h.tag { result := .wrongState, clamped := false, body := [] } s)) ∧
      (a.orderState = .none ∨ a.orderState = .stalled → a.inoperable = false → a.atWanted = false →
        s.orders.length < 256 → ∃ u,
        exec (.reissueValve h v) s = .next (acting h.tag
          { result := .done, clamped := false, body := [.u8 1, .u16 s.orderUnit.nextSerial] } u) ∧
        changesOnly [.orders, .orderUnit, .valves, .plans, .notices, .onPlace] s u ∧
        u.orders = Table.put s.orders s.orderUnit.nextSerial
          { valve := v, action := a.wanted.action, channel := a.operation.channel, state := .queued,
            queued := s.clock.second, fetched := none, expiry := none } ∧
        (∀ w, Table.at? u.valves w = if w = v then some { a with
          orderState := .queued, orderSerial := some s.orderUnit.nextSerial, waitingSince := none }
          else Table.at? s.valves w) ∧
        (a.orderState = .none → u.plans = s.plans) ∧ (a.orderState = .stalled → clears v u)) ∧
      (a.orderState = .none → a.inoperable = true ∨ a.atWanted = true → ∃ r,
        exec (.reissueValve h v) s = .next (acting h.tag r s) ∧ r.result = .done) ∧
      (a.orderState = .stalled → a.inoperable = true ∨ a.atWanted = true → ∃ r u,
        exec (.reissueValve h v) s = .next (acting h.tag r u) ∧ r.result = .done ∧
        changesOnly [.valves, .plans, .notices, .onPlace] s u ∧ clears v u ∧
        ∀ w, Table.at? u.valves w = if w = v then some { a with
          orderState := .none, orderSerial := none, followUp := false, waitingSince := none }
          else Table.at? s.valves w))

/-- R138 to R140, R158, R159: DECLARE INOPERABLE and RESTORE OPERABLE, with no valve waiting and no draft waiting in a
RELEASING plan that names the valve. The flag is written; a QUEUED order is withdrawn, a FETCHED one stands; a restored
valve away from its wanted position is given an order. NEEDS REVISION is set on the plans that name a valve declared; a
RELEASING one all of whose valves are settled with that becomes IDLE; and a valve restored out of STALLED takes ORDER
FAILED from the plans that name no STALLED valve. Of a valve whose flag already stands, nothing changes. -/
def Obligations.InoperableIsDeclaredAndRestored : Prop :=
  ∀ (h : Header) (v : Nat) (s : State) (a : Valve), s.ready → s.model = .running → v < 6144 →
    Table.at? s.valves v = some a → (h.desk = 0 ∨ a.inWindow s h.desk = true) →
    let same (c : Instr) : Prop := wellFormed c = true → ∃ r, exec c s = .next (acting h.tag r s) ∧ r.result = .done
    let becomes (c : Instr) (orders : Table Order) (a' : Valve) (revise unfail : Bool) : Prop :=
      wellFormed c = true → ∃ r u,
      exec c s = .next (acting h.tag r u) ∧ r.result = .done ∧
        changesOnly [.orders, .orderUnit, .valves, .plans, .notices, .onPlace] s u ∧ u.orders = orders ∧
        (∀ w, Table.at? u.valves w = if w = v then some a' else Table.at? s.valves w) ∧
        let after (q : Plan) : Plan :=
          if !q.active.contains v then q
          else if q.activeState = .releasing ∧ q.active.all (settled u) = true then
            { q with activeState := .idle, active := [], orderFailed := false, needsRevision := false }
          else
            let stalls := q.active.any (fun w => Table.test u.valves w (fun b => b.orderState = .stalled))
            { q with needsRevision := q.needsRevision || revise
                     orderFailed := q.orderFailed && (!unfail || stalls) }
        let moved (q : Plan) : Bool := decide (after q ≠ q)
        (∀ p, Table.at? u.plans p = (Table.at? s.plans p).map after) ∧
        raisesExactly (if s.plans.any (fun r => moved r.2) then [.order, .plan] else [.order]) s u ∧
        ∀ k n, flagsIf k n (decide (k = .valve ∧ n = v) ||
          (decide (k = .plan) && Table.test s.plans n moved)) s u
    (a.inoperable = true → same (.declareInoperable h v)) ∧
    (a.inoperable = false → same (.restoreOperable h v)) ∧
    (s.tablesLegal → waitingValves s = [] →
      (∀ p q, Table.at? s.plans p = some q → v ∈ q.active → q.activeState = .releasing → q.draftState ≠ .committed) →
      (a.inoperable = false →
        (∀ n, a.orderState = .queued → a.orderSerial = some n → becomes (.declareInoperable h v)
          (Table.del s.orders n) { a with
            inoperable := true, orderState := .none, orderSerial := none, followUp := false
            waitingSince := none } true false) ∧
        (a.orderState = .none ∨ a.orderState = .fetched ∨ a.orderState = .stalled →
          becomes (.declareInoperable h v) s.orders { a with inoperable := true } true false)) ∧
      (a.inoperable = true →
        (a.orderState = .fetched → becomes (.restoreOperable h v) s.orders
          { a with inoperable := false, followUp := true } false false) ∧
        (a.orderState = .none → a.atWanted = true → becomes (.restoreOperable h v) s.orders
          { a with inoperable := false } false false) ∧
        (a.orderState = .stalled → a.atWanted = true → becomes (.restoreOperable h v) s.orders
          { a with inoperable := false, orderState := .none, orderSerial := none, followUp := false
                   waitingSince := none } false true) ∧
        (a.orderState = .none ∨ a.orderState = .stalled → a.atWanted = false → s.orders.length < 256 →
          becomes (.restoreOperable h v)
            (Table.put s.orders s.orderUnit.nextSerial
              { valve := v, action := a.wanted.action, channel := a.operation.channel, state := .queued,
                queued := s.clock.second, fetched := none, expiry := none })
            { a with inoperable := false, orderState := .queued, orderSerial := some s.orderUnit.nextSerial
                     waitingSince := none } false (decide (a.orderState = .stalled)))))

/-- R139, R154: the Order Unit's work for the latest second event, with no valve waiting. Exactly the FETCHED orders
that have reached their expiry leave the list, their valves are STALLED, and every plan that lists one of them is
marked ORDER FAILED; the indication names the highest of those valves. Which work is owed (log 4), and that work not
owed changes nothing (log 3), is the model's. -/
def Obligations.FetchedOrdersTimeOut : Prop :=
  ∀ s : State, s.port.held = false → s.tablesLegal → s.ordersLegal → waitingValves s = [] →
    let out (n : Nat) (o : Order) : Prop := Table.at? s.orders n = some o ∧ o.state = .fetched ∧
      ∃ e, o.expiry = some e ∧ e ≤ s.clock.second
    let stalls (v : Nat) : Prop := ∃ n o, out n o ∧ o.valve = v
    (.timeout ∉ s.clock.due → exec .orderTimeout s = .next s) ∧
    (.timeout ∈ s.clock.due → ∃ u, exec .orderTimeout s = .next u ∧
      changesOnly [.orders, .valves, .plans, .orderUnit, .clock, .notices, .onPlace] s u ∧
      u.clock = { s.clock with due := s.clock.due.filter (fun x => x != .timeout) } ∧
      (∀ n o, out n o → Table.at? u.orders n = none) ∧
      (∀ n, (∀ o, ¬ out n o) → Table.at? u.orders n = Table.at? s.orders n) ∧
      (∀ v a, Table.at? s.valves v = some a →
        (stalls v → Table.at? u.valves v = some { a with
          orderState := .stalled, orderSerial := none, followUp := false, waitingSince := none }) ∧
        (¬ stalls v → Table.at? u.valves v = some a)) ∧
      (∀ p q, Table.at? s.plans p = some q → ∃ q', Table.at? u.plans p = some q' ∧
        q' = { q with orderFailed := q'.orderFailed } ∧
        (q'.orderFailed = true ↔ q.orderFailed = true ∨ (q.activeState ≠ .idle ∧ ∃ v ∈ q.active, stalls v))) ∧
      (∀ v, stalls v → (∀ w, stalls w → w ≤ v) →
        u.orderUnit.timeout = { set := true, valve := some v } ∧ raisesIf .order true s u) ∧
      ((∀ v, ¬ stalls v) → u.orderUnit = s.orderUnit))

/-- R146, R160: a place of the order list that one removed order leaves, by WITHDRAW ORDER, by DECLARE INOPERABLE, by the
report that completes it or by its timeout, with no active list naming the valve of a report or a declaration. The WAITING
valves are taken by the second since which they wait, then by number; those that are owed no order become NONE, and the
first that is owed one is given the place, with the next serial, which then moves to the next that no order holds. The
valves behind it stay WAITING. With a full list, the order that REISSUE VALVE queues makes its valve WAITING from now and
uses no serial. The timeout's due list is log 4. -/
def Obligations.WaitingValvesAreDrawn : Prop :=
  (∀ (c : Instr) (h : Header) (n : Nat) (s : State) (o : Order) (a : Valve), s.port.held = false → s.tablesLegal →
    s.ordersLegal → s.orderLaws → Table.at? s.orders n = some o → Table.at? s.valves o.valve = some a →
    let taken : Prop := s.ready ∧ s.model = .running ∧ wellFormed c = true ∧ o.valve < 6144 ∧
      (h.desk = 0 ∨ a.inWindow s h.desk = true)
    let unlisted : Prop := ∀ p q, Table.at? s.plans p = some q → o.valve ∉ q.active
    (c = .withdrawOrder h n ∧ taken) ∨
      (c = .declareInoperable h o.valve ∧ taken ∧ unlisted ∧ o.state = .queued) ∨
      (∃ code, c = .reportValve h o.valve code ∧ taken ∧ unlisted ∧
        Reported.ofCode? code = some o.action.target ∧ a.followUp = false) ∨
      (c = .orderTimeout ∧ .timeout ∈ s.clock.due ∧ o.state = .fetched ∧ (∃ e, o.expiry = some e ∧ e ≤ s.clock.second) ∧
        ∀ m x e, Table.at? s.orders m = some x → x.state = .fetched → x.expiry = some e → e ≤ s.clock.second → m = n) →
    ∃ t u, exec c s = .next t ∧ (t = u ∨ ∃ r, t = acting h.tag r u ∧ r.result = .done) ∧
      let since (w : Nat) : Nat := ((Table.at? s.valves w).bind (fun b => b.waitingSince)).getD 0
      let before (w x : Nat) : Prop := since w < since x ∨ (since w = since x ∧ w < x)
      let owed (w : Nat) : Prop := ∃ b, Table.at? s.valves w = some b ∧ b.orderState = .waiting ∧
        b.inoperable = false ∧ b.atWanted = false
      let leaves (b : Valve) : Valve :=
        { b with orderState := .none, orderSerial := none, followUp := false, waitingSince := none }
      (∀ x d, owed x → Table.at? s.valves x = some d → (∀ w, owed w → w = x ∨ before x w) →
        (∀ w b, w ≠ o.valve → Table.at? s.valves w = some b → ∃ b', Table.at? u.valves w = some b' ∧
          (w = x → b' = { leaves b with orderState := .queued, orderSerial := some s.orderUnit.nextSerial }) ∧
          (w ≠ x → b.orderState = .waiting → before w x → b' = leaves b) ∧
          (w ≠ x → b.orderState ≠ .waiting ∨ before x w → b' = b)) ∧
        (∀ m, Table.at? u.orders m = if m = s.orderUnit.nextSerial then some
            { valve := x, action := d.wanted.action, channel := d.operation.channel, state := .queued,
              queued := s.clock.second, fetched := none, expiry := none }
          else if m = n then none else Table.at? s.orders m) ∧
        Table.has u.orders u.orderUnit.nextSerial = false ∧
        ∃ k, u.orderUnit.nextSerial = (s.orderUnit.nextSerial + k) % 65535 + 1 ∧
          ∀ j, j < k → Table.has u.orders ((s.orderUnit.nextSerial + j) % 65535 + 1) = true) ∧
      ((∀ w, ¬ owed w) → u.orderUnit.nextSerial = s.orderUnit.nextSerial ∧
        (∀ w b, w ≠ o.valve → Table.at? s.valves w = some b →
          Table.at? u.valves w = some (if b.orderState = .waiting then leaves b else b)) ∧
        ∀ m, Table.at? u.orders m = if m = n then none else Table.at? s.orders m)) ∧
  ∀ (h : Header) (v : Nat) (s : State) (a : Valve), s.ready → s.model = .running → wellFormed (.reissueValve h v) = true →
    v < 6144 → Table.at? s.valves v = some a → (h.desk = 0 ∨ a.inWindow s h.desk = true) →
    a.orderState = .none ∨ a.orderState = .stalled → a.inoperable = false → a.atWanted = false →
    256 ≤ s.orders.length → ∃ u,
    exec (.reissueValve h v) s = .next (acting h.tag
      { result := .done, clamped := false, body := [.u8 4, .u16 0] } u) ∧
    changesOnly [.valves, .plans, .notices, .onPlace] s u ∧
    ∀ w, Table.at? u.valves w = if w = v then some { a with
      orderState := .waiting, orderSerial := none, waitingSince := some s.clock.second } else Table.at? s.valves w

/-! ## The Timebase (chapter 10) -/

/-- R172 to R175: the count and the day class. A second event adds 1 and wraps; SET CLOCK and SET DAY CLASS, from
desk 0, write them and are no second event. While RUNNING, a changed period code leaves every point with the
selection that R50 gives it; with the code unchanged, or while LOADING, nothing but the Timebase changes. The list
of the work that the blocks owe for a second event is the model's own (log 4). -/
def Obligations.CountAndDayClassMove : Prop :=
  ∀ s : State, s.awake → s.tablesLegal →
    let code (x : Clock) : Nat := x.dayClass * 32 + x.second % 86400 / 3600
    let moves (u : State) (x : Clock) : Prop := u.clock = x ∧
      changesOnly [.clock, .points, .notices, .onPlace] s u ∧
      (s.model = .loading ∨ code x = code s.clock → changesOnly [.clock] s u) ∧
      (s.model = .running → code x ≠ code s.clock → ∀ n p, Table.at? s.points n = some p →
        ∃ q, Table.at? u.points n = some q ∧ q.selected = selection u p.group ∧
          (q.selected = p.selected → q = p) ∧
          (q.selected ≠ p.selected → q = { p with
            selected := q.selected, candidate := none, count := 0
            condition := conditionAfter p.condition q.selected }))
    (∃ u, exec .secondEvent s = .next u ∧ moves u
      { s.clock with
        second := if s.clock.second % 4294967296 = 4294967295 then 0 else s.clock.second % 4294967296 + 1
        due := if s.model = .running then [.staleness, .overdue, .expiry, .timeout, .windowEnd] else [] }) ∧
    (∀ h n, s.listening → wellFormed (.setClock h n) = true → h.desk = 0 → ∃ u,
      exec (.setClock h n) s = .next (acting h.tag
        { result := .done
          clamped := false
          body := [.u32 s.clock.second, .u32 n, .u8 (code { s.clock with second := n })] } u) ∧
      moves u { s.clock with second := n }) ∧
    (∀ h d, s.listening → wellFormed (.setDayClass h d) = true → h.desk = 0 → d ≤ 7 → ∃ u,
      exec (.setDayClass h d) s = .next (acting h.tag
        { result := .done, clamped := false, body := [.u8 d, .u8 (code { s.clock with dayClass := d })] } u) ∧
      moves u { s.clock with dayClass := d })
end

