-- ==== Sys2Proof/Laws/State.lean ====
section
/-! SUPPORT. One lemma per field per update of the state, each true by rfl. -/

namespace Sys2Proof.Machine

variable (s : State)

section
variable (x : ModelState)
@[simp] theorem State.model_setModel : (s.setModel x).model = x := rfl
@[simp] theorem State.stopCount_setModel : (s.setModel x).stopCount = s.stopCount := rfl
@[simp] theorem State.segments_setModel : (s.setModel x).segments = s.segments := rfl
@[simp] theorem State.valves_setModel : (s.setModel x).valves = s.valves := rfl
@[simp] theorem State.points_setModel : (s.setModel x).points = s.points := rfl
@[simp] theorem State.profiles_setModel : (s.setModel x).profiles = s.profiles := rfl
@[simp] theorem State.concentrators_setModel : (s.setModel x).concentrators = s.concentrators := rfl
@[simp] theorem State.incidents_setModel : (s.setModel x).incidents = s.incidents := rfl
@[simp] theorem State.plans_setModel : (s.setModel x).plans = s.plans := rfl
@[simp] theorem State.outages_setModel : (s.setModel x).outages = s.outages := rfl
@[simp] theorem State.orders_setModel : (s.setModel x).orders = s.orders := rfl
@[simp] theorem State.windows_setModel : (s.setModel x).windows = s.windows := rfl
@[simp] theorem State.intake_setModel : (s.setModel x).intake = s.intake := rfl
@[simp] theorem State.tracer_setModel : (s.setModel x).tracer = s.tracer := rfl
@[simp] theorem State.register_setModel : (s.setModel x).register = s.register := rfl
@[simp] theorem State.dispatch_setModel : (s.setModel x).dispatch = s.dispatch := rfl
@[simp] theorem State.orderUnit_setModel : (s.setModel x).orderUnit = s.orderUnit := rfl
@[simp] theorem State.clock_setModel : (s.setModel x).clock = s.clock := rfl
@[simp] theorem State.notices_setModel : (s.setModel x).notices = s.notices := rfl
@[simp] theorem State.port_setModel : (s.setModel x).port = s.port := rfl
@[simp] theorem State.pending_setModel : (s.setModel x).pending = s.pending := rfl
@[simp] theorem State.now_setModel : (s.setModel x).now = s.now := rfl
@[simp] theorem State.running_setModel : (s.setModel x).running = decide (x = .running) := rfl
end

section
variable (x : Nat)
@[simp] theorem State.model_setStopCount : (s.setStopCount x).model = s.model := rfl
@[simp] theorem State.stopCount_setStopCount : (s.setStopCount x).stopCount = x := rfl
@[simp] theorem State.segments_setStopCount : (s.setStopCount x).segments = s.segments := rfl
@[simp] theorem State.valves_setStopCount : (s.setStopCount x).valves = s.valves := rfl
@[simp] theorem State.points_setStopCount : (s.setStopCount x).points = s.points := rfl
@[simp] theorem State.profiles_setStopCount : (s.setStopCount x).profiles = s.profiles := rfl
@[simp] theorem State.concentrators_setStopCount : (s.setStopCount x).concentrators = s.concentrators := rfl
@[simp] theorem State.incidents_setStopCount : (s.setStopCount x).incidents = s.incidents := rfl
@[simp] theorem State.plans_setStopCount : (s.setStopCount x).plans = s.plans := rfl
@[simp] theorem State.outages_setStopCount : (s.setStopCount x).outages = s.outages := rfl
@[simp] theorem State.orders_setStopCount : (s.setStopCount x).orders = s.orders := rfl
@[simp] theorem State.windows_setStopCount : (s.setStopCount x).windows = s.windows := rfl
@[simp] theorem State.intake_setStopCount : (s.setStopCount x).intake = s.intake := rfl
@[simp] theorem State.tracer_setStopCount : (s.setStopCount x).tracer = s.tracer := rfl
@[simp] theorem State.register_setStopCount : (s.setStopCount x).register = s.register := rfl
@[simp] theorem State.dispatch_setStopCount : (s.setStopCount x).dispatch = s.dispatch := rfl
@[simp] theorem State.orderUnit_setStopCount : (s.setStopCount x).orderUnit = s.orderUnit := rfl
@[simp] theorem State.clock_setStopCount : (s.setStopCount x).clock = s.clock := rfl
@[simp] theorem State.notices_setStopCount : (s.setStopCount x).notices = s.notices := rfl
@[simp] theorem State.port_setStopCount : (s.setStopCount x).port = s.port := rfl
@[simp] theorem State.pending_setStopCount : (s.setStopCount x).pending = s.pending := rfl
@[simp] theorem State.now_setStopCount : (s.setStopCount x).now = s.now := rfl
@[simp] theorem State.running_setStopCount : (s.setStopCount x).running = s.running := rfl
end

section
variable (x : Table Segment)
@[simp] theorem State.model_setSegments : (s.setSegments x).model = s.model := rfl
@[simp] theorem State.stopCount_setSegments : (s.setSegments x).stopCount = s.stopCount := rfl
@[simp] theorem State.segments_setSegments : (s.setSegments x).segments = x := rfl
@[simp] theorem State.valves_setSegments : (s.setSegments x).valves = s.valves := rfl
@[simp] theorem State.points_setSegments : (s.setSegments x).points = s.points := rfl
@[simp] theorem State.profiles_setSegments : (s.setSegments x).profiles = s.profiles := rfl
@[simp] theorem State.concentrators_setSegments : (s.setSegments x).concentrators = s.concentrators := rfl
@[simp] theorem State.incidents_setSegments : (s.setSegments x).incidents = s.incidents := rfl
@[simp] theorem State.plans_setSegments : (s.setSegments x).plans = s.plans := rfl
@[simp] theorem State.outages_setSegments : (s.setSegments x).outages = s.outages := rfl
@[simp] theorem State.orders_setSegments : (s.setSegments x).orders = s.orders := rfl
@[simp] theorem State.windows_setSegments : (s.setSegments x).windows = s.windows := rfl
@[simp] theorem State.intake_setSegments : (s.setSegments x).intake = s.intake := rfl
@[simp] theorem State.tracer_setSegments : (s.setSegments x).tracer = s.tracer := rfl
@[simp] theorem State.register_setSegments : (s.setSegments x).register = s.register := rfl
@[simp] theorem State.dispatch_setSegments : (s.setSegments x).dispatch = s.dispatch := rfl
@[simp] theorem State.orderUnit_setSegments : (s.setSegments x).orderUnit = s.orderUnit := rfl
@[simp] theorem State.clock_setSegments : (s.setSegments x).clock = s.clock := rfl
@[simp] theorem State.notices_setSegments : (s.setSegments x).notices = s.notices := rfl
@[simp] theorem State.port_setSegments : (s.setSegments x).port = s.port := rfl
@[simp] theorem State.pending_setSegments : (s.setSegments x).pending = s.pending := rfl
@[simp] theorem State.now_setSegments : (s.setSegments x).now = s.now := rfl
@[simp] theorem State.running_setSegments : (s.setSegments x).running = s.running := rfl
end

section
variable (x : Table Valve)
@[simp] theorem State.model_setValves : (s.setValves x).model = s.model := rfl
@[simp] theorem State.stopCount_setValves : (s.setValves x).stopCount = s.stopCount := rfl
@[simp] theorem State.segments_setValves : (s.setValves x).segments = s.segments := rfl
@[simp] theorem State.valves_setValves : (s.setValves x).valves = x := rfl
@[simp] theorem State.points_setValves : (s.setValves x).points = s.points := rfl
@[simp] theorem State.profiles_setValves : (s.setValves x).profiles = s.profiles := rfl
@[simp] theorem State.concentrators_setValves : (s.setValves x).concentrators = s.concentrators := rfl
@[simp] theorem State.incidents_setValves : (s.setValves x).incidents = s.incidents := rfl
@[simp] theorem State.plans_setValves : (s.setValves x).plans = s.plans := rfl
@[simp] theorem State.outages_setValves : (s.setValves x).outages = s.outages := rfl
@[simp] theorem State.orders_setValves : (s.setValves x).orders = s.orders := rfl
@[simp] theorem State.windows_setValves : (s.setValves x).windows = s.windows := rfl
@[simp] theorem State.intake_setValves : (s.setValves x).intake = s.intake := rfl
@[simp] theorem State.tracer_setValves : (s.setValves x).tracer = s.tracer := rfl
@[simp] theorem State.register_setValves : (s.setValves x).register = s.register := rfl
@[simp] theorem State.dispatch_setValves : (s.setValves x).dispatch = s.dispatch := rfl
@[simp] theorem State.orderUnit_setValves : (s.setValves x).orderUnit = s.orderUnit := rfl
@[simp] theorem State.clock_setValves : (s.setValves x).clock = s.clock := rfl
@[simp] theorem State.notices_setValves : (s.setValves x).notices = s.notices := rfl
@[simp] theorem State.port_setValves : (s.setValves x).port = s.port := rfl
@[simp] theorem State.pending_setValves : (s.setValves x).pending = s.pending := rfl
@[simp] theorem State.now_setValves : (s.setValves x).now = s.now := rfl
@[simp] theorem State.running_setValves : (s.setValves x).running = s.running := rfl
end

section
variable (x : Table Point)
@[simp] theorem State.model_setPoints : (s.setPoints x).model = s.model := rfl
@[simp] theorem State.stopCount_setPoints : (s.setPoints x).stopCount = s.stopCount := rfl
@[simp] theorem State.segments_setPoints : (s.setPoints x).segments = s.segments := rfl
@[simp] theorem State.valves_setPoints : (s.setPoints x).valves = s.valves := rfl
@[simp] theorem State.points_setPoints : (s.setPoints x).points = x := rfl
@[simp] theorem State.profiles_setPoints : (s.setPoints x).profiles = s.profiles := rfl
@[simp] theorem State.concentrators_setPoints : (s.setPoints x).concentrators = s.concentrators := rfl
@[simp] theorem State.incidents_setPoints : (s.setPoints x).incidents = s.incidents := rfl
@[simp] theorem State.plans_setPoints : (s.setPoints x).plans = s.plans := rfl
@[simp] theorem State.outages_setPoints : (s.setPoints x).outages = s.outages := rfl
@[simp] theorem State.orders_setPoints : (s.setPoints x).orders = s.orders := rfl
@[simp] theorem State.windows_setPoints : (s.setPoints x).windows = s.windows := rfl
@[simp] theorem State.intake_setPoints : (s.setPoints x).intake = s.intake := rfl
@[simp] theorem State.tracer_setPoints : (s.setPoints x).tracer = s.tracer := rfl
@[simp] theorem State.register_setPoints : (s.setPoints x).register = s.register := rfl
@[simp] theorem State.dispatch_setPoints : (s.setPoints x).dispatch = s.dispatch := rfl
@[simp] theorem State.orderUnit_setPoints : (s.setPoints x).orderUnit = s.orderUnit := rfl
@[simp] theorem State.clock_setPoints : (s.setPoints x).clock = s.clock := rfl
@[simp] theorem State.notices_setPoints : (s.setPoints x).notices = s.notices := rfl
@[simp] theorem State.port_setPoints : (s.setPoints x).port = s.port := rfl
@[simp] theorem State.pending_setPoints : (s.setPoints x).pending = s.pending := rfl
@[simp] theorem State.now_setPoints : (s.setPoints x).now = s.now := rfl
@[simp] theorem State.running_setPoints : (s.setPoints x).running = s.running := rfl
end

section
variable (x : Table Profile)
@[simp] theorem State.model_setProfiles : (s.setProfiles x).model = s.model := rfl
@[simp] theorem State.stopCount_setProfiles : (s.setProfiles x).stopCount = s.stopCount := rfl
@[simp] theorem State.segments_setProfiles : (s.setProfiles x).segments = s.segments := rfl
@[simp] theorem State.valves_setProfiles : (s.setProfiles x).valves = s.valves := rfl
@[simp] theorem State.points_setProfiles : (s.setProfiles x).points = s.points := rfl
@[simp] theorem State.profiles_setProfiles : (s.setProfiles x).profiles = x := rfl
@[simp] theorem State.concentrators_setProfiles : (s.setProfiles x).concentrators = s.concentrators := rfl
@[simp] theorem State.incidents_setProfiles : (s.setProfiles x).incidents = s.incidents := rfl
@[simp] theorem State.plans_setProfiles : (s.setProfiles x).plans = s.plans := rfl
@[simp] theorem State.outages_setProfiles : (s.setProfiles x).outages = s.outages := rfl
@[simp] theorem State.orders_setProfiles : (s.setProfiles x).orders = s.orders := rfl
@[simp] theorem State.windows_setProfiles : (s.setProfiles x).windows = s.windows := rfl
@[simp] theorem State.intake_setProfiles : (s.setProfiles x).intake = s.intake := rfl
@[simp] theorem State.tracer_setProfiles : (s.setProfiles x).tracer = s.tracer := rfl
@[simp] theorem State.register_setProfiles : (s.setProfiles x).register = s.register := rfl
@[simp] theorem State.dispatch_setProfiles : (s.setProfiles x).dispatch = s.dispatch := rfl
@[simp] theorem State.orderUnit_setProfiles : (s.setProfiles x).orderUnit = s.orderUnit := rfl
@[simp] theorem State.clock_setProfiles : (s.setProfiles x).clock = s.clock := rfl
@[simp] theorem State.notices_setProfiles : (s.setProfiles x).notices = s.notices := rfl
@[simp] theorem State.port_setProfiles : (s.setProfiles x).port = s.port := rfl
@[simp] theorem State.pending_setProfiles : (s.setProfiles x).pending = s.pending := rfl
@[simp] theorem State.now_setProfiles : (s.setProfiles x).now = s.now := rfl
@[simp] theorem State.running_setProfiles : (s.setProfiles x).running = s.running := rfl
end

section
variable (x : Table Concentrator)
@[simp] theorem State.model_setConcentrators : (s.setConcentrators x).model = s.model := rfl
@[simp] theorem State.stopCount_setConcentrators : (s.setConcentrators x).stopCount = s.stopCount := rfl
@[simp] theorem State.segments_setConcentrators : (s.setConcentrators x).segments = s.segments := rfl
@[simp] theorem State.valves_setConcentrators : (s.setConcentrators x).valves = s.valves := rfl
@[simp] theorem State.points_setConcentrators : (s.setConcentrators x).points = s.points := rfl
@[simp] theorem State.profiles_setConcentrators : (s.setConcentrators x).profiles = s.profiles := rfl
@[simp] theorem State.concentrators_setConcentrators : (s.setConcentrators x).concentrators = x := rfl
@[simp] theorem State.incidents_setConcentrators : (s.setConcentrators x).incidents = s.incidents := rfl
@[simp] theorem State.plans_setConcentrators : (s.setConcentrators x).plans = s.plans := rfl
@[simp] theorem State.outages_setConcentrators : (s.setConcentrators x).outages = s.outages := rfl
@[simp] theorem State.orders_setConcentrators : (s.setConcentrators x).orders = s.orders := rfl
@[simp] theorem State.windows_setConcentrators : (s.setConcentrators x).windows = s.windows := rfl
@[simp] theorem State.intake_setConcentrators : (s.setConcentrators x).intake = s.intake := rfl
@[simp] theorem State.tracer_setConcentrators : (s.setConcentrators x).tracer = s.tracer := rfl
@[simp] theorem State.register_setConcentrators : (s.setConcentrators x).register = s.register := rfl
@[simp] theorem State.dispatch_setConcentrators : (s.setConcentrators x).dispatch = s.dispatch := rfl
@[simp] theorem State.orderUnit_setConcentrators : (s.setConcentrators x).orderUnit = s.orderUnit := rfl
@[simp] theorem State.clock_setConcentrators : (s.setConcentrators x).clock = s.clock := rfl
@[simp] theorem State.notices_setConcentrators : (s.setConcentrators x).notices = s.notices := rfl
@[simp] theorem State.port_setConcentrators : (s.setConcentrators x).port = s.port := rfl
@[simp] theorem State.pending_setConcentrators : (s.setConcentrators x).pending = s.pending := rfl
@[simp] theorem State.now_setConcentrators : (s.setConcentrators x).now = s.now := rfl
@[simp] theorem State.running_setConcentrators : (s.setConcentrators x).running = s.running := rfl
end

section
variable (x : Table Incident)
@[simp] theorem State.model_setIncidents : (s.setIncidents x).model = s.model := rfl
@[simp] theorem State.stopCount_setIncidents : (s.setIncidents x).stopCount = s.stopCount := rfl
@[simp] theorem State.segments_setIncidents : (s.setIncidents x).segments = s.segments := rfl
@[simp] theorem State.valves_setIncidents : (s.setIncidents x).valves = s.valves := rfl
@[simp] theorem State.points_setIncidents : (s.setIncidents x).points = s.points := rfl
@[simp] theorem State.profiles_setIncidents : (s.setIncidents x).profiles = s.profiles := rfl
@[simp] theorem State.concentrators_setIncidents : (s.setIncidents x).concentrators = s.concentrators := rfl
@[simp] theorem State.incidents_setIncidents : (s.setIncidents x).incidents = x := rfl
@[simp] theorem State.plans_setIncidents : (s.setIncidents x).plans = s.plans := rfl
@[simp] theorem State.outages_setIncidents : (s.setIncidents x).outages = s.outages := rfl
@[simp] theorem State.orders_setIncidents : (s.setIncidents x).orders = s.orders := rfl
@[simp] theorem State.windows_setIncidents : (s.setIncidents x).windows = s.windows := rfl
@[simp] theorem State.intake_setIncidents : (s.setIncidents x).intake = s.intake := rfl
@[simp] theorem State.tracer_setIncidents : (s.setIncidents x).tracer = s.tracer := rfl
@[simp] theorem State.register_setIncidents : (s.setIncidents x).register = s.register := rfl
@[simp] theorem State.dispatch_setIncidents : (s.setIncidents x).dispatch = s.dispatch := rfl
@[simp] theorem State.orderUnit_setIncidents : (s.setIncidents x).orderUnit = s.orderUnit := rfl
@[simp] theorem State.clock_setIncidents : (s.setIncidents x).clock = s.clock := rfl
@[simp] theorem State.notices_setIncidents : (s.setIncidents x).notices = s.notices := rfl
@[simp] theorem State.port_setIncidents : (s.setIncidents x).port = s.port := rfl
@[simp] theorem State.pending_setIncidents : (s.setIncidents x).pending = s.pending := rfl
@[simp] theorem State.now_setIncidents : (s.setIncidents x).now = s.now := rfl
@[simp] theorem State.running_setIncidents : (s.setIncidents x).running = s.running := rfl
end

section
variable (x : Table Plan)
@[simp] theorem State.model_setPlans : (s.setPlans x).model = s.model := rfl
@[simp] theorem State.stopCount_setPlans : (s.setPlans x).stopCount = s.stopCount := rfl
@[simp] theorem State.segments_setPlans : (s.setPlans x).segments = s.segments := rfl
@[simp] theorem State.valves_setPlans : (s.setPlans x).valves = s.valves := rfl
@[simp] theorem State.points_setPlans : (s.setPlans x).points = s.points := rfl
@[simp] theorem State.profiles_setPlans : (s.setPlans x).profiles = s.profiles := rfl
@[simp] theorem State.concentrators_setPlans : (s.setPlans x).concentrators = s.concentrators := rfl
@[simp] theorem State.incidents_setPlans : (s.setPlans x).incidents = s.incidents := rfl
@[simp] theorem State.plans_setPlans : (s.setPlans x).plans = x := rfl
@[simp] theorem State.outages_setPlans : (s.setPlans x).outages = s.outages := rfl
@[simp] theorem State.orders_setPlans : (s.setPlans x).orders = s.orders := rfl
@[simp] theorem State.windows_setPlans : (s.setPlans x).windows = s.windows := rfl
@[simp] theorem State.intake_setPlans : (s.setPlans x).intake = s.intake := rfl
@[simp] theorem State.tracer_setPlans : (s.setPlans x).tracer = s.tracer := rfl
@[simp] theorem State.register_setPlans : (s.setPlans x).register = s.register := rfl
@[simp] theorem State.dispatch_setPlans : (s.setPlans x).dispatch = s.dispatch := rfl
@[simp] theorem State.orderUnit_setPlans : (s.setPlans x).orderUnit = s.orderUnit := rfl
@[simp] theorem State.clock_setPlans : (s.setPlans x).clock = s.clock := rfl
@[simp] theorem State.notices_setPlans : (s.setPlans x).notices = s.notices := rfl
@[simp] theorem State.port_setPlans : (s.setPlans x).port = s.port := rfl
@[simp] theorem State.pending_setPlans : (s.setPlans x).pending = s.pending := rfl
@[simp] theorem State.now_setPlans : (s.setPlans x).now = s.now := rfl
@[simp] theorem State.running_setPlans : (s.setPlans x).running = s.running := rfl
end

section
variable (x : Table Outage)
@[simp] theorem State.model_setOutages : (s.setOutages x).model = s.model := rfl
@[simp] theorem State.stopCount_setOutages : (s.setOutages x).stopCount = s.stopCount := rfl
@[simp] theorem State.segments_setOutages : (s.setOutages x).segments = s.segments := rfl
@[simp] theorem State.valves_setOutages : (s.setOutages x).valves = s.valves := rfl
@[simp] theorem State.points_setOutages : (s.setOutages x).points = s.points := rfl
@[simp] theorem State.profiles_setOutages : (s.setOutages x).profiles = s.profiles := rfl
@[simp] theorem State.concentrators_setOutages : (s.setOutages x).concentrators = s.concentrators := rfl
@[simp] theorem State.incidents_setOutages : (s.setOutages x).incidents = s.incidents := rfl
@[simp] theorem State.plans_setOutages : (s.setOutages x).plans = s.plans := rfl
@[simp] theorem State.outages_setOutages : (s.setOutages x).outages = x := rfl
@[simp] theorem State.orders_setOutages : (s.setOutages x).orders = s.orders := rfl
@[simp] theorem State.windows_setOutages : (s.setOutages x).windows = s.windows := rfl
@[simp] theorem State.intake_setOutages : (s.setOutages x).intake = s.intake := rfl
@[simp] theorem State.tracer_setOutages : (s.setOutages x).tracer = s.tracer := rfl
@[simp] theorem State.register_setOutages : (s.setOutages x).register = s.register := rfl
@[simp] theorem State.dispatch_setOutages : (s.setOutages x).dispatch = s.dispatch := rfl
@[simp] theorem State.orderUnit_setOutages : (s.setOutages x).orderUnit = s.orderUnit := rfl
@[simp] theorem State.clock_setOutages : (s.setOutages x).clock = s.clock := rfl
@[simp] theorem State.notices_setOutages : (s.setOutages x).notices = s.notices := rfl
@[simp] theorem State.port_setOutages : (s.setOutages x).port = s.port := rfl
@[simp] theorem State.pending_setOutages : (s.setOutages x).pending = s.pending := rfl
@[simp] theorem State.now_setOutages : (s.setOutages x).now = s.now := rfl
@[simp] theorem State.running_setOutages : (s.setOutages x).running = s.running := rfl
end

section
variable (x : Table Order)
@[simp] theorem State.model_setOrders : (s.setOrders x).model = s.model := rfl
@[simp] theorem State.stopCount_setOrders : (s.setOrders x).stopCount = s.stopCount := rfl
@[simp] theorem State.segments_setOrders : (s.setOrders x).segments = s.segments := rfl
@[simp] theorem State.valves_setOrders : (s.setOrders x).valves = s.valves := rfl
@[simp] theorem State.points_setOrders : (s.setOrders x).points = s.points := rfl
@[simp] theorem State.profiles_setOrders : (s.setOrders x).profiles = s.profiles := rfl
@[simp] theorem State.concentrators_setOrders : (s.setOrders x).concentrators = s.concentrators := rfl
@[simp] theorem State.incidents_setOrders : (s.setOrders x).incidents = s.incidents := rfl
@[simp] theorem State.plans_setOrders : (s.setOrders x).plans = s.plans := rfl
@[simp] theorem State.outages_setOrders : (s.setOrders x).outages = s.outages := rfl
@[simp] theorem State.orders_setOrders : (s.setOrders x).orders = x := rfl
@[simp] theorem State.windows_setOrders : (s.setOrders x).windows = s.windows := rfl
@[simp] theorem State.intake_setOrders : (s.setOrders x).intake = s.intake := rfl
@[simp] theorem State.tracer_setOrders : (s.setOrders x).tracer = s.tracer := rfl
@[simp] theorem State.register_setOrders : (s.setOrders x).register = s.register := rfl
@[simp] theorem State.dispatch_setOrders : (s.setOrders x).dispatch = s.dispatch := rfl
@[simp] theorem State.orderUnit_setOrders : (s.setOrders x).orderUnit = s.orderUnit := rfl
@[simp] theorem State.clock_setOrders : (s.setOrders x).clock = s.clock := rfl
@[simp] theorem State.notices_setOrders : (s.setOrders x).notices = s.notices := rfl
@[simp] theorem State.port_setOrders : (s.setOrders x).port = s.port := rfl
@[simp] theorem State.pending_setOrders : (s.setOrders x).pending = s.pending := rfl
@[simp] theorem State.now_setOrders : (s.setOrders x).now = s.now := rfl
@[simp] theorem State.running_setOrders : (s.setOrders x).running = s.running := rfl
end

section
variable (x : Table Window)
@[simp] theorem State.model_setWindows : (s.setWindows x).model = s.model := rfl
@[simp] theorem State.stopCount_setWindows : (s.setWindows x).stopCount = s.stopCount := rfl
@[simp] theorem State.segments_setWindows : (s.setWindows x).segments = s.segments := rfl
@[simp] theorem State.valves_setWindows : (s.setWindows x).valves = s.valves := rfl
@[simp] theorem State.points_setWindows : (s.setWindows x).points = s.points := rfl
@[simp] theorem State.profiles_setWindows : (s.setWindows x).profiles = s.profiles := rfl
@[simp] theorem State.concentrators_setWindows : (s.setWindows x).concentrators = s.concentrators := rfl
@[simp] theorem State.incidents_setWindows : (s.setWindows x).incidents = s.incidents := rfl
@[simp] theorem State.plans_setWindows : (s.setWindows x).plans = s.plans := rfl
@[simp] theorem State.outages_setWindows : (s.setWindows x).outages = s.outages := rfl
@[simp] theorem State.orders_setWindows : (s.setWindows x).orders = s.orders := rfl
@[simp] theorem State.windows_setWindows : (s.setWindows x).windows = x := rfl
@[simp] theorem State.intake_setWindows : (s.setWindows x).intake = s.intake := rfl
@[simp] theorem State.tracer_setWindows : (s.setWindows x).tracer = s.tracer := rfl
@[simp] theorem State.register_setWindows : (s.setWindows x).register = s.register := rfl
@[simp] theorem State.dispatch_setWindows : (s.setWindows x).dispatch = s.dispatch := rfl
@[simp] theorem State.orderUnit_setWindows : (s.setWindows x).orderUnit = s.orderUnit := rfl
@[simp] theorem State.clock_setWindows : (s.setWindows x).clock = s.clock := rfl
@[simp] theorem State.notices_setWindows : (s.setWindows x).notices = s.notices := rfl
@[simp] theorem State.port_setWindows : (s.setWindows x).port = s.port := rfl
@[simp] theorem State.pending_setWindows : (s.setWindows x).pending = s.pending := rfl
@[simp] theorem State.now_setWindows : (s.setWindows x).now = s.now := rfl
@[simp] theorem State.running_setWindows : (s.setWindows x).running = s.running := rfl
end

section
variable (x : Intake)
@[simp] theorem State.model_setIntake : (s.setIntake x).model = s.model := rfl
@[simp] theorem State.stopCount_setIntake : (s.setIntake x).stopCount = s.stopCount := rfl
@[simp] theorem State.segments_setIntake : (s.setIntake x).segments = s.segments := rfl
@[simp] theorem State.valves_setIntake : (s.setIntake x).valves = s.valves := rfl
@[simp] theorem State.points_setIntake : (s.setIntake x).points = s.points := rfl
@[simp] theorem State.profiles_setIntake : (s.setIntake x).profiles = s.profiles := rfl
@[simp] theorem State.concentrators_setIntake : (s.setIntake x).concentrators = s.concentrators := rfl
@[simp] theorem State.incidents_setIntake : (s.setIntake x).incidents = s.incidents := rfl
@[simp] theorem State.plans_setIntake : (s.setIntake x).plans = s.plans := rfl
@[simp] theorem State.outages_setIntake : (s.setIntake x).outages = s.outages := rfl
@[simp] theorem State.orders_setIntake : (s.setIntake x).orders = s.orders := rfl
@[simp] theorem State.windows_setIntake : (s.setIntake x).windows = s.windows := rfl
@[simp] theorem State.intake_setIntake : (s.setIntake x).intake = x := rfl
@[simp] theorem State.tracer_setIntake : (s.setIntake x).tracer = s.tracer := rfl
@[simp] theorem State.register_setIntake : (s.setIntake x).register = s.register := rfl
@[simp] theorem State.dispatch_setIntake : (s.setIntake x).dispatch = s.dispatch := rfl
@[simp] theorem State.orderUnit_setIntake : (s.setIntake x).orderUnit = s.orderUnit := rfl
@[simp] theorem State.clock_setIntake : (s.setIntake x).clock = s.clock := rfl
@[simp] theorem State.notices_setIntake : (s.setIntake x).notices = s.notices := rfl
@[simp] theorem State.port_setIntake : (s.setIntake x).port = s.port := rfl
@[simp] theorem State.pending_setIntake : (s.setIntake x).pending = s.pending := rfl
@[simp] theorem State.now_setIntake : (s.setIntake x).now = s.now := rfl
@[simp] theorem State.running_setIntake : (s.setIntake x).running = s.running := rfl
end

section
variable (x : Tracer)
@[simp] theorem State.model_setTracer : (s.setTracer x).model = s.model := rfl
@[simp] theorem State.stopCount_setTracer : (s.setTracer x).stopCount = s.stopCount := rfl
@[simp] theorem State.segments_setTracer : (s.setTracer x).segments = s.segments := rfl
@[simp] theorem State.valves_setTracer : (s.setTracer x).valves = s.valves := rfl
@[simp] theorem State.points_setTracer : (s.setTracer x).points = s.points := rfl
@[simp] theorem State.profiles_setTracer : (s.setTracer x).profiles = s.profiles := rfl
@[simp] theorem State.concentrators_setTracer : (s.setTracer x).concentrators = s.concentrators := rfl
@[simp] theorem State.incidents_setTracer : (s.setTracer x).incidents = s.incidents := rfl
@[simp] theorem State.plans_setTracer : (s.setTracer x).plans = s.plans := rfl
@[simp] theorem State.outages_setTracer : (s.setTracer x).outages = s.outages := rfl
@[simp] theorem State.orders_setTracer : (s.setTracer x).orders = s.orders := rfl
@[simp] theorem State.windows_setTracer : (s.setTracer x).windows = s.windows := rfl
@[simp] theorem State.intake_setTracer : (s.setTracer x).intake = s.intake := rfl
@[simp] theorem State.tracer_setTracer : (s.setTracer x).tracer = x := rfl
@[simp] theorem State.register_setTracer : (s.setTracer x).register = s.register := rfl
@[simp] theorem State.dispatch_setTracer : (s.setTracer x).dispatch = s.dispatch := rfl
@[simp] theorem State.orderUnit_setTracer : (s.setTracer x).orderUnit = s.orderUnit := rfl
@[simp] theorem State.clock_setTracer : (s.setTracer x).clock = s.clock := rfl
@[simp] theorem State.notices_setTracer : (s.setTracer x).notices = s.notices := rfl
@[simp] theorem State.port_setTracer : (s.setTracer x).port = s.port := rfl
@[simp] theorem State.pending_setTracer : (s.setTracer x).pending = s.pending := rfl
@[simp] theorem State.now_setTracer : (s.setTracer x).now = s.now := rfl
@[simp] theorem State.running_setTracer : (s.setTracer x).running = s.running := rfl
end

section
variable (x : Register)
@[simp] theorem State.model_setRegister : (s.setRegister x).model = s.model := rfl
@[simp] theorem State.stopCount_setRegister : (s.setRegister x).stopCount = s.stopCount := rfl
@[simp] theorem State.segments_setRegister : (s.setRegister x).segments = s.segments := rfl
@[simp] theorem State.valves_setRegister : (s.setRegister x).valves = s.valves := rfl
@[simp] theorem State.points_setRegister : (s.setRegister x).points = s.points := rfl
@[simp] theorem State.profiles_setRegister : (s.setRegister x).profiles = s.profiles := rfl
@[simp] theorem State.concentrators_setRegister : (s.setRegister x).concentrators = s.concentrators := rfl
@[simp] theorem State.incidents_setRegister : (s.setRegister x).incidents = s.incidents := rfl
@[simp] theorem State.plans_setRegister : (s.setRegister x).plans = s.plans := rfl
@[simp] theorem State.outages_setRegister : (s.setRegister x).outages = s.outages := rfl
@[simp] theorem State.orders_setRegister : (s.setRegister x).orders = s.orders := rfl
@[simp] theorem State.windows_setRegister : (s.setRegister x).windows = s.windows := rfl
@[simp] theorem State.intake_setRegister : (s.setRegister x).intake = s.intake := rfl
@[simp] theorem State.tracer_setRegister : (s.setRegister x).tracer = s.tracer := rfl
@[simp] theorem State.register_setRegister : (s.setRegister x).register = x := rfl
@[simp] theorem State.dispatch_setRegister : (s.setRegister x).dispatch = s.dispatch := rfl
@[simp] theorem State.orderUnit_setRegister : (s.setRegister x).orderUnit = s.orderUnit := rfl
@[simp] theorem State.clock_setRegister : (s.setRegister x).clock = s.clock := rfl
@[simp] theorem State.notices_setRegister : (s.setRegister x).notices = s.notices := rfl
@[simp] theorem State.port_setRegister : (s.setRegister x).port = s.port := rfl
@[simp] theorem State.pending_setRegister : (s.setRegister x).pending = s.pending := rfl
@[simp] theorem State.now_setRegister : (s.setRegister x).now = s.now := rfl
@[simp] theorem State.running_setRegister : (s.setRegister x).running = s.running := rfl
end

section
variable (x : Dispatch)
@[simp] theorem State.model_setDispatch : (s.setDispatch x).model = s.model := rfl
@[simp] theorem State.stopCount_setDispatch : (s.setDispatch x).stopCount = s.stopCount := rfl
@[simp] theorem State.segments_setDispatch : (s.setDispatch x).segments = s.segments := rfl
@[simp] theorem State.valves_setDispatch : (s.setDispatch x).valves = s.valves := rfl
@[simp] theorem State.points_setDispatch : (s.setDispatch x).points = s.points := rfl
@[simp] theorem State.profiles_setDispatch : (s.setDispatch x).profiles = s.profiles := rfl
@[simp] theorem State.concentrators_setDispatch : (s.setDispatch x).concentrators = s.concentrators := rfl
@[simp] theorem State.incidents_setDispatch : (s.setDispatch x).incidents = s.incidents := rfl
@[simp] theorem State.plans_setDispatch : (s.setDispatch x).plans = s.plans := rfl
@[simp] theorem State.outages_setDispatch : (s.setDispatch x).outages = s.outages := rfl
@[simp] theorem State.orders_setDispatch : (s.setDispatch x).orders = s.orders := rfl
@[simp] theorem State.windows_setDispatch : (s.setDispatch x).windows = s.windows := rfl
@[simp] theorem State.intake_setDispatch : (s.setDispatch x).intake = s.intake := rfl
@[simp] theorem State.tracer_setDispatch : (s.setDispatch x).tracer = s.tracer := rfl
@[simp] theorem State.register_setDispatch : (s.setDispatch x).register = s.register := rfl
@[simp] theorem State.dispatch_setDispatch : (s.setDispatch x).dispatch = x := rfl
@[simp] theorem State.orderUnit_setDispatch : (s.setDispatch x).orderUnit = s.orderUnit := rfl
@[simp] theorem State.clock_setDispatch : (s.setDispatch x).clock = s.clock := rfl
@[simp] theorem State.notices_setDispatch : (s.setDispatch x).notices = s.notices := rfl
@[simp] theorem State.port_setDispatch : (s.setDispatch x).port = s.port := rfl
@[simp] theorem State.pending_setDispatch : (s.setDispatch x).pending = s.pending := rfl
@[simp] theorem State.now_setDispatch : (s.setDispatch x).now = s.now := rfl
@[simp] theorem State.running_setDispatch : (s.setDispatch x).running = s.running := rfl
end

section
variable (x : OrderUnit)
@[simp] theorem State.model_setOrderUnit : (s.setOrderUnit x).model = s.model := rfl
@[simp] theorem State.stopCount_setOrderUnit : (s.setOrderUnit x).stopCount = s.stopCount := rfl
@[simp] theorem State.segments_setOrderUnit : (s.setOrderUnit x).segments = s.segments := rfl
@[simp] theorem State.valves_setOrderUnit : (s.setOrderUnit x).valves = s.valves := rfl
@[simp] theorem State.points_setOrderUnit : (s.setOrderUnit x).points = s.points := rfl
@[simp] theorem State.profiles_setOrderUnit : (s.setOrderUnit x).profiles = s.profiles := rfl
@[simp] theorem State.concentrators_setOrderUnit : (s.setOrderUnit x).concentrators = s.concentrators := rfl
@[simp] theorem State.incidents_setOrderUnit : (s.setOrderUnit x).incidents = s.incidents := rfl
@[simp] theorem State.plans_setOrderUnit : (s.setOrderUnit x).plans = s.plans := rfl
@[simp] theorem State.outages_setOrderUnit : (s.setOrderUnit x).outages = s.outages := rfl
@[simp] theorem State.orders_setOrderUnit : (s.setOrderUnit x).orders = s.orders := rfl
@[simp] theorem State.windows_setOrderUnit : (s.setOrderUnit x).windows = s.windows := rfl
@[simp] theorem State.intake_setOrderUnit : (s.setOrderUnit x).intake = s.intake := rfl
@[simp] theorem State.tracer_setOrderUnit : (s.setOrderUnit x).tracer = s.tracer := rfl
@[simp] theorem State.register_setOrderUnit : (s.setOrderUnit x).register = s.register := rfl
@[simp] theorem State.dispatch_setOrderUnit : (s.setOrderUnit x).dispatch = s.dispatch := rfl
@[simp] theorem State.orderUnit_setOrderUnit : (s.setOrderUnit x).orderUnit = x := rfl
@[simp] theorem State.clock_setOrderUnit : (s.setOrderUnit x).clock = s.clock := rfl
@[simp] theorem State.notices_setOrderUnit : (s.setOrderUnit x).notices = s.notices := rfl
@[simp] theorem State.port_setOrderUnit : (s.setOrderUnit x).port = s.port := rfl
@[simp] theorem State.pending_setOrderUnit : (s.setOrderUnit x).pending = s.pending := rfl
@[simp] theorem State.now_setOrderUnit : (s.setOrderUnit x).now = s.now := rfl
@[simp] theorem State.running_setOrderUnit : (s.setOrderUnit x).running = s.running := rfl
end

section
variable (x : Clock)
@[simp] theorem State.model_setClock : (s.setClock x).model = s.model := rfl
@[simp] theorem State.stopCount_setClock : (s.setClock x).stopCount = s.stopCount := rfl
@[simp] theorem State.segments_setClock : (s.setClock x).segments = s.segments := rfl
@[simp] theorem State.valves_setClock : (s.setClock x).valves = s.valves := rfl
@[simp] theorem State.points_setClock : (s.setClock x).points = s.points := rfl
@[simp] theorem State.profiles_setClock : (s.setClock x).profiles = s.profiles := rfl
@[simp] theorem State.concentrators_setClock : (s.setClock x).concentrators = s.concentrators := rfl
@[simp] theorem State.incidents_setClock : (s.setClock x).incidents = s.incidents := rfl
@[simp] theorem State.plans_setClock : (s.setClock x).plans = s.plans := rfl
@[simp] theorem State.outages_setClock : (s.setClock x).outages = s.outages := rfl
@[simp] theorem State.orders_setClock : (s.setClock x).orders = s.orders := rfl
@[simp] theorem State.windows_setClock : (s.setClock x).windows = s.windows := rfl
@[simp] theorem State.intake_setClock : (s.setClock x).intake = s.intake := rfl
@[simp] theorem State.tracer_setClock : (s.setClock x).tracer = s.tracer := rfl
@[simp] theorem State.register_setClock : (s.setClock x).register = s.register := rfl
@[simp] theorem State.dispatch_setClock : (s.setClock x).dispatch = s.dispatch := rfl
@[simp] theorem State.orderUnit_setClock : (s.setClock x).orderUnit = s.orderUnit := rfl
@[simp] theorem State.clock_setClock : (s.setClock x).clock = x := rfl
@[simp] theorem State.notices_setClock : (s.setClock x).notices = s.notices := rfl
@[simp] theorem State.port_setClock : (s.setClock x).port = s.port := rfl
@[simp] theorem State.pending_setClock : (s.setClock x).pending = s.pending := rfl
@[simp] theorem State.now_setClock : (s.setClock x).now = x.second := rfl
@[simp] theorem State.running_setClock : (s.setClock x).running = s.running := rfl
end

section
variable (x : Notices)
@[simp] theorem State.model_setNotices : (s.setNotices x).model = s.model := rfl
@[simp] theorem State.stopCount_setNotices : (s.setNotices x).stopCount = s.stopCount := rfl
@[simp] theorem State.segments_setNotices : (s.setNotices x).segments = s.segments := rfl
@[simp] theorem State.valves_setNotices : (s.setNotices x).valves = s.valves := rfl
@[simp] theorem State.points_setNotices : (s.setNotices x).points = s.points := rfl
@[simp] theorem State.profiles_setNotices : (s.setNotices x).profiles = s.profiles := rfl
@[simp] theorem State.concentrators_setNotices : (s.setNotices x).concentrators = s.concentrators := rfl
@[simp] theorem State.incidents_setNotices : (s.setNotices x).incidents = s.incidents := rfl
@[simp] theorem State.plans_setNotices : (s.setNotices x).plans = s.plans := rfl
@[simp] theorem State.outages_setNotices : (s.setNotices x).outages = s.outages := rfl
@[simp] theorem State.orders_setNotices : (s.setNotices x).orders = s.orders := rfl
@[simp] theorem State.windows_setNotices : (s.setNotices x).windows = s.windows := rfl
@[simp] theorem State.intake_setNotices : (s.setNotices x).intake = s.intake := rfl
@[simp] theorem State.tracer_setNotices : (s.setNotices x).tracer = s.tracer := rfl
@[simp] theorem State.register_setNotices : (s.setNotices x).register = s.register := rfl
@[simp] theorem State.dispatch_setNotices : (s.setNotices x).dispatch = s.dispatch := rfl
@[simp] theorem State.orderUnit_setNotices : (s.setNotices x).orderUnit = s.orderUnit := rfl
@[simp] theorem State.clock_setNotices : (s.setNotices x).clock = s.clock := rfl
@[simp] theorem State.notices_setNotices : (s.setNotices x).notices = x := rfl
@[simp] theorem State.port_setNotices : (s.setNotices x).port = s.port := rfl
@[simp] theorem State.pending_setNotices : (s.setNotices x).pending = s.pending := rfl
@[simp] theorem State.now_setNotices : (s.setNotices x).now = s.now := rfl
@[simp] theorem State.running_setNotices : (s.setNotices x).running = s.running := rfl
end

section
variable (x : Port)
@[simp] theorem State.model_setPort : (s.setPort x).model = s.model := rfl
@[simp] theorem State.stopCount_setPort : (s.setPort x).stopCount = s.stopCount := rfl
@[simp] theorem State.segments_setPort : (s.setPort x).segments = s.segments := rfl
@[simp] theorem State.valves_setPort : (s.setPort x).valves = s.valves := rfl
@[simp] theorem State.points_setPort : (s.setPort x).points = s.points := rfl
@[simp] theorem State.profiles_setPort : (s.setPort x).profiles = s.profiles := rfl
@[simp] theorem State.concentrators_setPort : (s.setPort x).concentrators = s.concentrators := rfl
@[simp] theorem State.incidents_setPort : (s.setPort x).incidents = s.incidents := rfl
@[simp] theorem State.plans_setPort : (s.setPort x).plans = s.plans := rfl
@[simp] theorem State.outages_setPort : (s.setPort x).outages = s.outages := rfl
@[simp] theorem State.orders_setPort : (s.setPort x).orders = s.orders := rfl
@[simp] theorem State.windows_setPort : (s.setPort x).windows = s.windows := rfl
@[simp] theorem State.intake_setPort : (s.setPort x).intake = s.intake := rfl
@[simp] theorem State.tracer_setPort : (s.setPort x).tracer = s.tracer := rfl
@[simp] theorem State.register_setPort : (s.setPort x).register = s.register := rfl
@[simp] theorem State.dispatch_setPort : (s.setPort x).dispatch = s.dispatch := rfl
@[simp] theorem State.orderUnit_setPort : (s.setPort x).orderUnit = s.orderUnit := rfl
@[simp] theorem State.clock_setPort : (s.setPort x).clock = s.clock := rfl
@[simp] theorem State.notices_setPort : (s.setPort x).notices = s.notices := rfl
@[simp] theorem State.port_setPort : (s.setPort x).port = x := rfl
@[simp] theorem State.pending_setPort : (s.setPort x).pending = s.pending := rfl
@[simp] theorem State.now_setPort : (s.setPort x).now = s.now := rfl
@[simp] theorem State.running_setPort : (s.setPort x).running = s.running := rfl
end

section
variable (x : List Instr)
@[simp] theorem State.model_setPending : (s.setPending x).model = s.model := rfl
@[simp] theorem State.stopCount_setPending : (s.setPending x).stopCount = s.stopCount := rfl
@[simp] theorem State.segments_setPending : (s.setPending x).segments = s.segments := rfl
@[simp] theorem State.valves_setPending : (s.setPending x).valves = s.valves := rfl
@[simp] theorem State.points_setPending : (s.setPending x).points = s.points := rfl
@[simp] theorem State.profiles_setPending : (s.setPending x).profiles = s.profiles := rfl
@[simp] theorem State.concentrators_setPending : (s.setPending x).concentrators = s.concentrators := rfl
@[simp] theorem State.incidents_setPending : (s.setPending x).incidents = s.incidents := rfl
@[simp] theorem State.plans_setPending : (s.setPending x).plans = s.plans := rfl
@[simp] theorem State.outages_setPending : (s.setPending x).outages = s.outages := rfl
@[simp] theorem State.orders_setPending : (s.setPending x).orders = s.orders := rfl
@[simp] theorem State.windows_setPending : (s.setPending x).windows = s.windows := rfl
@[simp] theorem State.intake_setPending : (s.setPending x).intake = s.intake := rfl
@[simp] theorem State.tracer_setPending : (s.setPending x).tracer = s.tracer := rfl
@[simp] theorem State.register_setPending : (s.setPending x).register = s.register := rfl
@[simp] theorem State.dispatch_setPending : (s.setPending x).dispatch = s.dispatch := rfl
@[simp] theorem State.orderUnit_setPending : (s.setPending x).orderUnit = s.orderUnit := rfl
@[simp] theorem State.clock_setPending : (s.setPending x).clock = s.clock := rfl
@[simp] theorem State.notices_setPending : (s.setPending x).notices = s.notices := rfl
@[simp] theorem State.port_setPending : (s.setPending x).port = s.port := rfl
@[simp] theorem State.pending_setPending : (s.setPending x).pending = x := rfl
@[simp] theorem State.now_setPending : (s.setPending x).now = s.now := rfl
@[simp] theorem State.running_setPending : (s.setPending x).running = s.running := rfl
end

end Sys2Proof.Machine
end

