-- ==== Sys2Proof/Laws/Frames.lean ====
section
/-! SUPPORT. What each shared operation leaves alone: for every operation, one lemma that names each field of
the state it does not touch. An operation that raises a notice or sets a flag touches `notices` and what the
port still has to clear (`onPlace`), and nothing else of the port. -/

namespace Sys2Proof.Machine

/-! ## Choices and folds -/

@[simp] theorem model_ite (c : Prop) [Decidable c] (a b : State) :
    (if c then a else b).model = if c then a.model else b.model := by
  split <;> rfl

@[simp] theorem stopCount_ite (c : Prop) [Decidable c] (a b : State) :
    (if c then a else b).stopCount = if c then a.stopCount else b.stopCount := by
  split <;> rfl

@[simp] theorem segments_ite (c : Prop) [Decidable c] (a b : State) :
    (if c then a else b).segments = if c then a.segments else b.segments := by
  split <;> rfl

@[simp] theorem valves_ite (c : Prop) [Decidable c] (a b : State) :
    (if c then a else b).valves = if c then a.valves else b.valves := by
  split <;> rfl

@[simp] theorem points_ite (c : Prop) [Decidable c] (a b : State) :
    (if c then a else b).points = if c then a.points else b.points := by
  split <;> rfl

@[simp] theorem profiles_ite (c : Prop) [Decidable c] (a b : State) :
    (if c then a else b).profiles = if c then a.profiles else b.profiles := by
  split <;> rfl

@[simp] theorem concentrators_ite (c : Prop) [Decidable c] (a b : State) :
    (if c then a else b).concentrators = if c then a.concentrators else b.concentrators := by
  split <;> rfl

@[simp] theorem incidents_ite (c : Prop) [Decidable c] (a b : State) :
    (if c then a else b).incidents = if c then a.incidents else b.incidents := by
  split <;> rfl

@[simp] theorem plans_ite (c : Prop) [Decidable c] (a b : State) :
    (if c then a else b).plans = if c then a.plans else b.plans := by
  split <;> rfl

@[simp] theorem outages_ite (c : Prop) [Decidable c] (a b : State) :
    (if c then a else b).outages = if c then a.outages else b.outages := by
  split <;> rfl

@[simp] theorem orders_ite (c : Prop) [Decidable c] (a b : State) :
    (if c then a else b).orders = if c then a.orders else b.orders := by
  split <;> rfl

@[simp] theorem windows_ite (c : Prop) [Decidable c] (a b : State) :
    (if c then a else b).windows = if c then a.windows else b.windows := by
  split <;> rfl

@[simp] theorem intake_ite (c : Prop) [Decidable c] (a b : State) :
    (if c then a else b).intake = if c then a.intake else b.intake := by
  split <;> rfl

@[simp] theorem tracer_ite (c : Prop) [Decidable c] (a b : State) :
    (if c then a else b).tracer = if c then a.tracer else b.tracer := by
  split <;> rfl

@[simp] theorem register_ite (c : Prop) [Decidable c] (a b : State) :
    (if c then a else b).register = if c then a.register else b.register := by
  split <;> rfl

@[simp] theorem dispatch_ite (c : Prop) [Decidable c] (a b : State) :
    (if c then a else b).dispatch = if c then a.dispatch else b.dispatch := by
  split <;> rfl

@[simp] theorem orderUnit_ite (c : Prop) [Decidable c] (a b : State) :
    (if c then a else b).orderUnit = if c then a.orderUnit else b.orderUnit := by
  split <;> rfl

@[simp] theorem clock_ite (c : Prop) [Decidable c] (a b : State) :
    (if c then a else b).clock = if c then a.clock else b.clock := by
  split <;> rfl

@[simp] theorem notices_ite (c : Prop) [Decidable c] (a b : State) :
    (if c then a else b).notices = if c then a.notices else b.notices := by
  split <;> rfl

@[simp] theorem port_ite (c : Prop) [Decidable c] (a b : State) :
    (if c then a else b).port = if c then a.port else b.port := by
  split <;> rfl

@[simp] theorem pending_ite (c : Prop) [Decidable c] (a b : State) :
    (if c then a else b).pending = if c then a.pending else b.pending := by
  split <;> rfl

@[simp] theorem model_foldl {α : Type} (f : State → α → State) (hf : ∀ s a, (f s a).model = s.model)
    (l : List α) (s : State) : (l.foldl f s).model = s.model := by
  induction l generalizing s with
  | nil => rfl
  | cons a l ih => simp [ih, hf]

@[simp] theorem stopCount_foldl {α : Type} (f : State → α → State) (hf : ∀ s a, (f s a).stopCount = s.stopCount)
    (l : List α) (s : State) : (l.foldl f s).stopCount = s.stopCount := by
  induction l generalizing s with
  | nil => rfl
  | cons a l ih => simp [ih, hf]

@[simp] theorem segments_foldl {α : Type} (f : State → α → State) (hf : ∀ s a, (f s a).segments = s.segments)
    (l : List α) (s : State) : (l.foldl f s).segments = s.segments := by
  induction l generalizing s with
  | nil => rfl
  | cons a l ih => simp [ih, hf]

@[simp] theorem valves_foldl {α : Type} (f : State → α → State) (hf : ∀ s a, (f s a).valves = s.valves)
    (l : List α) (s : State) : (l.foldl f s).valves = s.valves := by
  induction l generalizing s with
  | nil => rfl
  | cons a l ih => simp [ih, hf]

@[simp] theorem points_foldl {α : Type} (f : State → α → State) (hf : ∀ s a, (f s a).points = s.points)
    (l : List α) (s : State) : (l.foldl f s).points = s.points := by
  induction l generalizing s with
  | nil => rfl
  | cons a l ih => simp [ih, hf]

@[simp] theorem profiles_foldl {α : Type} (f : State → α → State) (hf : ∀ s a, (f s a).profiles = s.profiles)
    (l : List α) (s : State) : (l.foldl f s).profiles = s.profiles := by
  induction l generalizing s with
  | nil => rfl
  | cons a l ih => simp [ih, hf]

@[simp] theorem concentrators_foldl {α : Type} (f : State → α → State) (hf : ∀ s a, (f s a).concentrators = s.concentrators)
    (l : List α) (s : State) : (l.foldl f s).concentrators = s.concentrators := by
  induction l generalizing s with
  | nil => rfl
  | cons a l ih => simp [ih, hf]

@[simp] theorem incidents_foldl {α : Type} (f : State → α → State) (hf : ∀ s a, (f s a).incidents = s.incidents)
    (l : List α) (s : State) : (l.foldl f s).incidents = s.incidents := by
  induction l generalizing s with
  | nil => rfl
  | cons a l ih => simp [ih, hf]

@[simp] theorem plans_foldl {α : Type} (f : State → α → State) (hf : ∀ s a, (f s a).plans = s.plans)
    (l : List α) (s : State) : (l.foldl f s).plans = s.plans := by
  induction l generalizing s with
  | nil => rfl
  | cons a l ih => simp [ih, hf]

@[simp] theorem outages_foldl {α : Type} (f : State → α → State) (hf : ∀ s a, (f s a).outages = s.outages)
    (l : List α) (s : State) : (l.foldl f s).outages = s.outages := by
  induction l generalizing s with
  | nil => rfl
  | cons a l ih => simp [ih, hf]

@[simp] theorem orders_foldl {α : Type} (f : State → α → State) (hf : ∀ s a, (f s a).orders = s.orders)
    (l : List α) (s : State) : (l.foldl f s).orders = s.orders := by
  induction l generalizing s with
  | nil => rfl
  | cons a l ih => simp [ih, hf]

@[simp] theorem windows_foldl {α : Type} (f : State → α → State) (hf : ∀ s a, (f s a).windows = s.windows)
    (l : List α) (s : State) : (l.foldl f s).windows = s.windows := by
  induction l generalizing s with
  | nil => rfl
  | cons a l ih => simp [ih, hf]

@[simp] theorem intake_foldl {α : Type} (f : State → α → State) (hf : ∀ s a, (f s a).intake = s.intake)
    (l : List α) (s : State) : (l.foldl f s).intake = s.intake := by
  induction l generalizing s with
  | nil => rfl
  | cons a l ih => simp [ih, hf]

@[simp] theorem tracer_foldl {α : Type} (f : State → α → State) (hf : ∀ s a, (f s a).tracer = s.tracer)
    (l : List α) (s : State) : (l.foldl f s).tracer = s.tracer := by
  induction l generalizing s with
  | nil => rfl
  | cons a l ih => simp [ih, hf]

@[simp] theorem register_foldl {α : Type} (f : State → α → State) (hf : ∀ s a, (f s a).register = s.register)
    (l : List α) (s : State) : (l.foldl f s).register = s.register := by
  induction l generalizing s with
  | nil => rfl
  | cons a l ih => simp [ih, hf]

@[simp] theorem dispatch_foldl {α : Type} (f : State → α → State) (hf : ∀ s a, (f s a).dispatch = s.dispatch)
    (l : List α) (s : State) : (l.foldl f s).dispatch = s.dispatch := by
  induction l generalizing s with
  | nil => rfl
  | cons a l ih => simp [ih, hf]

@[simp] theorem orderUnit_foldl {α : Type} (f : State → α → State) (hf : ∀ s a, (f s a).orderUnit = s.orderUnit)
    (l : List α) (s : State) : (l.foldl f s).orderUnit = s.orderUnit := by
  induction l generalizing s with
  | nil => rfl
  | cons a l ih => simp [ih, hf]

@[simp] theorem clock_foldl {α : Type} (f : State → α → State) (hf : ∀ s a, (f s a).clock = s.clock)
    (l : List α) (s : State) : (l.foldl f s).clock = s.clock := by
  induction l generalizing s with
  | nil => rfl
  | cons a l ih => simp [ih, hf]

@[simp] theorem notices_foldl {α : Type} (f : State → α → State) (hf : ∀ s a, (f s a).notices = s.notices)
    (l : List α) (s : State) : (l.foldl f s).notices = s.notices := by
  induction l generalizing s with
  | nil => rfl
  | cons a l ih => simp [ih, hf]

@[simp] theorem port_foldl {α : Type} (f : State → α → State) (hf : ∀ s a, (f s a).port = s.port)
    (l : List α) (s : State) : (l.foldl f s).port = s.port := by
  induction l generalizing s with
  | nil => rfl
  | cons a l ih => simp [ih, hf]

@[simp] theorem pending_foldl {α : Type} (f : State → α → State) (hf : ∀ s a, (f s a).pending = s.pending)
    (l : List α) (s : State) : (l.foldl f s).pending = s.pending := by
  induction l generalizing s with
  | nil => rfl
  | cons a l ih => simp [ih, hf]

@[simp] theorem port_state_foldl {α : Type} (f : State → α → State)
    (hf : ∀ s a, (f s a).port.state = s.port.state) (l : List α) (s : State) :
    (l.foldl f s).port.state = s.port.state := by
  induction l generalizing s with
  | nil => rfl
  | cons a l ih => simp [ih, hf]

@[simp] theorem port_state_ite (c : Prop) [Decidable c] (a b : Port) :
    (if c then a else b).state = if c then a.state else b.state := by
  split <;> rfl

@[simp] theorem port_discarded_foldl {α : Type} (f : State → α → State)
    (hf : ∀ s a, (f s a).port.discarded = s.port.discarded) (l : List α) (s : State) :
    (l.foldl f s).port.discarded = s.port.discarded := by
  induction l generalizing s with
  | nil => rfl
  | cons a l ih => simp [ih, hf]

@[simp] theorem port_discarded_ite (c : Prop) [Decidable c] (a b : Port) :
    (if c then a else b).discarded = if c then a.discarded else b.discarded := by
  split <;> rfl

@[simp] theorem port_held_foldl {α : Type} (f : State → α → State)
    (hf : ∀ s a, (f s a).port.held = s.port.held) (l : List α) (s : State) :
    (l.foldl f s).port.held = s.port.held := by
  induction l generalizing s with
  | nil => rfl
  | cons a l ih => simp [ih, hf]

@[simp] theorem port_held_ite (c : Prop) [Decidable c] (a b : Port) :
    (if c then a else b).held = if c then a.held else b.held := by
  split <;> rfl

@[simp] theorem port_skip_foldl {α : Type} (f : State → α → State)
    (hf : ∀ s a, (f s a).port.skip = s.port.skip) (l : List α) (s : State) :
    (l.foldl f s).port.skip = s.port.skip := by
  induction l generalizing s with
  | nil => rfl
  | cons a l ih => simp [ih, hf]

@[simp] theorem port_skip_ite (c : Prop) [Decidable c] (a b : Port) :
    (if c then a else b).skip = if c then a.skip else b.skip := by
  split <;> rfl

@[simp] theorem port_sent_foldl {α : Type} (f : State → α → State)
    (hf : ∀ s a, (f s a).port.sent = s.port.sent) (l : List α) (s : State) :
    (l.foldl f s).port.sent = s.port.sent := by
  induction l generalizing s with
  | nil => rfl
  | cons a l ih => simp [ih, hf]

@[simp] theorem port_sent_ite (c : Prop) [Decidable c] (a b : Port) :
    (if c then a else b).sent = if c then a.sent else b.sent := by
  split <;> rfl

@[simp] theorem port_drawn_foldl {α : Type} (f : State → α → State)
    (hf : ∀ s a, (f s a).port.drawn = s.port.drawn) (l : List α) (s : State) :
    (l.foldl f s).port.drawn = s.port.drawn := by
  induction l generalizing s with
  | nil => rfl
  | cons a l ih => simp [ih, hf]

@[simp] theorem port_drawn_ite (c : Prop) [Decidable c] (a b : Port) :
    (if c then a else b).drawn = if c then a.drawn else b.drawn := by
  split <;> rfl

/-! ## Records -/

@[simp] theorem putSegment_frame (n : Nat) (x : Segment) (s : State) :
    (s.putSegment n x).segments = Table.put s.segments n x ∧
      (s.putSegment n x).model = s.model ∧ (s.putSegment n x).stopCount = s.stopCount ∧
      (s.putSegment n x).valves = s.valves ∧ (s.putSegment n x).points = s.points ∧
      (s.putSegment n x).profiles = s.profiles ∧ (s.putSegment n x).concentrators = s.concentrators ∧
      (s.putSegment n x).incidents = s.incidents ∧ (s.putSegment n x).plans = s.plans ∧
      (s.putSegment n x).outages = s.outages ∧ (s.putSegment n x).orders = s.orders ∧
      (s.putSegment n x).windows = s.windows ∧ (s.putSegment n x).intake = s.intake ∧
      (s.putSegment n x).tracer = s.tracer ∧ (s.putSegment n x).register = s.register ∧
      (s.putSegment n x).dispatch = s.dispatch ∧ (s.putSegment n x).orderUnit = s.orderUnit ∧
      (s.putSegment n x).clock = s.clock ∧ (s.putSegment n x).notices = s.notices ∧
      (s.putSegment n x).port = s.port ∧ (s.putSegment n x).pending = s.pending := by
  simp [State.putSegment]

@[simp] theorem updSegment_frame (n : Nat) (f : Segment → Segment) (s : State) :
    (s.updSegment n f).segments = Table.upd s.segments n f ∧
      (s.updSegment n f).model = s.model ∧ (s.updSegment n f).stopCount = s.stopCount ∧
      (s.updSegment n f).valves = s.valves ∧ (s.updSegment n f).points = s.points ∧
      (s.updSegment n f).profiles = s.profiles ∧ (s.updSegment n f).concentrators = s.concentrators ∧
      (s.updSegment n f).incidents = s.incidents ∧ (s.updSegment n f).plans = s.plans ∧
      (s.updSegment n f).outages = s.outages ∧ (s.updSegment n f).orders = s.orders ∧
      (s.updSegment n f).windows = s.windows ∧ (s.updSegment n f).intake = s.intake ∧
      (s.updSegment n f).tracer = s.tracer ∧ (s.updSegment n f).register = s.register ∧
      (s.updSegment n f).dispatch = s.dispatch ∧ (s.updSegment n f).orderUnit = s.orderUnit ∧
      (s.updSegment n f).clock = s.clock ∧ (s.updSegment n f).notices = s.notices ∧
      (s.updSegment n f).port = s.port ∧ (s.updSegment n f).pending = s.pending := by
  simp [State.updSegment]

@[simp] theorem putValve_frame (n : Nat) (x : Valve) (s : State) :
    (s.putValve n x).valves = Table.put s.valves n x ∧
      (s.putValve n x).model = s.model ∧ (s.putValve n x).stopCount = s.stopCount ∧
      (s.putValve n x).segments = s.segments ∧ (s.putValve n x).points = s.points ∧
      (s.putValve n x).profiles = s.profiles ∧ (s.putValve n x).concentrators = s.concentrators ∧
      (s.putValve n x).incidents = s.incidents ∧ (s.putValve n x).plans = s.plans ∧
      (s.putValve n x).outages = s.outages ∧ (s.putValve n x).orders = s.orders ∧
      (s.putValve n x).windows = s.windows ∧ (s.putValve n x).intake = s.intake ∧
      (s.putValve n x).tracer = s.tracer ∧ (s.putValve n x).register = s.register ∧
      (s.putValve n x).dispatch = s.dispatch ∧ (s.putValve n x).orderUnit = s.orderUnit ∧
      (s.putValve n x).clock = s.clock ∧ (s.putValve n x).notices = s.notices ∧
      (s.putValve n x).port = s.port ∧ (s.putValve n x).pending = s.pending := by
  simp [State.putValve]

@[simp] theorem updValve_frame (n : Nat) (f : Valve → Valve) (s : State) :
    (s.updValve n f).valves = Table.upd s.valves n f ∧
      (s.updValve n f).model = s.model ∧ (s.updValve n f).stopCount = s.stopCount ∧
      (s.updValve n f).segments = s.segments ∧ (s.updValve n f).points = s.points ∧
      (s.updValve n f).profiles = s.profiles ∧ (s.updValve n f).concentrators = s.concentrators ∧
      (s.updValve n f).incidents = s.incidents ∧ (s.updValve n f).plans = s.plans ∧
      (s.updValve n f).outages = s.outages ∧ (s.updValve n f).orders = s.orders ∧
      (s.updValve n f).windows = s.windows ∧ (s.updValve n f).intake = s.intake ∧
      (s.updValve n f).tracer = s.tracer ∧ (s.updValve n f).register = s.register ∧
      (s.updValve n f).dispatch = s.dispatch ∧ (s.updValve n f).orderUnit = s.orderUnit ∧
      (s.updValve n f).clock = s.clock ∧ (s.updValve n f).notices = s.notices ∧
      (s.updValve n f).port = s.port ∧ (s.updValve n f).pending = s.pending := by
  simp [State.updValve]

@[simp] theorem putPoint_frame (n : Nat) (x : Point) (s : State) :
    (s.putPoint n x).points = Table.put s.points n x ∧
      (s.putPoint n x).model = s.model ∧ (s.putPoint n x).stopCount = s.stopCount ∧
      (s.putPoint n x).segments = s.segments ∧ (s.putPoint n x).valves = s.valves ∧
      (s.putPoint n x).profiles = s.profiles ∧ (s.putPoint n x).concentrators = s.concentrators ∧
      (s.putPoint n x).incidents = s.incidents ∧ (s.putPoint n x).plans = s.plans ∧
      (s.putPoint n x).outages = s.outages ∧ (s.putPoint n x).orders = s.orders ∧
      (s.putPoint n x).windows = s.windows ∧ (s.putPoint n x).intake = s.intake ∧
      (s.putPoint n x).tracer = s.tracer ∧ (s.putPoint n x).register = s.register ∧
      (s.putPoint n x).dispatch = s.dispatch ∧ (s.putPoint n x).orderUnit = s.orderUnit ∧
      (s.putPoint n x).clock = s.clock ∧ (s.putPoint n x).notices = s.notices ∧
      (s.putPoint n x).port = s.port ∧ (s.putPoint n x).pending = s.pending := by
  simp [State.putPoint]

@[simp] theorem updPoint_frame (n : Nat) (f : Point → Point) (s : State) :
    (s.updPoint n f).points = Table.upd s.points n f ∧
      (s.updPoint n f).model = s.model ∧ (s.updPoint n f).stopCount = s.stopCount ∧
      (s.updPoint n f).segments = s.segments ∧ (s.updPoint n f).valves = s.valves ∧
      (s.updPoint n f).profiles = s.profiles ∧ (s.updPoint n f).concentrators = s.concentrators ∧
      (s.updPoint n f).incidents = s.incidents ∧ (s.updPoint n f).plans = s.plans ∧
      (s.updPoint n f).outages = s.outages ∧ (s.updPoint n f).orders = s.orders ∧
      (s.updPoint n f).windows = s.windows ∧ (s.updPoint n f).intake = s.intake ∧
      (s.updPoint n f).tracer = s.tracer ∧ (s.updPoint n f).register = s.register ∧
      (s.updPoint n f).dispatch = s.dispatch ∧ (s.updPoint n f).orderUnit = s.orderUnit ∧
      (s.updPoint n f).clock = s.clock ∧ (s.updPoint n f).notices = s.notices ∧
      (s.updPoint n f).port = s.port ∧ (s.updPoint n f).pending = s.pending := by
  simp [State.updPoint]

@[simp] theorem putIncident_frame (n : Nat) (x : Incident) (s : State) :
    (s.putIncident n x).incidents = Table.put s.incidents n x ∧
      (s.putIncident n x).model = s.model ∧ (s.putIncident n x).stopCount = s.stopCount ∧
      (s.putIncident n x).segments = s.segments ∧ (s.putIncident n x).valves = s.valves ∧
      (s.putIncident n x).points = s.points ∧ (s.putIncident n x).profiles = s.profiles ∧
      (s.putIncident n x).concentrators = s.concentrators ∧ (s.putIncident n x).plans = s.plans ∧
      (s.putIncident n x).outages = s.outages ∧ (s.putIncident n x).orders = s.orders ∧
      (s.putIncident n x).windows = s.windows ∧ (s.putIncident n x).intake = s.intake ∧
      (s.putIncident n x).tracer = s.tracer ∧ (s.putIncident n x).register = s.register ∧
      (s.putIncident n x).dispatch = s.dispatch ∧ (s.putIncident n x).orderUnit = s.orderUnit ∧
      (s.putIncident n x).clock = s.clock ∧ (s.putIncident n x).notices = s.notices ∧
      (s.putIncident n x).port = s.port ∧ (s.putIncident n x).pending = s.pending := by
  simp [State.putIncident]

@[simp] theorem updIncident_frame (n : Nat) (f : Incident → Incident) (s : State) :
    (s.updIncident n f).incidents = Table.upd s.incidents n f ∧
      (s.updIncident n f).model = s.model ∧ (s.updIncident n f).stopCount = s.stopCount ∧
      (s.updIncident n f).segments = s.segments ∧ (s.updIncident n f).valves = s.valves ∧
      (s.updIncident n f).points = s.points ∧ (s.updIncident n f).profiles = s.profiles ∧
      (s.updIncident n f).concentrators = s.concentrators ∧ (s.updIncident n f).plans = s.plans ∧
      (s.updIncident n f).outages = s.outages ∧ (s.updIncident n f).orders = s.orders ∧
      (s.updIncident n f).windows = s.windows ∧ (s.updIncident n f).intake = s.intake ∧
      (s.updIncident n f).tracer = s.tracer ∧ (s.updIncident n f).register = s.register ∧
      (s.updIncident n f).dispatch = s.dispatch ∧ (s.updIncident n f).orderUnit = s.orderUnit ∧
      (s.updIncident n f).clock = s.clock ∧ (s.updIncident n f).notices = s.notices ∧
      (s.updIncident n f).port = s.port ∧ (s.updIncident n f).pending = s.pending := by
  simp [State.updIncident]

@[simp] theorem putPlan_frame (n : Nat) (x : Plan) (s : State) :
    (s.putPlan n x).plans = Table.put s.plans n x ∧
      (s.putPlan n x).model = s.model ∧ (s.putPlan n x).stopCount = s.stopCount ∧
      (s.putPlan n x).segments = s.segments ∧ (s.putPlan n x).valves = s.valves ∧
      (s.putPlan n x).points = s.points ∧ (s.putPlan n x).profiles = s.profiles ∧
      (s.putPlan n x).concentrators = s.concentrators ∧ (s.putPlan n x).incidents = s.incidents ∧
      (s.putPlan n x).outages = s.outages ∧ (s.putPlan n x).orders = s.orders ∧
      (s.putPlan n x).windows = s.windows ∧ (s.putPlan n x).intake = s.intake ∧
      (s.putPlan n x).tracer = s.tracer ∧ (s.putPlan n x).register = s.register ∧
      (s.putPlan n x).dispatch = s.dispatch ∧ (s.putPlan n x).orderUnit = s.orderUnit ∧
      (s.putPlan n x).clock = s.clock ∧ (s.putPlan n x).notices = s.notices ∧
      (s.putPlan n x).port = s.port ∧ (s.putPlan n x).pending = s.pending := by
  simp [State.putPlan]

@[simp] theorem updPlan_frame (n : Nat) (f : Plan → Plan) (s : State) :
    (s.updPlan n f).plans = Table.upd s.plans n f ∧
      (s.updPlan n f).model = s.model ∧ (s.updPlan n f).stopCount = s.stopCount ∧
      (s.updPlan n f).segments = s.segments ∧ (s.updPlan n f).valves = s.valves ∧
      (s.updPlan n f).points = s.points ∧ (s.updPlan n f).profiles = s.profiles ∧
      (s.updPlan n f).concentrators = s.concentrators ∧ (s.updPlan n f).incidents = s.incidents ∧
      (s.updPlan n f).outages = s.outages ∧ (s.updPlan n f).orders = s.orders ∧
      (s.updPlan n f).windows = s.windows ∧ (s.updPlan n f).intake = s.intake ∧
      (s.updPlan n f).tracer = s.tracer ∧ (s.updPlan n f).register = s.register ∧
      (s.updPlan n f).dispatch = s.dispatch ∧ (s.updPlan n f).orderUnit = s.orderUnit ∧
      (s.updPlan n f).clock = s.clock ∧ (s.updPlan n f).notices = s.notices ∧
      (s.updPlan n f).port = s.port ∧ (s.updPlan n f).pending = s.pending := by
  simp [State.updPlan]

@[simp] theorem putOutage_frame (n : Nat) (x : Outage) (s : State) :
    (s.putOutage n x).outages = Table.put s.outages n x ∧
      (s.putOutage n x).model = s.model ∧ (s.putOutage n x).stopCount = s.stopCount ∧
      (s.putOutage n x).segments = s.segments ∧ (s.putOutage n x).valves = s.valves ∧
      (s.putOutage n x).points = s.points ∧ (s.putOutage n x).profiles = s.profiles ∧
      (s.putOutage n x).concentrators = s.concentrators ∧ (s.putOutage n x).incidents = s.incidents ∧
      (s.putOutage n x).plans = s.plans ∧ (s.putOutage n x).orders = s.orders ∧
      (s.putOutage n x).windows = s.windows ∧ (s.putOutage n x).intake = s.intake ∧
      (s.putOutage n x).tracer = s.tracer ∧ (s.putOutage n x).register = s.register ∧
      (s.putOutage n x).dispatch = s.dispatch ∧ (s.putOutage n x).orderUnit = s.orderUnit ∧
      (s.putOutage n x).clock = s.clock ∧ (s.putOutage n x).notices = s.notices ∧
      (s.putOutage n x).port = s.port ∧ (s.putOutage n x).pending = s.pending := by
  simp [State.putOutage]

@[simp] theorem updOutage_frame (n : Nat) (f : Outage → Outage) (s : State) :
    (s.updOutage n f).outages = Table.upd s.outages n f ∧
      (s.updOutage n f).model = s.model ∧ (s.updOutage n f).stopCount = s.stopCount ∧
      (s.updOutage n f).segments = s.segments ∧ (s.updOutage n f).valves = s.valves ∧
      (s.updOutage n f).points = s.points ∧ (s.updOutage n f).profiles = s.profiles ∧
      (s.updOutage n f).concentrators = s.concentrators ∧ (s.updOutage n f).incidents = s.incidents ∧
      (s.updOutage n f).plans = s.plans ∧ (s.updOutage n f).orders = s.orders ∧
      (s.updOutage n f).windows = s.windows ∧ (s.updOutage n f).intake = s.intake ∧
      (s.updOutage n f).tracer = s.tracer ∧ (s.updOutage n f).register = s.register ∧
      (s.updOutage n f).dispatch = s.dispatch ∧ (s.updOutage n f).orderUnit = s.orderUnit ∧
      (s.updOutage n f).clock = s.clock ∧ (s.updOutage n f).notices = s.notices ∧
      (s.updOutage n f).port = s.port ∧ (s.updOutage n f).pending = s.pending := by
  simp [State.updOutage]

@[simp] theorem putOrder_frame (n : Nat) (x : Order) (s : State) :
    (s.putOrder n x).orders = Table.put s.orders n x ∧
      (s.putOrder n x).model = s.model ∧ (s.putOrder n x).stopCount = s.stopCount ∧
      (s.putOrder n x).segments = s.segments ∧ (s.putOrder n x).valves = s.valves ∧
      (s.putOrder n x).points = s.points ∧ (s.putOrder n x).profiles = s.profiles ∧
      (s.putOrder n x).concentrators = s.concentrators ∧ (s.putOrder n x).incidents = s.incidents ∧
      (s.putOrder n x).plans = s.plans ∧ (s.putOrder n x).outages = s.outages ∧
      (s.putOrder n x).windows = s.windows ∧ (s.putOrder n x).intake = s.intake ∧
      (s.putOrder n x).tracer = s.tracer ∧ (s.putOrder n x).register = s.register ∧
      (s.putOrder n x).dispatch = s.dispatch ∧ (s.putOrder n x).orderUnit = s.orderUnit ∧
      (s.putOrder n x).clock = s.clock ∧ (s.putOrder n x).notices = s.notices ∧
      (s.putOrder n x).port = s.port ∧ (s.putOrder n x).pending = s.pending := by
  simp [State.putOrder]

@[simp] theorem updOrder_frame (n : Nat) (f : Order → Order) (s : State) :
    (s.updOrder n f).orders = Table.upd s.orders n f ∧
      (s.updOrder n f).model = s.model ∧ (s.updOrder n f).stopCount = s.stopCount ∧
      (s.updOrder n f).segments = s.segments ∧ (s.updOrder n f).valves = s.valves ∧
      (s.updOrder n f).points = s.points ∧ (s.updOrder n f).profiles = s.profiles ∧
      (s.updOrder n f).concentrators = s.concentrators ∧ (s.updOrder n f).incidents = s.incidents ∧
      (s.updOrder n f).plans = s.plans ∧ (s.updOrder n f).outages = s.outages ∧
      (s.updOrder n f).windows = s.windows ∧ (s.updOrder n f).intake = s.intake ∧
      (s.updOrder n f).tracer = s.tracer ∧ (s.updOrder n f).register = s.register ∧
      (s.updOrder n f).dispatch = s.dispatch ∧ (s.updOrder n f).orderUnit = s.orderUnit ∧
      (s.updOrder n f).clock = s.clock ∧ (s.updOrder n f).notices = s.notices ∧
      (s.updOrder n f).port = s.port ∧ (s.updOrder n f).pending = s.pending := by
  simp [State.updOrder]

/-! ## Notices and flags -/

@[simp] theorem raise_frame (c : Notice) (s : State) :
    (raise c s).model = s.model ∧ (raise c s).stopCount = s.stopCount ∧
      (raise c s).segments = s.segments ∧ (raise c s).valves = s.valves ∧
      (raise c s).points = s.points ∧ (raise c s).profiles = s.profiles ∧
      (raise c s).concentrators = s.concentrators ∧ (raise c s).incidents = s.incidents ∧
      (raise c s).plans = s.plans ∧ (raise c s).outages = s.outages ∧
      (raise c s).orders = s.orders ∧ (raise c s).windows = s.windows ∧
      (raise c s).intake = s.intake ∧ (raise c s).tracer = s.tracer ∧
      (raise c s).register = s.register ∧ (raise c s).dispatch = s.dispatch ∧
      (raise c s).orderUnit = s.orderUnit ∧ (raise c s).clock = s.clock ∧
      (raise c s).port.state = s.port.state ∧ (raise c s).port.discarded = s.port.discarded ∧
      (raise c s).port.held = s.port.held ∧ (raise c s).port.skip = s.port.skip ∧
      (raise c s).port.sent = s.port.sent ∧ (raise c s).port.drawn = s.port.drawn ∧
      (raise c s).pending = s.pending := by
  simp [raise]

@[simp] theorem setFlags_frame (c : RecordClass) (l : List Nat) (s : State) :
    (setFlags c l s).model = s.model ∧ (setFlags c l s).stopCount = s.stopCount ∧
      (setFlags c l s).segments = s.segments ∧ (setFlags c l s).valves = s.valves ∧
      (setFlags c l s).points = s.points ∧ (setFlags c l s).profiles = s.profiles ∧
      (setFlags c l s).concentrators = s.concentrators ∧ (setFlags c l s).incidents = s.incidents ∧
      (setFlags c l s).plans = s.plans ∧ (setFlags c l s).outages = s.outages ∧
      (setFlags c l s).orders = s.orders ∧ (setFlags c l s).windows = s.windows ∧
      (setFlags c l s).intake = s.intake ∧ (setFlags c l s).tracer = s.tracer ∧
      (setFlags c l s).register = s.register ∧ (setFlags c l s).dispatch = s.dispatch ∧
      (setFlags c l s).orderUnit = s.orderUnit ∧ (setFlags c l s).clock = s.clock ∧
      (setFlags c l s).port = s.port ∧ (setFlags c l s).pending = s.pending := by
  simp [setFlags]

@[simp] theorem flag_frame (c : RecordClass) (n : Nat) (s : State) :
    (flag c n s).model = s.model ∧ (flag c n s).stopCount = s.stopCount ∧
      (flag c n s).segments = s.segments ∧ (flag c n s).valves = s.valves ∧
      (flag c n s).points = s.points ∧ (flag c n s).profiles = s.profiles ∧
      (flag c n s).concentrators = s.concentrators ∧ (flag c n s).incidents = s.incidents ∧
      (flag c n s).plans = s.plans ∧ (flag c n s).outages = s.outages ∧
      (flag c n s).orders = s.orders ∧ (flag c n s).windows = s.windows ∧
      (flag c n s).intake = s.intake ∧ (flag c n s).tracer = s.tracer ∧
      (flag c n s).register = s.register ∧ (flag c n s).dispatch = s.dispatch ∧
      (flag c n s).orderUnit = s.orderUnit ∧ (flag c n s).clock = s.clock ∧
      (flag c n s).port.state = s.port.state ∧ (flag c n s).port.discarded = s.port.discarded ∧
      (flag c n s).port.held = s.port.held ∧ (flag c n s).port.skip = s.port.skip ∧
      (flag c n s).port.sent = s.port.sent ∧ (flag c n s).port.drawn = s.port.drawn ∧
      (flag c n s).pending = s.pending := by
  simp [flag]

@[simp] theorem unflag_frame (c : RecordClass) (n : Nat) (s : State) :
    (unflag c n s).model = s.model ∧ (unflag c n s).stopCount = s.stopCount ∧
      (unflag c n s).segments = s.segments ∧ (unflag c n s).valves = s.valves ∧
      (unflag c n s).points = s.points ∧ (unflag c n s).profiles = s.profiles ∧
      (unflag c n s).concentrators = s.concentrators ∧ (unflag c n s).incidents = s.incidents ∧
      (unflag c n s).plans = s.plans ∧ (unflag c n s).outages = s.outages ∧
      (unflag c n s).orders = s.orders ∧ (unflag c n s).windows = s.windows ∧
      (unflag c n s).intake = s.intake ∧ (unflag c n s).tracer = s.tracer ∧
      (unflag c n s).register = s.register ∧ (unflag c n s).dispatch = s.dispatch ∧
      (unflag c n s).orderUnit = s.orderUnit ∧ (unflag c n s).clock = s.clock ∧
      (unflag c n s).port = s.port ∧ (unflag c n s).pending = s.pending := by
  simp [unflag]

@[simp] theorem flagAll_frame (c : RecordClass) (l : List Nat) (s : State) :
    (flagAll c l s).model = s.model ∧ (flagAll c l s).stopCount = s.stopCount ∧
      (flagAll c l s).segments = s.segments ∧ (flagAll c l s).valves = s.valves ∧
      (flagAll c l s).points = s.points ∧ (flagAll c l s).profiles = s.profiles ∧
      (flagAll c l s).concentrators = s.concentrators ∧ (flagAll c l s).incidents = s.incidents ∧
      (flagAll c l s).plans = s.plans ∧ (flagAll c l s).outages = s.outages ∧
      (flagAll c l s).orders = s.orders ∧ (flagAll c l s).windows = s.windows ∧
      (flagAll c l s).intake = s.intake ∧ (flagAll c l s).tracer = s.tracer ∧
      (flagAll c l s).register = s.register ∧ (flagAll c l s).dispatch = s.dispatch ∧
      (flagAll c l s).orderUnit = s.orderUnit ∧ (flagAll c l s).clock = s.clock ∧
      (flagAll c l s).port.state = s.port.state ∧ (flagAll c l s).port.discarded = s.port.discarded ∧
      (flagAll c l s).port.held = s.port.held ∧ (flagAll c l s).port.skip = s.port.skip ∧
      (flagAll c l s).port.sent = s.port.sent ∧ (flagAll c l s).port.drawn = s.port.drawn ∧
      (flagAll c l s).pending = s.pending := by
  simp [flagAll]

@[simp] theorem mark_frame (c : RecordClass) (n : Nat) (v : Notice) (s : State) :
    (mark c n v s).model = s.model ∧ (mark c n v s).stopCount = s.stopCount ∧
      (mark c n v s).segments = s.segments ∧ (mark c n v s).valves = s.valves ∧
      (mark c n v s).points = s.points ∧ (mark c n v s).profiles = s.profiles ∧
      (mark c n v s).concentrators = s.concentrators ∧ (mark c n v s).incidents = s.incidents ∧
      (mark c n v s).plans = s.plans ∧ (mark c n v s).outages = s.outages ∧
      (mark c n v s).orders = s.orders ∧ (mark c n v s).windows = s.windows ∧
      (mark c n v s).intake = s.intake ∧ (mark c n v s).tracer = s.tracer ∧
      (mark c n v s).register = s.register ∧ (mark c n v s).dispatch = s.dispatch ∧
      (mark c n v s).orderUnit = s.orderUnit ∧ (mark c n v s).clock = s.clock ∧
      (mark c n v s).port.state = s.port.state ∧ (mark c n v s).port.discarded = s.port.discarded ∧
      (mark c n v s).port.held = s.port.held ∧ (mark c n v s).port.skip = s.port.skip ∧
      (mark c n v s).port.sent = s.port.sent ∧ (mark c n v s).port.drawn = s.port.drawn ∧
      (mark c n v s).pending = s.pending := by
  simp [mark]

@[simp] theorem markPlan_frame (n : Nat) (s : State) :
    (markPlan n s).model = s.model ∧ (markPlan n s).stopCount = s.stopCount ∧
      (markPlan n s).segments = s.segments ∧ (markPlan n s).valves = s.valves ∧
      (markPlan n s).points = s.points ∧ (markPlan n s).profiles = s.profiles ∧
      (markPlan n s).concentrators = s.concentrators ∧ (markPlan n s).incidents = s.incidents ∧
      (markPlan n s).plans = s.plans ∧ (markPlan n s).outages = s.outages ∧
      (markPlan n s).orders = s.orders ∧ (markPlan n s).windows = s.windows ∧
      (markPlan n s).intake = s.intake ∧ (markPlan n s).tracer = s.tracer ∧
      (markPlan n s).register = s.register ∧ (markPlan n s).dispatch = s.dispatch ∧
      (markPlan n s).orderUnit = s.orderUnit ∧ (markPlan n s).clock = s.clock ∧
      (markPlan n s).port.state = s.port.state ∧ (markPlan n s).port.discarded = s.port.discarded ∧
      (markPlan n s).port.held = s.port.held ∧ (markPlan n s).port.skip = s.port.skip ∧
      (markPlan n s).port.sent = s.port.sent ∧ (markPlan n s).port.drawn = s.port.drawn ∧
      (markPlan n s).pending = s.pending := by
  simp [markPlan]

@[simp] theorem markValve_frame (n : Nat) (s : State) :
    (markValve n s).model = s.model ∧ (markValve n s).stopCount = s.stopCount ∧
      (markValve n s).segments = s.segments ∧ (markValve n s).valves = s.valves ∧
      (markValve n s).points = s.points ∧ (markValve n s).profiles = s.profiles ∧
      (markValve n s).concentrators = s.concentrators ∧ (markValve n s).incidents = s.incidents ∧
      (markValve n s).plans = s.plans ∧ (markValve n s).outages = s.outages ∧
      (markValve n s).orders = s.orders ∧ (markValve n s).windows = s.windows ∧
      (markValve n s).intake = s.intake ∧ (markValve n s).tracer = s.tracer ∧
      (markValve n s).register = s.register ∧ (markValve n s).dispatch = s.dispatch ∧
      (markValve n s).orderUnit = s.orderUnit ∧ (markValve n s).clock = s.clock ∧
      (markValve n s).port.state = s.port.state ∧ (markValve n s).port.discarded = s.port.discarded ∧
      (markValve n s).port.held = s.port.held ∧ (markValve n s).port.skip = s.port.skip ∧
      (markValve n s).port.sent = s.port.sent ∧ (markValve n s).port.drawn = s.port.drawn ∧
      (markValve n s).pending = s.pending := by
  simp [markValve]

@[simp] theorem markIncident_frame (n : Nat) (s : State) :
    (markIncident n s).model = s.model ∧ (markIncident n s).stopCount = s.stopCount ∧
      (markIncident n s).segments = s.segments ∧ (markIncident n s).valves = s.valves ∧
      (markIncident n s).points = s.points ∧ (markIncident n s).profiles = s.profiles ∧
      (markIncident n s).concentrators = s.concentrators ∧ (markIncident n s).incidents = s.incidents ∧
      (markIncident n s).plans = s.plans ∧ (markIncident n s).outages = s.outages ∧
      (markIncident n s).orders = s.orders ∧ (markIncident n s).windows = s.windows ∧
      (markIncident n s).intake = s.intake ∧ (markIncident n s).tracer = s.tracer ∧
      (markIncident n s).register = s.register ∧ (markIncident n s).dispatch = s.dispatch ∧
      (markIncident n s).orderUnit = s.orderUnit ∧ (markIncident n s).clock = s.clock ∧
      (markIncident n s).port.state = s.port.state ∧ (markIncident n s).port.discarded = s.port.discarded ∧
      (markIncident n s).port.held = s.port.held ∧ (markIncident n s).port.skip = s.port.skip ∧
      (markIncident n s).port.sent = s.port.sent ∧ (markIncident n s).port.drawn = s.port.drawn ∧
      (markIncident n s).pending = s.pending := by
  simp [markIncident]

@[simp] theorem markDispatch_frame (n : Nat) (s : State) :
    (markDispatch n s).model = s.model ∧ (markDispatch n s).stopCount = s.stopCount ∧
      (markDispatch n s).segments = s.segments ∧ (markDispatch n s).valves = s.valves ∧
      (markDispatch n s).points = s.points ∧ (markDispatch n s).profiles = s.profiles ∧
      (markDispatch n s).concentrators = s.concentrators ∧ (markDispatch n s).incidents = s.incidents ∧
      (markDispatch n s).plans = s.plans ∧ (markDispatch n s).outages = s.outages ∧
      (markDispatch n s).orders = s.orders ∧ (markDispatch n s).windows = s.windows ∧
      (markDispatch n s).intake = s.intake ∧ (markDispatch n s).tracer = s.tracer ∧
      (markDispatch n s).register = s.register ∧ (markDispatch n s).dispatch = s.dispatch ∧
      (markDispatch n s).orderUnit = s.orderUnit ∧ (markDispatch n s).clock = s.clock ∧
      (markDispatch n s).port.state = s.port.state ∧ (markDispatch n s).port.discarded = s.port.discarded ∧
      (markDispatch n s).port.held = s.port.held ∧ (markDispatch n s).port.skip = s.port.skip ∧
      (markDispatch n s).port.sent = s.port.sent ∧ (markDispatch n s).port.drawn = s.port.drawn ∧
      (markDispatch n s).pending = s.pending := by
  simp [markDispatch]

@[simp] theorem markPoint_frame (n : Nat) (s : State) :
    (markPoint n s).model = s.model ∧ (markPoint n s).stopCount = s.stopCount ∧
      (markPoint n s).segments = s.segments ∧ (markPoint n s).valves = s.valves ∧
      (markPoint n s).points = s.points ∧ (markPoint n s).profiles = s.profiles ∧
      (markPoint n s).concentrators = s.concentrators ∧ (markPoint n s).incidents = s.incidents ∧
      (markPoint n s).plans = s.plans ∧ (markPoint n s).outages = s.outages ∧
      (markPoint n s).orders = s.orders ∧ (markPoint n s).windows = s.windows ∧
      (markPoint n s).intake = s.intake ∧ (markPoint n s).tracer = s.tracer ∧
      (markPoint n s).register = s.register ∧ (markPoint n s).dispatch = s.dispatch ∧
      (markPoint n s).orderUnit = s.orderUnit ∧ (markPoint n s).clock = s.clock ∧
      (markPoint n s).port.state = s.port.state ∧ (markPoint n s).port.discarded = s.port.discarded ∧
      (markPoint n s).port.held = s.port.held ∧ (markPoint n s).port.skip = s.port.skip ∧
      (markPoint n s).port.sent = s.port.sent ∧ (markPoint n s).port.drawn = s.port.drawn ∧
      (markPoint n s).pending = s.pending := by
  simp [markPoint]

@[simp] theorem setConcentrator_frame (n : Nat) (c : Concentrator) (s : State) :
    (setConcentrator n c s).model = s.model ∧ (setConcentrator n c s).stopCount = s.stopCount ∧
      (setConcentrator n c s).segments = s.segments ∧ (setConcentrator n c s).valves = s.valves ∧
      (setConcentrator n c s).points = s.points ∧ (setConcentrator n c s).profiles = s.profiles ∧
      (setConcentrator n c s).incidents = s.incidents ∧ (setConcentrator n c s).plans = s.plans ∧
      (setConcentrator n c s).outages = s.outages ∧ (setConcentrator n c s).orders = s.orders ∧
      (setConcentrator n c s).windows = s.windows ∧ (setConcentrator n c s).intake = s.intake ∧
      (setConcentrator n c s).tracer = s.tracer ∧ (setConcentrator n c s).register = s.register ∧
      (setConcentrator n c s).dispatch = s.dispatch ∧ (setConcentrator n c s).orderUnit = s.orderUnit ∧
      (setConcentrator n c s).clock = s.clock ∧ (setConcentrator n c s).notices = s.notices ∧
      (setConcentrator n c s).port = s.port ∧ (setConcentrator n c s).pending = s.pending := by
  simp [setConcentrator]

@[simp] theorem clearOnPlace_frame (f : PlaceClear → PlaceClear) (s : State) :
    (clearOnPlace f s).model = s.model ∧ (clearOnPlace f s).stopCount = s.stopCount ∧
      (clearOnPlace f s).segments = s.segments ∧ (clearOnPlace f s).valves = s.valves ∧
      (clearOnPlace f s).points = s.points ∧ (clearOnPlace f s).profiles = s.profiles ∧
      (clearOnPlace f s).concentrators = s.concentrators ∧ (clearOnPlace f s).incidents = s.incidents ∧
      (clearOnPlace f s).plans = s.plans ∧ (clearOnPlace f s).outages = s.outages ∧
      (clearOnPlace f s).orders = s.orders ∧ (clearOnPlace f s).windows = s.windows ∧
      (clearOnPlace f s).intake = s.intake ∧ (clearOnPlace f s).tracer = s.tracer ∧
      (clearOnPlace f s).register = s.register ∧ (clearOnPlace f s).dispatch = s.dispatch ∧
      (clearOnPlace f s).orderUnit = s.orderUnit ∧ (clearOnPlace f s).clock = s.clock ∧
      (clearOnPlace f s).notices = s.notices ∧ (clearOnPlace f s).port.state = s.port.state ∧
      (clearOnPlace f s).port.discarded = s.port.discarded ∧ (clearOnPlace f s).port.held = s.port.held ∧
      (clearOnPlace f s).port.skip = s.port.skip ∧ (clearOnPlace f s).port.sent = s.port.sent ∧
      (clearOnPlace f s).port.drawn = s.port.drawn ∧ (clearOnPlace f s).pending = s.pending := by
  simp [clearOnPlace]

/-! ## Incident Register -/

@[simp] theorem recountIncidents_frame (n : Nat) (s : State) :
    (recountIncidents n s).model = s.model ∧ (recountIncidents n s).stopCount = s.stopCount ∧
      (recountIncidents n s).valves = s.valves ∧ (recountIncidents n s).points = s.points ∧
      (recountIncidents n s).profiles = s.profiles ∧ (recountIncidents n s).concentrators = s.concentrators ∧
      (recountIncidents n s).incidents = s.incidents ∧ (recountIncidents n s).plans = s.plans ∧
      (recountIncidents n s).outages = s.outages ∧ (recountIncidents n s).orders = s.orders ∧
      (recountIncidents n s).windows = s.windows ∧ (recountIncidents n s).intake = s.intake ∧
      (recountIncidents n s).tracer = s.tracer ∧ (recountIncidents n s).register = s.register ∧
      (recountIncidents n s).dispatch = s.dispatch ∧ (recountIncidents n s).orderUnit = s.orderUnit ∧
      (recountIncidents n s).clock = s.clock ∧ (recountIncidents n s).port.state = s.port.state ∧
      (recountIncidents n s).port.discarded = s.port.discarded ∧ (recountIncidents n s).port.held = s.port.held ∧
      (recountIncidents n s).port.skip = s.port.skip ∧ (recountIncidents n s).port.sent = s.port.sent ∧
      (recountIncidents n s).port.drawn = s.port.drawn ∧ (recountIncidents n s).pending = s.pending := by
  simp [recountIncidents]

@[simp] theorem regradeIncident_frame (n : Nat) (s : State) :
    (regradeIncident n s).model = s.model ∧ (regradeIncident n s).stopCount = s.stopCount ∧
      (regradeIncident n s).segments = s.segments ∧ (regradeIncident n s).valves = s.valves ∧
      (regradeIncident n s).points = s.points ∧ (regradeIncident n s).profiles = s.profiles ∧
      (regradeIncident n s).concentrators = s.concentrators ∧ (regradeIncident n s).plans = s.plans ∧
      (regradeIncident n s).outages = s.outages ∧ (regradeIncident n s).orders = s.orders ∧
      (regradeIncident n s).windows = s.windows ∧ (regradeIncident n s).intake = s.intake ∧
      (regradeIncident n s).tracer = s.tracer ∧ (regradeIncident n s).register = s.register ∧
      (regradeIncident n s).dispatch = s.dispatch ∧ (regradeIncident n s).orderUnit = s.orderUnit ∧
      (regradeIncident n s).clock = s.clock ∧ (regradeIncident n s).port.state = s.port.state ∧
      (regradeIncident n s).port.discarded = s.port.discarded ∧ (regradeIncident n s).port.held = s.port.held ∧
      (regradeIncident n s).port.skip = s.port.skip ∧ (regradeIncident n s).port.sent = s.port.sent ∧
      (regradeIncident n s).port.drawn = s.port.drawn ∧ (regradeIncident n s).pending = s.pending := by
  unfold regradeIncident
  repeat' split
  all_goals simp

@[simp] theorem regradeSegment_frame (n : Nat) (s : State) :
    (regradeSegment n s).model = s.model ∧ (regradeSegment n s).stopCount = s.stopCount ∧
      (regradeSegment n s).segments = s.segments ∧ (regradeSegment n s).valves = s.valves ∧
      (regradeSegment n s).points = s.points ∧ (regradeSegment n s).profiles = s.profiles ∧
      (regradeSegment n s).concentrators = s.concentrators ∧ (regradeSegment n s).plans = s.plans ∧
      (regradeSegment n s).outages = s.outages ∧ (regradeSegment n s).orders = s.orders ∧
      (regradeSegment n s).windows = s.windows ∧ (regradeSegment n s).intake = s.intake ∧
      (regradeSegment n s).tracer = s.tracer ∧ (regradeSegment n s).register = s.register ∧
      (regradeSegment n s).dispatch = s.dispatch ∧ (regradeSegment n s).orderUnit = s.orderUnit ∧
      (regradeSegment n s).clock = s.clock ∧ (regradeSegment n s).port.state = s.port.state ∧
      (regradeSegment n s).port.discarded = s.port.discarded ∧ (regradeSegment n s).port.held = s.port.held ∧
      (regradeSegment n s).port.skip = s.port.skip ∧ (regradeSegment n s).port.sent = s.port.sent ∧
      (regradeSegment n s).port.drawn = s.port.drawn ∧ (regradeSegment n s).pending = s.pending := by
  simp [regradeSegment]

@[simp] theorem regradePlanIncident_frame (i : Option Nat) (s : State) :
    (regradePlanIncident i s).model = s.model ∧ (regradePlanIncident i s).stopCount = s.stopCount ∧
      (regradePlanIncident i s).segments = s.segments ∧ (regradePlanIncident i s).valves = s.valves ∧
      (regradePlanIncident i s).points = s.points ∧ (regradePlanIncident i s).profiles = s.profiles ∧
      (regradePlanIncident i s).concentrators = s.concentrators ∧ (regradePlanIncident i s).plans = s.plans ∧
      (regradePlanIncident i s).outages = s.outages ∧ (regradePlanIncident i s).orders = s.orders ∧
      (regradePlanIncident i s).windows = s.windows ∧ (regradePlanIncident i s).intake = s.intake ∧
      (regradePlanIncident i s).tracer = s.tracer ∧ (regradePlanIncident i s).register = s.register ∧
      (regradePlanIncident i s).dispatch = s.dispatch ∧ (regradePlanIncident i s).orderUnit = s.orderUnit ∧
      (regradePlanIncident i s).clock = s.clock ∧ (regradePlanIncident i s).port.state = s.port.state ∧
      (regradePlanIncident i s).port.discarded = s.port.discarded ∧ (regradePlanIncident i s).port.held = s.port.held ∧
      (regradePlanIncident i s).port.skip = s.port.skip ∧ (regradePlanIncident i s).port.sent = s.port.sent ∧
      (regradePlanIncident i s).port.drawn = s.port.drawn ∧ (regradePlanIncident i s).pending = s.pending := by
  unfold regradePlanIncident
  repeat' split
  all_goals simp

@[simp] theorem makeIncident_frame (n : Nat) (i : Incident) (s : State) :
    (makeIncident n i s).model = s.model ∧ (makeIncident n i s).stopCount = s.stopCount ∧
      (makeIncident n i s).valves = s.valves ∧ (makeIncident n i s).points = s.points ∧
      (makeIncident n i s).profiles = s.profiles ∧ (makeIncident n i s).concentrators = s.concentrators ∧
      (makeIncident n i s).plans = s.plans ∧ (makeIncident n i s).outages = s.outages ∧
      (makeIncident n i s).orders = s.orders ∧ (makeIncident n i s).windows = s.windows ∧
      (makeIncident n i s).intake = s.intake ∧ (makeIncident n i s).tracer = s.tracer ∧
      (makeIncident n i s).register = s.register ∧ (makeIncident n i s).dispatch = s.dispatch ∧
      (makeIncident n i s).orderUnit = s.orderUnit ∧ (makeIncident n i s).clock = s.clock ∧
      (makeIncident n i s).port.state = s.port.state ∧ (makeIncident n i s).port.discarded = s.port.discarded ∧
      (makeIncident n i s).port.held = s.port.held ∧ (makeIncident n i s).port.skip = s.port.skip ∧
      (makeIncident n i s).port.sent = s.port.sent ∧ (makeIncident n i s).port.drawn = s.port.drawn ∧
      (makeIncident n i s).pending = s.pending := by
  simp [makeIncident]

@[simp] theorem pressureRequest_frame (n : Nat) (s : State) :
    (pressureRequest n s).model = s.model ∧ (pressureRequest n s).stopCount = s.stopCount ∧
      (pressureRequest n s).valves = s.valves ∧ (pressureRequest n s).points = s.points ∧
      (pressureRequest n s).profiles = s.profiles ∧ (pressureRequest n s).concentrators = s.concentrators ∧
      (pressureRequest n s).plans = s.plans ∧ (pressureRequest n s).outages = s.outages ∧
      (pressureRequest n s).orders = s.orders ∧ (pressureRequest n s).windows = s.windows ∧
      (pressureRequest n s).intake = s.intake ∧ (pressureRequest n s).tracer = s.tracer ∧
      (pressureRequest n s).dispatch = s.dispatch ∧ (pressureRequest n s).orderUnit = s.orderUnit ∧
      (pressureRequest n s).clock = s.clock ∧ (pressureRequest n s).port.state = s.port.state ∧
      (pressureRequest n s).port.discarded = s.port.discarded ∧ (pressureRequest n s).port.held = s.port.held ∧
      (pressureRequest n s).port.skip = s.port.skip ∧ (pressureRequest n s).port.sent = s.port.sent ∧
      (pressureRequest n s).port.drawn = s.port.drawn ∧ (pressureRequest n s).pending = s.pending := by
  unfold pressureRequest
  repeat' split
  all_goals simp

@[simp] theorem setSafety_frame (n : Nat) (f : Safety → Safety) (s : State) :
    (setSafety n f s).model = s.model ∧ (setSafety n f s).stopCount = s.stopCount ∧
      (setSafety n f s).segments = s.segments ∧ (setSafety n f s).valves = s.valves ∧
      (setSafety n f s).points = s.points ∧ (setSafety n f s).profiles = s.profiles ∧
      (setSafety n f s).concentrators = s.concentrators ∧ (setSafety n f s).plans = s.plans ∧
      (setSafety n f s).outages = s.outages ∧ (setSafety n f s).orders = s.orders ∧
      (setSafety n f s).windows = s.windows ∧ (setSafety n f s).intake = s.intake ∧
      (setSafety n f s).tracer = s.tracer ∧ (setSafety n f s).register = s.register ∧
      (setSafety n f s).dispatch = s.dispatch ∧ (setSafety n f s).orderUnit = s.orderUnit ∧
      (setSafety n f s).clock = s.clock ∧ (setSafety n f s).port.state = s.port.state ∧
      (setSafety n f s).port.discarded = s.port.discarded ∧ (setSafety n f s).port.held = s.port.held ∧
      (setSafety n f s).port.skip = s.port.skip ∧ (setSafety n f s).port.sent = s.port.sent ∧
      (setSafety n f s).port.drawn = s.port.drawn ∧ (setSafety n f s).pending = s.pending := by
  unfold setSafety
  repeat' split
  all_goals simp

@[simp] theorem planEvent_frame (e : PlanEvent) (i : Option Nat) (s : State) :
    (planEvent e i s).model = s.model ∧ (planEvent e i s).stopCount = s.stopCount ∧
      (planEvent e i s).segments = s.segments ∧ (planEvent e i s).valves = s.valves ∧
      (planEvent e i s).points = s.points ∧ (planEvent e i s).profiles = s.profiles ∧
      (planEvent e i s).concentrators = s.concentrators ∧ (planEvent e i s).plans = s.plans ∧
      (planEvent e i s).outages = s.outages ∧ (planEvent e i s).orders = s.orders ∧
      (planEvent e i s).windows = s.windows ∧ (planEvent e i s).intake = s.intake ∧
      (planEvent e i s).tracer = s.tracer ∧ (planEvent e i s).register = s.register ∧
      (planEvent e i s).dispatch = s.dispatch ∧ (planEvent e i s).orderUnit = s.orderUnit ∧
      (planEvent e i s).clock = s.clock ∧ (planEvent e i s).port.state = s.port.state ∧
      (planEvent e i s).port.discarded = s.port.discarded ∧ (planEvent e i s).port.held = s.port.held ∧
      (planEvent e i s).port.skip = s.port.skip ∧ (planEvent e i s).port.sent = s.port.sent ∧
      (planEvent e i s).port.drawn = s.port.drawn ∧ (planEvent e i s).pending = s.pending := by
  unfold planEvent
  repeat' split
  all_goals simp

/-! ## Verification Unit -/

@[simp] theorem setVerdict_frame (p : Nat) (v : Verdict) (s : State) :
    (setVerdict p v s).model = s.model ∧ (setVerdict p v s).stopCount = s.stopCount ∧
      (setVerdict p v s).segments = s.segments ∧ (setVerdict p v s).valves = s.valves ∧
      (setVerdict p v s).points = s.points ∧ (setVerdict p v s).profiles = s.profiles ∧
      (setVerdict p v s).concentrators = s.concentrators ∧ (setVerdict p v s).outages = s.outages ∧
      (setVerdict p v s).orders = s.orders ∧ (setVerdict p v s).windows = s.windows ∧
      (setVerdict p v s).intake = s.intake ∧ (setVerdict p v s).tracer = s.tracer ∧
      (setVerdict p v s).register = s.register ∧ (setVerdict p v s).dispatch = s.dispatch ∧
      (setVerdict p v s).orderUnit = s.orderUnit ∧ (setVerdict p v s).clock = s.clock ∧
      (setVerdict p v s).port.state = s.port.state ∧ (setVerdict p v s).port.discarded = s.port.discarded ∧
      (setVerdict p v s).port.held = s.port.held ∧ (setVerdict p v s).port.skip = s.port.skip ∧
      (setVerdict p v s).port.sent = s.port.sent ∧ (setVerdict p v s).port.drawn = s.port.drawn ∧
      (setVerdict p v s).pending = s.pending := by
  unfold setVerdict
  repeat' split
  all_goals simp

@[simp] theorem setTest_frame (p : Nat) (t : DecayTest) (s : State) :
    (setTest p t s).model = s.model ∧ (setTest p t s).stopCount = s.stopCount ∧
      (setTest p t s).segments = s.segments ∧ (setTest p t s).valves = s.valves ∧
      (setTest p t s).points = s.points ∧ (setTest p t s).profiles = s.profiles ∧
      (setTest p t s).concentrators = s.concentrators ∧ (setTest p t s).incidents = s.incidents ∧
      (setTest p t s).outages = s.outages ∧ (setTest p t s).orders = s.orders ∧
      (setTest p t s).windows = s.windows ∧ (setTest p t s).intake = s.intake ∧
      (setTest p t s).tracer = s.tracer ∧ (setTest p t s).register = s.register ∧
      (setTest p t s).dispatch = s.dispatch ∧ (setTest p t s).orderUnit = s.orderUnit ∧
      (setTest p t s).clock = s.clock ∧ (setTest p t s).notices = s.notices ∧
      (setTest p t s).port = s.port ∧ (setTest p t s).pending = s.pending := by
  simp [setTest]

@[simp] theorem startTest_frame (p : Nat) (s : State) :
    (startTest p s).model = s.model ∧ (startTest p s).stopCount = s.stopCount ∧
      (startTest p s).segments = s.segments ∧ (startTest p s).valves = s.valves ∧
      (startTest p s).points = s.points ∧ (startTest p s).profiles = s.profiles ∧
      (startTest p s).concentrators = s.concentrators ∧ (startTest p s).outages = s.outages ∧
      (startTest p s).orders = s.orders ∧ (startTest p s).windows = s.windows ∧
      (startTest p s).intake = s.intake ∧ (startTest p s).tracer = s.tracer ∧
      (startTest p s).register = s.register ∧ (startTest p s).dispatch = s.dispatch ∧
      (startTest p s).orderUnit = s.orderUnit ∧ (startTest p s).clock = s.clock ∧
      (startTest p s).port.state = s.port.state ∧ (startTest p s).port.discarded = s.port.discarded ∧
      (startTest p s).port.held = s.port.held ∧ (startTest p s).port.skip = s.port.skip ∧
      (startTest p s).port.sent = s.port.sent ∧ (startTest p s).port.drawn = s.port.drawn ∧
      (startTest p s).pending = s.pending := by
  unfold startTest
  repeat' split
  all_goals simp

@[simp] theorem dropEntry_frame (n p : Nat) (s : State) :
    (dropEntry n p s).model = s.model ∧ (dropEntry n p s).stopCount = s.stopCount ∧
      (dropEntry n p s).segments = s.segments ∧ (dropEntry n p s).valves = s.valves ∧
      (dropEntry n p s).points = s.points ∧ (dropEntry n p s).profiles = s.profiles ∧
      (dropEntry n p s).concentrators = s.concentrators ∧ (dropEntry n p s).outages = s.outages ∧
      (dropEntry n p s).orders = s.orders ∧ (dropEntry n p s).windows = s.windows ∧
      (dropEntry n p s).intake = s.intake ∧ (dropEntry n p s).tracer = s.tracer ∧
      (dropEntry n p s).register = s.register ∧ (dropEntry n p s).dispatch = s.dispatch ∧
      (dropEntry n p s).orderUnit = s.orderUnit ∧ (dropEntry n p s).clock = s.clock ∧
      (dropEntry n p s).port.state = s.port.state ∧ (dropEntry n p s).port.discarded = s.port.discarded ∧
      (dropEntry n p s).port.held = s.port.held ∧ (dropEntry n p s).port.skip = s.port.skip ∧
      (dropEntry n p s).port.sent = s.port.sent ∧ (dropEntry n p s).port.drawn = s.port.drawn ∧
      (dropEntry n p s).pending = s.pending := by
  unfold dropEntry
  repeat' split
  all_goals simp

@[simp] theorem dropPoint_frame (n : Nat) (s : State) :
    (dropPoint n s).model = s.model ∧ (dropPoint n s).stopCount = s.stopCount ∧
      (dropPoint n s).segments = s.segments ∧ (dropPoint n s).valves = s.valves ∧
      (dropPoint n s).points = s.points ∧ (dropPoint n s).profiles = s.profiles ∧
      (dropPoint n s).concentrators = s.concentrators ∧ (dropPoint n s).outages = s.outages ∧
      (dropPoint n s).orders = s.orders ∧ (dropPoint n s).windows = s.windows ∧
      (dropPoint n s).intake = s.intake ∧ (dropPoint n s).tracer = s.tracer ∧
      (dropPoint n s).register = s.register ∧ (dropPoint n s).dispatch = s.dispatch ∧
      (dropPoint n s).orderUnit = s.orderUnit ∧ (dropPoint n s).clock = s.clock ∧
      (dropPoint n s).port.state = s.port.state ∧ (dropPoint n s).port.discarded = s.port.discarded ∧
      (dropPoint n s).port.held = s.port.held ∧ (dropPoint n s).port.skip = s.port.skip ∧
      (dropPoint n s).port.sent = s.port.sent ∧ (dropPoint n s).port.drawn = s.port.drawn ∧
      (dropPoint n s).pending = s.pending := by
  simp [dropPoint]

@[simp] theorem testReading_frame (n x : Nat) (c : Condition) (p : Nat) (s : State) :
    (testReading n x c p s).model = s.model ∧ (testReading n x c p s).stopCount = s.stopCount ∧
      (testReading n x c p s).segments = s.segments ∧ (testReading n x c p s).valves = s.valves ∧
      (testReading n x c p s).points = s.points ∧ (testReading n x c p s).profiles = s.profiles ∧
      (testReading n x c p s).concentrators = s.concentrators ∧ (testReading n x c p s).outages = s.outages ∧
      (testReading n x c p s).orders = s.orders ∧ (testReading n x c p s).windows = s.windows ∧
      (testReading n x c p s).intake = s.intake ∧ (testReading n x c p s).tracer = s.tracer ∧
      (testReading n x c p s).register = s.register ∧ (testReading n x c p s).dispatch = s.dispatch ∧
      (testReading n x c p s).orderUnit = s.orderUnit ∧ (testReading n x c p s).clock = s.clock ∧
      (testReading n x c p s).port.state = s.port.state ∧ (testReading n x c p s).port.discarded = s.port.discarded ∧
      (testReading n x c p s).port.held = s.port.held ∧ (testReading n x c p s).port.skip = s.port.skip ∧
      (testReading n x c p s).port.sent = s.port.sent ∧ (testReading n x c p s).port.drawn = s.port.drawn ∧
      (testReading n x c p s).pending = s.pending := by
  unfold testReading
  repeat' split
  all_goals simp

@[simp] theorem testReadings_frame (n x : Nat) (c : Condition) (s : State) :
    (testReadings n x c s).model = s.model ∧ (testReadings n x c s).stopCount = s.stopCount ∧
      (testReadings n x c s).segments = s.segments ∧ (testReadings n x c s).valves = s.valves ∧
      (testReadings n x c s).points = s.points ∧ (testReadings n x c s).profiles = s.profiles ∧
      (testReadings n x c s).concentrators = s.concentrators ∧ (testReadings n x c s).outages = s.outages ∧
      (testReadings n x c s).orders = s.orders ∧ (testReadings n x c s).windows = s.windows ∧
      (testReadings n x c s).intake = s.intake ∧ (testReadings n x c s).tracer = s.tracer ∧
      (testReadings n x c s).register = s.register ∧ (testReadings n x c s).dispatch = s.dispatch ∧
      (testReadings n x c s).orderUnit = s.orderUnit ∧ (testReadings n x c s).clock = s.clock ∧
      (testReadings n x c s).port.state = s.port.state ∧ (testReadings n x c s).port.discarded = s.port.discarded ∧
      (testReadings n x c s).port.held = s.port.held ∧ (testReadings n x c s).port.skip = s.port.skip ∧
      (testReadings n x c s).port.sent = s.port.sent ∧ (testReadings n x c s).port.drawn = s.port.drawn ∧
      (testReadings n x c s).pending = s.pending := by
  simp [testReadings]

@[simp] theorem endWindow_frame (p : Nat) (s : State) :
    (endWindow p s).model = s.model ∧ (endWindow p s).stopCount = s.stopCount ∧
      (endWindow p s).segments = s.segments ∧ (endWindow p s).valves = s.valves ∧
      (endWindow p s).points = s.points ∧ (endWindow p s).profiles = s.profiles ∧
      (endWindow p s).concentrators = s.concentrators ∧ (endWindow p s).outages = s.outages ∧
      (endWindow p s).orders = s.orders ∧ (endWindow p s).windows = s.windows ∧
      (endWindow p s).intake = s.intake ∧ (endWindow p s).tracer = s.tracer ∧
      (endWindow p s).register = s.register ∧ (endWindow p s).dispatch = s.dispatch ∧
      (endWindow p s).orderUnit = s.orderUnit ∧ (endWindow p s).clock = s.clock ∧
      (endWindow p s).port.state = s.port.state ∧ (endWindow p s).port.discarded = s.port.discarded ∧
      (endWindow p s).port.held = s.port.held ∧ (endWindow p s).port.skip = s.port.skip ∧
      (endWindow p s).port.sent = s.port.sent ∧ (endWindow p s).port.drawn = s.port.drawn ∧
      (endWindow p s).pending = s.pending := by
  unfold endWindow
  repeat' split
  all_goals simp

@[simp] theorem endWindows_frame (s : State) :
    (endWindows s).model = s.model ∧ (endWindows s).stopCount = s.stopCount ∧
      (endWindows s).segments = s.segments ∧ (endWindows s).valves = s.valves ∧
      (endWindows s).points = s.points ∧ (endWindows s).profiles = s.profiles ∧
      (endWindows s).concentrators = s.concentrators ∧ (endWindows s).outages = s.outages ∧
      (endWindows s).orders = s.orders ∧ (endWindows s).windows = s.windows ∧
      (endWindows s).intake = s.intake ∧ (endWindows s).tracer = s.tracer ∧
      (endWindows s).register = s.register ∧ (endWindows s).dispatch = s.dispatch ∧
      (endWindows s).orderUnit = s.orderUnit ∧ (endWindows s).clock = s.clock ∧
      (endWindows s).port.state = s.port.state ∧ (endWindows s).port.discarded = s.port.discarded ∧
      (endWindows s).port.held = s.port.held ∧ (endWindows s).port.skip = s.port.skip ∧
      (endWindows s).port.sent = s.port.sent ∧ (endWindows s).port.drawn = s.port.drawn ∧
      (endWindows s).pending = s.pending := by
  simp [endWindows]

/-! ## Order Unit -/

@[simp] theorem changeValve_frame (v : Nat) (f : Valve → Valve) (s : State) :
    (changeValve v f s).model = s.model ∧ (changeValve v f s).stopCount = s.stopCount ∧
      (changeValve v f s).segments = s.segments ∧ (changeValve v f s).points = s.points ∧
      (changeValve v f s).profiles = s.profiles ∧ (changeValve v f s).concentrators = s.concentrators ∧
      (changeValve v f s).incidents = s.incidents ∧ (changeValve v f s).plans = s.plans ∧
      (changeValve v f s).outages = s.outages ∧ (changeValve v f s).orders = s.orders ∧
      (changeValve v f s).windows = s.windows ∧ (changeValve v f s).intake = s.intake ∧
      (changeValve v f s).tracer = s.tracer ∧ (changeValve v f s).register = s.register ∧
      (changeValve v f s).dispatch = s.dispatch ∧ (changeValve v f s).orderUnit = s.orderUnit ∧
      (changeValve v f s).clock = s.clock ∧ (changeValve v f s).port.state = s.port.state ∧
      (changeValve v f s).port.discarded = s.port.discarded ∧ (changeValve v f s).port.held = s.port.held ∧
      (changeValve v f s).port.skip = s.port.skip ∧ (changeValve v f s).port.sent = s.port.sent ∧
      (changeValve v f s).port.drawn = s.port.drawn ∧ (changeValve v f s).pending = s.pending := by
  simp [changeValve]

@[simp] theorem queueOrder_frame (v : Nat) (s : State) :
    (queueOrder v s).model = s.model ∧ (queueOrder v s).stopCount = s.stopCount ∧
      (queueOrder v s).segments = s.segments ∧ (queueOrder v s).points = s.points ∧
      (queueOrder v s).profiles = s.profiles ∧ (queueOrder v s).concentrators = s.concentrators ∧
      (queueOrder v s).incidents = s.incidents ∧ (queueOrder v s).plans = s.plans ∧
      (queueOrder v s).outages = s.outages ∧ (queueOrder v s).windows = s.windows ∧
      (queueOrder v s).intake = s.intake ∧ (queueOrder v s).tracer = s.tracer ∧
      (queueOrder v s).register = s.register ∧ (queueOrder v s).dispatch = s.dispatch ∧
      (queueOrder v s).clock = s.clock ∧ (queueOrder v s).port.state = s.port.state ∧
      (queueOrder v s).port.discarded = s.port.discarded ∧ (queueOrder v s).port.held = s.port.held ∧
      (queueOrder v s).port.skip = s.port.skip ∧ (queueOrder v s).port.sent = s.port.sent ∧
      (queueOrder v s).port.drawn = s.port.drawn ∧ (queueOrder v s).pending = s.pending := by
  unfold queueOrder
  repeat' split
  all_goals simp

@[simp] theorem settleOrder_frame (st : OrderStatus) (v : Nat) (s : State) :
    (settleOrder st v s).model = s.model ∧ (settleOrder st v s).stopCount = s.stopCount ∧
      (settleOrder st v s).segments = s.segments ∧ (settleOrder st v s).points = s.points ∧
      (settleOrder st v s).profiles = s.profiles ∧ (settleOrder st v s).concentrators = s.concentrators ∧
      (settleOrder st v s).incidents = s.incidents ∧ (settleOrder st v s).plans = s.plans ∧
      (settleOrder st v s).outages = s.outages ∧ (settleOrder st v s).orders = s.orders ∧
      (settleOrder st v s).windows = s.windows ∧ (settleOrder st v s).intake = s.intake ∧
      (settleOrder st v s).tracer = s.tracer ∧ (settleOrder st v s).register = s.register ∧
      (settleOrder st v s).dispatch = s.dispatch ∧ (settleOrder st v s).orderUnit = s.orderUnit ∧
      (settleOrder st v s).clock = s.clock ∧ (settleOrder st v s).port.state = s.port.state ∧
      (settleOrder st v s).port.discarded = s.port.discarded ∧ (settleOrder st v s).port.held = s.port.held ∧
      (settleOrder st v s).port.skip = s.port.skip ∧ (settleOrder st v s).port.sent = s.port.sent ∧
      (settleOrder st v s).port.drawn = s.port.drawn ∧ (settleOrder st v s).pending = s.pending := by
  simp [settleOrder]

@[simp] theorem removeOrder_frame (a : Valve) (s : State) :
    (removeOrder a s).model = s.model ∧ (removeOrder a s).stopCount = s.stopCount ∧
      (removeOrder a s).segments = s.segments ∧ (removeOrder a s).valves = s.valves ∧
      (removeOrder a s).points = s.points ∧ (removeOrder a s).profiles = s.profiles ∧
      (removeOrder a s).concentrators = s.concentrators ∧ (removeOrder a s).incidents = s.incidents ∧
      (removeOrder a s).plans = s.plans ∧ (removeOrder a s).outages = s.outages ∧
      (removeOrder a s).windows = s.windows ∧ (removeOrder a s).intake = s.intake ∧
      (removeOrder a s).tracer = s.tracer ∧ (removeOrder a s).register = s.register ∧
      (removeOrder a s).dispatch = s.dispatch ∧ (removeOrder a s).orderUnit = s.orderUnit ∧
      (removeOrder a s).clock = s.clock ∧ (removeOrder a s).notices = s.notices ∧
      (removeOrder a s).port = s.port ∧ (removeOrder a s).pending = s.pending := by
  unfold removeOrder
  repeat' split
  all_goals simp

@[simp] theorem queueIfOwed_frame (v : Nat) (s : State) :
    (queueIfOwed v s).model = s.model ∧ (queueIfOwed v s).stopCount = s.stopCount ∧
      (queueIfOwed v s).segments = s.segments ∧ (queueIfOwed v s).points = s.points ∧
      (queueIfOwed v s).profiles = s.profiles ∧ (queueIfOwed v s).concentrators = s.concentrators ∧
      (queueIfOwed v s).incidents = s.incidents ∧ (queueIfOwed v s).plans = s.plans ∧
      (queueIfOwed v s).outages = s.outages ∧ (queueIfOwed v s).windows = s.windows ∧
      (queueIfOwed v s).intake = s.intake ∧ (queueIfOwed v s).tracer = s.tracer ∧
      (queueIfOwed v s).register = s.register ∧ (queueIfOwed v s).dispatch = s.dispatch ∧
      (queueIfOwed v s).clock = s.clock ∧ (queueIfOwed v s).port.state = s.port.state ∧
      (queueIfOwed v s).port.discarded = s.port.discarded ∧ (queueIfOwed v s).port.held = s.port.held ∧
      (queueIfOwed v s).port.skip = s.port.skip ∧ (queueIfOwed v s).port.sent = s.port.sent ∧
      (queueIfOwed v s).port.drawn = s.port.drawn ∧ (queueIfOwed v s).pending = s.pending := by
  unfold queueIfOwed
  repeat' split
  all_goals simp

@[simp] theorem drawWaitingFrom_frame (k : Nat) (s : State) :
    (drawWaitingFrom k s).model = s.model ∧ (drawWaitingFrom k s).stopCount = s.stopCount ∧
      (drawWaitingFrom k s).segments = s.segments ∧ (drawWaitingFrom k s).points = s.points ∧
      (drawWaitingFrom k s).profiles = s.profiles ∧ (drawWaitingFrom k s).concentrators = s.concentrators ∧
      (drawWaitingFrom k s).incidents = s.incidents ∧ (drawWaitingFrom k s).plans = s.plans ∧
      (drawWaitingFrom k s).outages = s.outages ∧ (drawWaitingFrom k s).windows = s.windows ∧
      (drawWaitingFrom k s).intake = s.intake ∧ (drawWaitingFrom k s).tracer = s.tracer ∧
      (drawWaitingFrom k s).register = s.register ∧ (drawWaitingFrom k s).dispatch = s.dispatch ∧
      (drawWaitingFrom k s).clock = s.clock ∧ (drawWaitingFrom k s).port.state = s.port.state ∧
      (drawWaitingFrom k s).port.discarded = s.port.discarded ∧ (drawWaitingFrom k s).port.held = s.port.held ∧
      (drawWaitingFrom k s).port.skip = s.port.skip ∧ (drawWaitingFrom k s).port.sent = s.port.sent ∧
      (drawWaitingFrom k s).port.drawn = s.port.drawn ∧ (drawWaitingFrom k s).pending = s.pending := by
  induction k generalizing s with
  | zero => simp [drawWaitingFrom]
  | succ k ih =>
    unfold drawWaitingFrom
    repeat' split
    all_goals simp [ih]

@[simp] theorem drawWaiting_frame (s : State) :
    (drawWaiting s).model = s.model ∧ (drawWaiting s).stopCount = s.stopCount ∧
      (drawWaiting s).segments = s.segments ∧ (drawWaiting s).points = s.points ∧
      (drawWaiting s).profiles = s.profiles ∧ (drawWaiting s).concentrators = s.concentrators ∧
      (drawWaiting s).incidents = s.incidents ∧ (drawWaiting s).plans = s.plans ∧
      (drawWaiting s).outages = s.outages ∧ (drawWaiting s).windows = s.windows ∧
      (drawWaiting s).intake = s.intake ∧ (drawWaiting s).tracer = s.tracer ∧
      (drawWaiting s).register = s.register ∧ (drawWaiting s).dispatch = s.dispatch ∧
      (drawWaiting s).clock = s.clock ∧ (drawWaiting s).port.state = s.port.state ∧
      (drawWaiting s).port.discarded = s.port.discarded ∧ (drawWaiting s).port.held = s.port.held ∧
      (drawWaiting s).port.skip = s.port.skip ∧ (drawWaiting s).port.sent = s.port.sent ∧
      (drawWaiting s).port.drawn = s.port.drawn ∧ (drawWaiting s).pending = s.pending := by
  simp [drawWaiting]

@[simp] theorem wantedChange_frame (v : Nat) (s : State) :
    (wantedChange v s).model = s.model ∧ (wantedChange v s).stopCount = s.stopCount ∧
      (wantedChange v s).segments = s.segments ∧ (wantedChange v s).points = s.points ∧
      (wantedChange v s).profiles = s.profiles ∧ (wantedChange v s).concentrators = s.concentrators ∧
      (wantedChange v s).incidents = s.incidents ∧ (wantedChange v s).plans = s.plans ∧
      (wantedChange v s).outages = s.outages ∧ (wantedChange v s).windows = s.windows ∧
      (wantedChange v s).intake = s.intake ∧ (wantedChange v s).tracer = s.tracer ∧
      (wantedChange v s).register = s.register ∧ (wantedChange v s).dispatch = s.dispatch ∧
      (wantedChange v s).clock = s.clock ∧ (wantedChange v s).port.state = s.port.state ∧
      (wantedChange v s).port.discarded = s.port.discarded ∧ (wantedChange v s).port.held = s.port.held ∧
      (wantedChange v s).port.skip = s.port.skip ∧ (wantedChange v s).port.sent = s.port.sent ∧
      (wantedChange v s).port.drawn = s.port.drawn ∧ (wantedChange v s).pending = s.pending := by
  unfold wantedChange
  repeat' split
  all_goals simp

@[simp] theorem wantedChanges_frame (l : List Nat) (s : State) :
    (wantedChanges l s).model = s.model ∧ (wantedChanges l s).stopCount = s.stopCount ∧
      (wantedChanges l s).segments = s.segments ∧ (wantedChanges l s).points = s.points ∧
      (wantedChanges l s).profiles = s.profiles ∧ (wantedChanges l s).concentrators = s.concentrators ∧
      (wantedChanges l s).incidents = s.incidents ∧ (wantedChanges l s).plans = s.plans ∧
      (wantedChanges l s).outages = s.outages ∧ (wantedChanges l s).windows = s.windows ∧
      (wantedChanges l s).intake = s.intake ∧ (wantedChanges l s).tracer = s.tracer ∧
      (wantedChanges l s).register = s.register ∧ (wantedChanges l s).dispatch = s.dispatch ∧
      (wantedChanges l s).clock = s.clock ∧ (wantedChanges l s).port.state = s.port.state ∧
      (wantedChanges l s).port.discarded = s.port.discarded ∧ (wantedChanges l s).port.held = s.port.held ∧
      (wantedChanges l s).port.skip = s.port.skip ∧ (wantedChanges l s).port.sent = s.port.sent ∧
      (wantedChanges l s).port.drawn = s.port.drawn ∧ (wantedChanges l s).pending = s.pending := by
  simp [wantedChanges]

@[simp] theorem completeOrder_frame (v : Nat) (a : Valve) (o : Order) (s : State) :
    (completeOrder v a o s).model = s.model ∧ (completeOrder v a o s).stopCount = s.stopCount ∧
      (completeOrder v a o s).segments = s.segments ∧ (completeOrder v a o s).points = s.points ∧
      (completeOrder v a o s).profiles = s.profiles ∧ (completeOrder v a o s).concentrators = s.concentrators ∧
      (completeOrder v a o s).incidents = s.incidents ∧ (completeOrder v a o s).plans = s.plans ∧
      (completeOrder v a o s).outages = s.outages ∧ (completeOrder v a o s).windows = s.windows ∧
      (completeOrder v a o s).intake = s.intake ∧ (completeOrder v a o s).tracer = s.tracer ∧
      (completeOrder v a o s).register = s.register ∧ (completeOrder v a o s).dispatch = s.dispatch ∧
      (completeOrder v a o s).clock = s.clock ∧ (completeOrder v a o s).port.state = s.port.state ∧
      (completeOrder v a o s).port.discarded = s.port.discarded ∧ (completeOrder v a o s).port.held = s.port.held ∧
      (completeOrder v a o s).port.skip = s.port.skip ∧ (completeOrder v a o s).port.sent = s.port.sent ∧
      (completeOrder v a o s).port.drawn = s.port.drawn ∧ (completeOrder v a o s).pending = s.pending := by
  unfold completeOrder
  repeat' split
  all_goals simp

@[simp] theorem failPlans_frame (v : Nat) (s : State) :
    (failPlans v s).model = s.model ∧ (failPlans v s).stopCount = s.stopCount ∧
      (failPlans v s).segments = s.segments ∧ (failPlans v s).valves = s.valves ∧
      (failPlans v s).points = s.points ∧ (failPlans v s).profiles = s.profiles ∧
      (failPlans v s).concentrators = s.concentrators ∧ (failPlans v s).incidents = s.incidents ∧
      (failPlans v s).outages = s.outages ∧ (failPlans v s).orders = s.orders ∧
      (failPlans v s).windows = s.windows ∧ (failPlans v s).intake = s.intake ∧
      (failPlans v s).tracer = s.tracer ∧ (failPlans v s).register = s.register ∧
      (failPlans v s).dispatch = s.dispatch ∧ (failPlans v s).orderUnit = s.orderUnit ∧
      (failPlans v s).clock = s.clock ∧ (failPlans v s).port.state = s.port.state ∧
      (failPlans v s).port.discarded = s.port.discarded ∧ (failPlans v s).port.held = s.port.held ∧
      (failPlans v s).port.skip = s.port.skip ∧ (failPlans v s).port.sent = s.port.sent ∧
      (failPlans v s).port.drawn = s.port.drawn ∧ (failPlans v s).pending = s.pending := by
  simp [failPlans]

@[simp] theorem clearFailed_frame (v : Nat) (s : State) :
    (clearFailed v s).model = s.model ∧ (clearFailed v s).stopCount = s.stopCount ∧
      (clearFailed v s).segments = s.segments ∧ (clearFailed v s).valves = s.valves ∧
      (clearFailed v s).points = s.points ∧ (clearFailed v s).profiles = s.profiles ∧
      (clearFailed v s).concentrators = s.concentrators ∧ (clearFailed v s).incidents = s.incidents ∧
      (clearFailed v s).outages = s.outages ∧ (clearFailed v s).orders = s.orders ∧
      (clearFailed v s).windows = s.windows ∧ (clearFailed v s).intake = s.intake ∧
      (clearFailed v s).tracer = s.tracer ∧ (clearFailed v s).register = s.register ∧
      (clearFailed v s).dispatch = s.dispatch ∧ (clearFailed v s).orderUnit = s.orderUnit ∧
      (clearFailed v s).clock = s.clock ∧ (clearFailed v s).port.state = s.port.state ∧
      (clearFailed v s).port.discarded = s.port.discarded ∧ (clearFailed v s).port.held = s.port.held ∧
      (clearFailed v s).port.skip = s.port.skip ∧ (clearFailed v s).port.sent = s.port.sent ∧
      (clearFailed v s).port.drawn = s.port.drawn ∧ (clearFailed v s).pending = s.pending := by
  simp [clearFailed]

@[simp] theorem timeOutOrder_frame (n : Nat) (s : State) :
    (timeOutOrder n s).model = s.model ∧ (timeOutOrder n s).stopCount = s.stopCount ∧
      (timeOutOrder n s).segments = s.segments ∧ (timeOutOrder n s).points = s.points ∧
      (timeOutOrder n s).profiles = s.profiles ∧ (timeOutOrder n s).concentrators = s.concentrators ∧
      (timeOutOrder n s).incidents = s.incidents ∧ (timeOutOrder n s).outages = s.outages ∧
      (timeOutOrder n s).windows = s.windows ∧ (timeOutOrder n s).intake = s.intake ∧
      (timeOutOrder n s).tracer = s.tracer ∧ (timeOutOrder n s).register = s.register ∧
      (timeOutOrder n s).dispatch = s.dispatch ∧ (timeOutOrder n s).orderUnit = s.orderUnit ∧
      (timeOutOrder n s).clock = s.clock ∧ (timeOutOrder n s).port.state = s.port.state ∧
      (timeOutOrder n s).port.discarded = s.port.discarded ∧ (timeOutOrder n s).port.held = s.port.held ∧
      (timeOutOrder n s).port.skip = s.port.skip ∧ (timeOutOrder n s).port.sent = s.port.sent ∧
      (timeOutOrder n s).port.drawn = s.port.drawn ∧ (timeOutOrder n s).pending = s.pending := by
  unfold timeOutOrder
  repeat' split
  all_goals simp

@[simp] theorem timeOutOrders_frame (s : State) :
    (timeOutOrders s).model = s.model ∧ (timeOutOrders s).stopCount = s.stopCount ∧
      (timeOutOrders s).segments = s.segments ∧ (timeOutOrders s).points = s.points ∧
      (timeOutOrders s).profiles = s.profiles ∧ (timeOutOrders s).concentrators = s.concentrators ∧
      (timeOutOrders s).incidents = s.incidents ∧ (timeOutOrders s).outages = s.outages ∧
      (timeOutOrders s).windows = s.windows ∧ (timeOutOrders s).intake = s.intake ∧
      (timeOutOrders s).tracer = s.tracer ∧ (timeOutOrders s).register = s.register ∧
      (timeOutOrders s).dispatch = s.dispatch ∧ (timeOutOrders s).clock = s.clock ∧
      (timeOutOrders s).port.state = s.port.state ∧ (timeOutOrders s).port.discarded = s.port.discarded ∧
      (timeOutOrders s).port.held = s.port.held ∧ (timeOutOrders s).port.skip = s.port.skip ∧
      (timeOutOrders s).port.sent = s.port.sent ∧ (timeOutOrders s).port.drawn = s.port.drawn ∧
      (timeOutOrders s).pending = s.pending := by
  unfold timeOutOrders
  dsimp only
  split
  all_goals simp

/-! ## Supply Tracer -/

@[simp] theorem trigger_frame (s : State) :
    (trigger s).model = s.model ∧ (trigger s).stopCount = s.stopCount ∧
      (trigger s).segments = s.segments ∧ (trigger s).valves = s.valves ∧
      (trigger s).points = s.points ∧ (trigger s).profiles = s.profiles ∧
      (trigger s).concentrators = s.concentrators ∧ (trigger s).incidents = s.incidents ∧
      (trigger s).plans = s.plans ∧ (trigger s).outages = s.outages ∧
      (trigger s).orders = s.orders ∧ (trigger s).windows = s.windows ∧
      (trigger s).intake = s.intake ∧ (trigger s).register = s.register ∧
      (trigger s).dispatch = s.dispatch ∧ (trigger s).orderUnit = s.orderUnit ∧
      (trigger s).clock = s.clock ∧ (trigger s).notices = s.notices ∧
      (trigger s).port = s.port ∧ (trigger s).pending = s.pending := by
  unfold trigger
  repeat' split
  all_goals simp

@[simp] theorem noteFreed_frame (n : Nat) (s : State) :
    (noteFreed n s).model = s.model ∧ (noteFreed n s).stopCount = s.stopCount ∧
      (noteFreed n s).segments = s.segments ∧ (noteFreed n s).valves = s.valves ∧
      (noteFreed n s).points = s.points ∧ (noteFreed n s).profiles = s.profiles ∧
      (noteFreed n s).concentrators = s.concentrators ∧ (noteFreed n s).incidents = s.incidents ∧
      (noteFreed n s).plans = s.plans ∧ (noteFreed n s).outages = s.outages ∧
      (noteFreed n s).orders = s.orders ∧ (noteFreed n s).windows = s.windows ∧
      (noteFreed n s).intake = s.intake ∧ (noteFreed n s).register = s.register ∧
      (noteFreed n s).dispatch = s.dispatch ∧ (noteFreed n s).orderUnit = s.orderUnit ∧
      (noteFreed n s).clock = s.clock ∧ (noteFreed n s).notices = s.notices ∧
      (noteFreed n s).port = s.port ∧ (noteFreed n s).pending = s.pending := by
  unfold noteFreed
  repeat' split
  all_goals simp

@[simp] theorem retireOutage_frame (n : Nat) (s : State) :
    (retireOutage n s).model = s.model ∧ (retireOutage n s).stopCount = s.stopCount ∧
      (retireOutage n s).segments = s.segments ∧ (retireOutage n s).valves = s.valves ∧
      (retireOutage n s).points = s.points ∧ (retireOutage n s).profiles = s.profiles ∧
      (retireOutage n s).concentrators = s.concentrators ∧ (retireOutage n s).incidents = s.incidents ∧
      (retireOutage n s).plans = s.plans ∧ (retireOutage n s).orders = s.orders ∧
      (retireOutage n s).windows = s.windows ∧ (retireOutage n s).intake = s.intake ∧
      (retireOutage n s).tracer = s.tracer ∧ (retireOutage n s).register = s.register ∧
      (retireOutage n s).dispatch = s.dispatch ∧ (retireOutage n s).orderUnit = s.orderUnit ∧
      (retireOutage n s).clock = s.clock ∧ (retireOutage n s).port.state = s.port.state ∧
      (retireOutage n s).port.discarded = s.port.discarded ∧ (retireOutage n s).port.held = s.port.held ∧
      (retireOutage n s).port.skip = s.port.skip ∧ (retireOutage n s).port.sent = s.port.sent ∧
      (retireOutage n s).port.drawn = s.port.drawn ∧ (retireOutage n s).pending = s.pending := by
  simp [retireOutage]

@[simp] theorem retireEmpty_frame (s : State) :
    (retireEmpty s).model = s.model ∧ (retireEmpty s).stopCount = s.stopCount ∧
      (retireEmpty s).segments = s.segments ∧ (retireEmpty s).valves = s.valves ∧
      (retireEmpty s).points = s.points ∧ (retireEmpty s).profiles = s.profiles ∧
      (retireEmpty s).concentrators = s.concentrators ∧ (retireEmpty s).incidents = s.incidents ∧
      (retireEmpty s).plans = s.plans ∧ (retireEmpty s).orders = s.orders ∧
      (retireEmpty s).windows = s.windows ∧ (retireEmpty s).intake = s.intake ∧
      (retireEmpty s).tracer = s.tracer ∧ (retireEmpty s).register = s.register ∧
      (retireEmpty s).dispatch = s.dispatch ∧ (retireEmpty s).orderUnit = s.orderUnit ∧
      (retireEmpty s).clock = s.clock ∧ (retireEmpty s).port.state = s.port.state ∧
      (retireEmpty s).port.discarded = s.port.discarded ∧ (retireEmpty s).port.held = s.port.held ∧
      (retireEmpty s).port.skip = s.port.skip ∧ (retireEmpty s).port.sent = s.port.sent ∧
      (retireEmpty s).port.drawn = s.port.drawn ∧ (retireEmpty s).pending = s.pending := by
  simp [retireEmpty]

@[simp] theorem recountOutage_frame (n : Nat) (s : State) :
    (recountOutage n s).model = s.model ∧ (recountOutage n s).stopCount = s.stopCount ∧
      (recountOutage n s).segments = s.segments ∧ (recountOutage n s).valves = s.valves ∧
      (recountOutage n s).points = s.points ∧ (recountOutage n s).profiles = s.profiles ∧
      (recountOutage n s).concentrators = s.concentrators ∧ (recountOutage n s).incidents = s.incidents ∧
      (recountOutage n s).plans = s.plans ∧ (recountOutage n s).orders = s.orders ∧
      (recountOutage n s).windows = s.windows ∧ (recountOutage n s).intake = s.intake ∧
      (recountOutage n s).tracer = s.tracer ∧ (recountOutage n s).register = s.register ∧
      (recountOutage n s).dispatch = s.dispatch ∧ (recountOutage n s).orderUnit = s.orderUnit ∧
      (recountOutage n s).clock = s.clock ∧ (recountOutage n s).port.state = s.port.state ∧
      (recountOutage n s).port.discarded = s.port.discarded ∧ (recountOutage n s).port.held = s.port.held ∧
      (recountOutage n s).port.skip = s.port.skip ∧ (recountOutage n s).port.sent = s.port.sent ∧
      (recountOutage n s).port.drawn = s.port.drawn ∧ (recountOutage n s).pending = s.pending := by
  unfold recountOutage
  repeat' split
  all_goals simp

@[simp] theorem recountOutages_frame (s : State) :
    (recountOutages s).model = s.model ∧ (recountOutages s).stopCount = s.stopCount ∧
      (recountOutages s).segments = s.segments ∧ (recountOutages s).valves = s.valves ∧
      (recountOutages s).points = s.points ∧ (recountOutages s).profiles = s.profiles ∧
      (recountOutages s).concentrators = s.concentrators ∧ (recountOutages s).incidents = s.incidents ∧
      (recountOutages s).plans = s.plans ∧ (recountOutages s).orders = s.orders ∧
      (recountOutages s).windows = s.windows ∧ (recountOutages s).intake = s.intake ∧
      (recountOutages s).tracer = s.tracer ∧ (recountOutages s).register = s.register ∧
      (recountOutages s).dispatch = s.dispatch ∧ (recountOutages s).orderUnit = s.orderUnit ∧
      (recountOutages s).clock = s.clock ∧ (recountOutages s).port.state = s.port.state ∧
      (recountOutages s).port.discarded = s.port.discarded ∧ (recountOutages s).port.held = s.port.held ∧
      (recountOutages s).port.skip = s.port.skip ∧ (recountOutages s).port.sent = s.port.sent ∧
      (recountOutages s).port.drawn = s.port.drawn ∧ (recountOutages s).pending = s.pending := by
  simp [recountOutages]

@[simp] theorem publishSupply_frame (inp : PassInputs) (w : List Nat) (s : State) :
    (publishSupply inp w s).model = s.model ∧ (publishSupply inp w s).stopCount = s.stopCount ∧
      (publishSupply inp w s).valves = s.valves ∧ (publishSupply inp w s).points = s.points ∧
      (publishSupply inp w s).profiles = s.profiles ∧ (publishSupply inp w s).concentrators = s.concentrators ∧
      (publishSupply inp w s).incidents = s.incidents ∧ (publishSupply inp w s).plans = s.plans ∧
      (publishSupply inp w s).outages = s.outages ∧ (publishSupply inp w s).orders = s.orders ∧
      (publishSupply inp w s).windows = s.windows ∧ (publishSupply inp w s).intake = s.intake ∧
      (publishSupply inp w s).tracer = s.tracer ∧ (publishSupply inp w s).register = s.register ∧
      (publishSupply inp w s).dispatch = s.dispatch ∧ (publishSupply inp w s).orderUnit = s.orderUnit ∧
      (publishSupply inp w s).clock = s.clock ∧ (publishSupply inp w s).notices = s.notices ∧
      (publishSupply inp w s).port = s.port ∧ (publishSupply inp w s).pending = s.pending := by
  simp [publishSupply]

@[simp] theorem assignIsland_frame (l : List Nat) (o : Option Nat) (s : State) :
    (assignIsland l o s).model = s.model ∧ (assignIsland l o s).stopCount = s.stopCount ∧
      (assignIsland l o s).valves = s.valves ∧ (assignIsland l o s).points = s.points ∧
      (assignIsland l o s).profiles = s.profiles ∧ (assignIsland l o s).concentrators = s.concentrators ∧
      (assignIsland l o s).incidents = s.incidents ∧ (assignIsland l o s).plans = s.plans ∧
      (assignIsland l o s).outages = s.outages ∧ (assignIsland l o s).orders = s.orders ∧
      (assignIsland l o s).windows = s.windows ∧ (assignIsland l o s).intake = s.intake ∧
      (assignIsland l o s).tracer = s.tracer ∧ (assignIsland l o s).register = s.register ∧
      (assignIsland l o s).dispatch = s.dispatch ∧ (assignIsland l o s).orderUnit = s.orderUnit ∧
      (assignIsland l o s).clock = s.clock ∧ (assignIsland l o s).notices = s.notices ∧
      (assignIsland l o s).port = s.port ∧ (assignIsland l o s).pending = s.pending := by
  simp [assignIsland]

@[simp] theorem assignClaims_frame (l : List (List Nat)) (s : State) :
    (assignClaims l s).model = s.model ∧ (assignClaims l s).stopCount = s.stopCount ∧
      (assignClaims l s).valves = s.valves ∧ (assignClaims l s).points = s.points ∧
      (assignClaims l s).profiles = s.profiles ∧ (assignClaims l s).concentrators = s.concentrators ∧
      (assignClaims l s).incidents = s.incidents ∧ (assignClaims l s).plans = s.plans ∧
      (assignClaims l s).outages = s.outages ∧ (assignClaims l s).orders = s.orders ∧
      (assignClaims l s).windows = s.windows ∧ (assignClaims l s).intake = s.intake ∧
      (assignClaims l s).tracer = s.tracer ∧ (assignClaims l s).register = s.register ∧
      (assignClaims l s).dispatch = s.dispatch ∧ (assignClaims l s).orderUnit = s.orderUnit ∧
      (assignClaims l s).clock = s.clock ∧ (assignClaims l s).notices = s.notices ∧
      (assignClaims l s).port = s.port ∧ (assignClaims l s).pending = s.pending := by
  simp [assignClaims]

@[simp] theorem giveRecord_frame (l : List Nat) (s : State) :
    (giveRecord l s).model = s.model ∧ (giveRecord l s).stopCount = s.stopCount ∧
      (giveRecord l s).valves = s.valves ∧ (giveRecord l s).points = s.points ∧
      (giveRecord l s).profiles = s.profiles ∧ (giveRecord l s).concentrators = s.concentrators ∧
      (giveRecord l s).incidents = s.incidents ∧ (giveRecord l s).plans = s.plans ∧
      (giveRecord l s).orders = s.orders ∧ (giveRecord l s).windows = s.windows ∧
      (giveRecord l s).intake = s.intake ∧ (giveRecord l s).tracer = s.tracer ∧
      (giveRecord l s).register = s.register ∧ (giveRecord l s).dispatch = s.dispatch ∧
      (giveRecord l s).orderUnit = s.orderUnit ∧ (giveRecord l s).clock = s.clock ∧
      (giveRecord l s).port.state = s.port.state ∧ (giveRecord l s).port.discarded = s.port.discarded ∧
      (giveRecord l s).port.held = s.port.held ∧ (giveRecord l s).port.skip = s.port.skip ∧
      (giveRecord l s).port.sent = s.port.sent ∧ (giveRecord l s).port.drawn = s.port.drawn ∧
      (giveRecord l s).pending = s.pending := by
  unfold giveRecord
  repeat' split
  all_goals simp

@[simp] theorem assignOutages_frame (l : List (List Nat)) (s : State) :
    (assignOutages l s).model = s.model ∧ (assignOutages l s).stopCount = s.stopCount ∧
      (assignOutages l s).valves = s.valves ∧ (assignOutages l s).points = s.points ∧
      (assignOutages l s).profiles = s.profiles ∧ (assignOutages l s).concentrators = s.concentrators ∧
      (assignOutages l s).incidents = s.incidents ∧ (assignOutages l s).plans = s.plans ∧
      (assignOutages l s).orders = s.orders ∧ (assignOutages l s).windows = s.windows ∧
      (assignOutages l s).intake = s.intake ∧ (assignOutages l s).tracer = s.tracer ∧
      (assignOutages l s).register = s.register ∧ (assignOutages l s).dispatch = s.dispatch ∧
      (assignOutages l s).orderUnit = s.orderUnit ∧ (assignOutages l s).clock = s.clock ∧
      (assignOutages l s).port.state = s.port.state ∧ (assignOutages l s).port.discarded = s.port.discarded ∧
      (assignOutages l s).port.held = s.port.held ∧ (assignOutages l s).port.skip = s.port.skip ∧
      (assignOutages l s).port.sent = s.port.sent ∧ (assignOutages l s).port.drawn = s.port.drawn ∧
      (assignOutages l s).pending = s.pending := by
  simp [assignOutages]

@[simp] theorem endPass_frame (n : Nat) (s : State) :
    (endPass n s).model = s.model ∧ (endPass n s).stopCount = s.stopCount ∧
      (endPass n s).segments = s.segments ∧ (endPass n s).valves = s.valves ∧
      (endPass n s).points = s.points ∧ (endPass n s).profiles = s.profiles ∧
      (endPass n s).concentrators = s.concentrators ∧ (endPass n s).incidents = s.incidents ∧
      (endPass n s).plans = s.plans ∧ (endPass n s).outages = s.outages ∧
      (endPass n s).orders = s.orders ∧ (endPass n s).windows = s.windows ∧
      (endPass n s).intake = s.intake ∧ (endPass n s).register = s.register ∧
      (endPass n s).dispatch = s.dispatch ∧ (endPass n s).orderUnit = s.orderUnit ∧
      (endPass n s).clock = s.clock ∧ (endPass n s).notices = s.notices ∧
      (endPass n s).port = s.port ∧ (endPass n s).pending = s.pending := by
  simp [endPass]

@[simp] theorem publish_frame (inp : PassInputs) (s : State) :
    (publish inp s).model = s.model ∧ (publish inp s).stopCount = s.stopCount ∧
      (publish inp s).valves = s.valves ∧ (publish inp s).points = s.points ∧
      (publish inp s).profiles = s.profiles ∧ (publish inp s).concentrators = s.concentrators ∧
      (publish inp s).plans = s.plans ∧ (publish inp s).orders = s.orders ∧
      (publish inp s).windows = s.windows ∧ (publish inp s).intake = s.intake ∧
      (publish inp s).register = s.register ∧ (publish inp s).dispatch = s.dispatch ∧
      (publish inp s).orderUnit = s.orderUnit ∧ (publish inp s).clock = s.clock ∧
      (publish inp s).port.state = s.port.state ∧ (publish inp s).port.discarded = s.port.discarded ∧
      (publish inp s).port.held = s.port.held ∧ (publish inp s).port.skip = s.port.skip ∧
      (publish inp s).port.sent = s.port.sent ∧ (publish inp s).port.drawn = s.port.drawn ∧
      (publish inp s).pending = s.pending := by
  unfold publish
  dsimp only
  simp

@[simp] theorem publication_frame (s : State) :
    (publication s).model = s.model ∧ (publication s).stopCount = s.stopCount ∧
      (publication s).valves = s.valves ∧ (publication s).points = s.points ∧
      (publication s).profiles = s.profiles ∧ (publication s).concentrators = s.concentrators ∧
      (publication s).plans = s.plans ∧ (publication s).orders = s.orders ∧
      (publication s).windows = s.windows ∧ (publication s).intake = s.intake ∧
      (publication s).register = s.register ∧ (publication s).dispatch = s.dispatch ∧
      (publication s).orderUnit = s.orderUnit ∧ (publication s).clock = s.clock ∧
      (publication s).port.state = s.port.state ∧ (publication s).port.discarded = s.port.discarded ∧
      (publication s).port.held = s.port.held ∧ (publication s).port.skip = s.port.skip ∧
      (publication s).port.sent = s.port.sent ∧ (publication s).port.drawn = s.port.drawn ∧
      (publication s).pending = s.pending := by
  unfold publication
  repeat' split
  all_goals simp

/-! ## Plan Engine -/

@[simp] theorem changeHold_frame (f : Nat → Nat) (s : State) (v : Nat) :
    (changeHold f s v).model = s.model ∧ (changeHold f s v).stopCount = s.stopCount ∧
      (changeHold f s v).segments = s.segments ∧ (changeHold f s v).points = s.points ∧
      (changeHold f s v).profiles = s.profiles ∧ (changeHold f s v).concentrators = s.concentrators ∧
      (changeHold f s v).incidents = s.incidents ∧ (changeHold f s v).plans = s.plans ∧
      (changeHold f s v).outages = s.outages ∧ (changeHold f s v).orders = s.orders ∧
      (changeHold f s v).windows = s.windows ∧ (changeHold f s v).intake = s.intake ∧
      (changeHold f s v).tracer = s.tracer ∧ (changeHold f s v).register = s.register ∧
      (changeHold f s v).dispatch = s.dispatch ∧ (changeHold f s v).orderUnit = s.orderUnit ∧
      (changeHold f s v).clock = s.clock ∧ (changeHold f s v).port.state = s.port.state ∧
      (changeHold f s v).port.discarded = s.port.discarded ∧ (changeHold f s v).port.held = s.port.held ∧
      (changeHold f s v).port.skip = s.port.skip ∧ (changeHold f s v).port.sent = s.port.sent ∧
      (changeHold f s v).port.drawn = s.port.drawn ∧ (changeHold f s v).pending = s.pending := by
  simp [changeHold]

@[simp] theorem changeHolds_frame (r l : List Nat) (s : State) :
    (changeHolds r l s).model = s.model ∧ (changeHolds r l s).stopCount = s.stopCount ∧
      (changeHolds r l s).segments = s.segments ∧ (changeHolds r l s).points = s.points ∧
      (changeHolds r l s).profiles = s.profiles ∧ (changeHolds r l s).concentrators = s.concentrators ∧
      (changeHolds r l s).incidents = s.incidents ∧ (changeHolds r l s).plans = s.plans ∧
      (changeHolds r l s).outages = s.outages ∧ (changeHolds r l s).orders = s.orders ∧
      (changeHolds r l s).windows = s.windows ∧ (changeHolds r l s).intake = s.intake ∧
      (changeHolds r l s).tracer = s.tracer ∧ (changeHolds r l s).register = s.register ∧
      (changeHolds r l s).dispatch = s.dispatch ∧ (changeHolds r l s).orderUnit = s.orderUnit ∧
      (changeHolds r l s).clock = s.clock ∧ (changeHolds r l s).port.state = s.port.state ∧
      (changeHolds r l s).port.discarded = s.port.discarded ∧ (changeHolds r l s).port.held = s.port.held ∧
      (changeHolds r l s).port.skip = s.port.skip ∧ (changeHolds r l s).port.sent = s.port.sent ∧
      (changeHolds r l s).port.drawn = s.port.drawn ∧ (changeHolds r l s).pending = s.pending := by
  simp [changeHolds]

@[simp] theorem transferCore_frame (p : Nat) (s : State) :
    ((transferCore p s).1).model = s.model ∧ ((transferCore p s).1).stopCount = s.stopCount ∧
      ((transferCore p s).1).segments = s.segments ∧ ((transferCore p s).1).points = s.points ∧
      ((transferCore p s).1).profiles = s.profiles ∧ ((transferCore p s).1).concentrators = s.concentrators ∧
      ((transferCore p s).1).outages = s.outages ∧ ((transferCore p s).1).windows = s.windows ∧
      ((transferCore p s).1).intake = s.intake ∧ ((transferCore p s).1).tracer = s.tracer ∧
      ((transferCore p s).1).register = s.register ∧ ((transferCore p s).1).dispatch = s.dispatch ∧
      ((transferCore p s).1).clock = s.clock ∧ ((transferCore p s).1).port.state = s.port.state ∧
      ((transferCore p s).1).port.discarded = s.port.discarded ∧ ((transferCore p s).1).port.held = s.port.held ∧
      ((transferCore p s).1).port.skip = s.port.skip ∧ ((transferCore p s).1).port.sent = s.port.sent ∧
      ((transferCore p s).1).port.drawn = s.port.drawn ∧ ((transferCore p s).1).pending = s.pending := by
  unfold transferCore
  split
  · simp
  · dsimp only
    simp

@[simp] theorem completeRelease_frame (p : Nat) (s : State) :
    (completeRelease p s).model = s.model ∧ (completeRelease p s).stopCount = s.stopCount ∧
      (completeRelease p s).segments = s.segments ∧ (completeRelease p s).valves = s.valves ∧
      (completeRelease p s).points = s.points ∧ (completeRelease p s).profiles = s.profiles ∧
      (completeRelease p s).concentrators = s.concentrators ∧ (completeRelease p s).incidents = s.incidents ∧
      (completeRelease p s).outages = s.outages ∧ (completeRelease p s).orders = s.orders ∧
      (completeRelease p s).windows = s.windows ∧ (completeRelease p s).intake = s.intake ∧
      (completeRelease p s).tracer = s.tracer ∧ (completeRelease p s).register = s.register ∧
      (completeRelease p s).dispatch = s.dispatch ∧ (completeRelease p s).orderUnit = s.orderUnit ∧
      (completeRelease p s).clock = s.clock ∧ (completeRelease p s).port.state = s.port.state ∧
      (completeRelease p s).port.discarded = s.port.discarded ∧ (completeRelease p s).port.held = s.port.held ∧
      (completeRelease p s).port.skip = s.port.skip ∧ (completeRelease p s).port.sent = s.port.sent ∧
      (completeRelease p s).port.drawn = s.port.drawn ∧ (completeRelease p s).pending = s.pending := by
  simp [completeRelease]

@[simp] theorem testRelease_frame (k p : Nat) (s : State) :
    (testRelease k p s).model = s.model ∧ (testRelease k p s).stopCount = s.stopCount ∧
      (testRelease k p s).segments = s.segments ∧ (testRelease k p s).points = s.points ∧
      (testRelease k p s).profiles = s.profiles ∧ (testRelease k p s).concentrators = s.concentrators ∧
      (testRelease k p s).outages = s.outages ∧ (testRelease k p s).windows = s.windows ∧
      (testRelease k p s).intake = s.intake ∧ (testRelease k p s).tracer = s.tracer ∧
      (testRelease k p s).register = s.register ∧ (testRelease k p s).dispatch = s.dispatch ∧
      (testRelease k p s).clock = s.clock ∧ (testRelease k p s).port.state = s.port.state ∧
      (testRelease k p s).port.discarded = s.port.discarded ∧ (testRelease k p s).port.held = s.port.held ∧
      (testRelease k p s).port.skip = s.port.skip ∧ (testRelease k p s).port.sent = s.port.sent ∧
      (testRelease k p s).port.drawn = s.port.drawn ∧ (testRelease k p s).pending = s.pending := by
  induction k generalizing p s with
  | zero => simp [testRelease]
  | succ k ih =>
    unfold testRelease
    repeat' split
    all_goals simp [ih]

@[simp] theorem testPlan_frame (p : Nat) (s : State) :
    (testPlan p s).model = s.model ∧ (testPlan p s).stopCount = s.stopCount ∧
      (testPlan p s).segments = s.segments ∧ (testPlan p s).points = s.points ∧
      (testPlan p s).profiles = s.profiles ∧ (testPlan p s).concentrators = s.concentrators ∧
      (testPlan p s).outages = s.outages ∧ (testPlan p s).windows = s.windows ∧
      (testPlan p s).intake = s.intake ∧ (testPlan p s).tracer = s.tracer ∧
      (testPlan p s).register = s.register ∧ (testPlan p s).dispatch = s.dispatch ∧
      (testPlan p s).clock = s.clock ∧ (testPlan p s).port.state = s.port.state ∧
      (testPlan p s).port.discarded = s.port.discarded ∧ (testPlan p s).port.held = s.port.held ∧
      (testPlan p s).port.skip = s.port.skip ∧ (testPlan p s).port.sent = s.port.sent ∧
      (testPlan p s).port.drawn = s.port.drawn ∧ (testPlan p s).pending = s.pending := by
  simp [testPlan]

@[simp] theorem transfer_frame (p : Nat) (s : State) :
    (transfer p s).model = s.model ∧ (transfer p s).stopCount = s.stopCount ∧
      (transfer p s).segments = s.segments ∧ (transfer p s).points = s.points ∧
      (transfer p s).profiles = s.profiles ∧ (transfer p s).concentrators = s.concentrators ∧
      (transfer p s).outages = s.outages ∧ (transfer p s).windows = s.windows ∧
      (transfer p s).intake = s.intake ∧ (transfer p s).tracer = s.tracer ∧
      (transfer p s).register = s.register ∧ (transfer p s).dispatch = s.dispatch ∧
      (transfer p s).clock = s.clock ∧ (transfer p s).port.state = s.port.state ∧
      (transfer p s).port.discarded = s.port.discarded ∧ (transfer p s).port.held = s.port.held ∧
      (transfer p s).port.skip = s.port.skip ∧ (transfer p s).port.sent = s.port.sent ∧
      (transfer p s).port.drawn = s.port.drawn ∧ (transfer p s).pending = s.pending := by
  simp [transfer]

@[simp] theorem becomeSecured_frame (p : Nat) (s : State) :
    (becomeSecured p s).model = s.model ∧ (becomeSecured p s).stopCount = s.stopCount ∧
      (becomeSecured p s).segments = s.segments ∧ (becomeSecured p s).points = s.points ∧
      (becomeSecured p s).profiles = s.profiles ∧ (becomeSecured p s).concentrators = s.concentrators ∧
      (becomeSecured p s).outages = s.outages ∧ (becomeSecured p s).windows = s.windows ∧
      (becomeSecured p s).intake = s.intake ∧ (becomeSecured p s).tracer = s.tracer ∧
      (becomeSecured p s).register = s.register ∧ (becomeSecured p s).dispatch = s.dispatch ∧
      (becomeSecured p s).clock = s.clock ∧ (becomeSecured p s).port.state = s.port.state ∧
      (becomeSecured p s).port.discarded = s.port.discarded ∧ (becomeSecured p s).port.held = s.port.held ∧
      (becomeSecured p s).port.skip = s.port.skip ∧ (becomeSecured p s).port.sent = s.port.sent ∧
      (becomeSecured p s).port.drawn = s.port.drawn ∧ (becomeSecured p s).pending = s.pending := by
  simp [becomeSecured]

@[simp] theorem returnToIssuing_frame (p : Nat) (q : Plan) (s : State) :
    (returnToIssuing p q s).model = s.model ∧ (returnToIssuing p q s).stopCount = s.stopCount ∧
      (returnToIssuing p q s).segments = s.segments ∧ (returnToIssuing p q s).valves = s.valves ∧
      (returnToIssuing p q s).points = s.points ∧ (returnToIssuing p q s).profiles = s.profiles ∧
      (returnToIssuing p q s).concentrators = s.concentrators ∧ (returnToIssuing p q s).outages = s.outages ∧
      (returnToIssuing p q s).orders = s.orders ∧ (returnToIssuing p q s).windows = s.windows ∧
      (returnToIssuing p q s).intake = s.intake ∧ (returnToIssuing p q s).tracer = s.tracer ∧
      (returnToIssuing p q s).register = s.register ∧ (returnToIssuing p q s).dispatch = s.dispatch ∧
      (returnToIssuing p q s).orderUnit = s.orderUnit ∧ (returnToIssuing p q s).clock = s.clock ∧
      (returnToIssuing p q s).port.state = s.port.state ∧ (returnToIssuing p q s).port.discarded = s.port.discarded ∧
      (returnToIssuing p q s).port.held = s.port.held ∧ (returnToIssuing p q s).port.skip = s.port.skip ∧
      (returnToIssuing p q s).port.sent = s.port.sent ∧ (returnToIssuing p q s).port.drawn = s.port.drawn ∧
      (returnToIssuing p q s).pending = s.pending := by
  simp [returnToIssuing]

@[simp] theorem reevaluate_frame (v p : Nat) (s : State) :
    (reevaluate v p s).model = s.model ∧ (reevaluate v p s).stopCount = s.stopCount ∧
      (reevaluate v p s).segments = s.segments ∧ (reevaluate v p s).points = s.points ∧
      (reevaluate v p s).profiles = s.profiles ∧ (reevaluate v p s).concentrators = s.concentrators ∧
      (reevaluate v p s).outages = s.outages ∧ (reevaluate v p s).windows = s.windows ∧
      (reevaluate v p s).intake = s.intake ∧ (reevaluate v p s).tracer = s.tracer ∧
      (reevaluate v p s).register = s.register ∧ (reevaluate v p s).dispatch = s.dispatch ∧
      (reevaluate v p s).clock = s.clock ∧ (reevaluate v p s).port.state = s.port.state ∧
      (reevaluate v p s).port.discarded = s.port.discarded ∧ (reevaluate v p s).port.held = s.port.held ∧
      (reevaluate v p s).port.skip = s.port.skip ∧ (reevaluate v p s).port.sent = s.port.sent ∧
      (reevaluate v p s).port.drawn = s.port.drawn ∧ (reevaluate v p s).pending = s.pending := by
  unfold reevaluate
  repeat' split
  all_goals simp

@[simp] theorem positionChanged_frame (v : Nat) (s : State) :
    (positionChanged v s).model = s.model ∧ (positionChanged v s).stopCount = s.stopCount ∧
      (positionChanged v s).segments = s.segments ∧ (positionChanged v s).points = s.points ∧
      (positionChanged v s).profiles = s.profiles ∧ (positionChanged v s).concentrators = s.concentrators ∧
      (positionChanged v s).outages = s.outages ∧ (positionChanged v s).windows = s.windows ∧
      (positionChanged v s).intake = s.intake ∧ (positionChanged v s).tracer = s.tracer ∧
      (positionChanged v s).register = s.register ∧ (positionChanged v s).dispatch = s.dispatch ∧
      (positionChanged v s).clock = s.clock ∧ (positionChanged v s).port.state = s.port.state ∧
      (positionChanged v s).port.discarded = s.port.discarded ∧ (positionChanged v s).port.held = s.port.held ∧
      (positionChanged v s).port.skip = s.port.skip ∧ (positionChanged v s).port.sent = s.port.sent ∧
      (positionChanged v s).port.drawn = s.port.drawn ∧ (positionChanged v s).pending = s.pending := by
  simp [positionChanged]

@[simp] theorem operabilityChanged_frame (v : Nat) (s : State) :
    (operabilityChanged v s).model = s.model ∧ (operabilityChanged v s).stopCount = s.stopCount ∧
      (operabilityChanged v s).segments = s.segments ∧ (operabilityChanged v s).points = s.points ∧
      (operabilityChanged v s).profiles = s.profiles ∧ (operabilityChanged v s).concentrators = s.concentrators ∧
      (operabilityChanged v s).outages = s.outages ∧ (operabilityChanged v s).windows = s.windows ∧
      (operabilityChanged v s).intake = s.intake ∧ (operabilityChanged v s).tracer = s.tracer ∧
      (operabilityChanged v s).register = s.register ∧ (operabilityChanged v s).dispatch = s.dispatch ∧
      (operabilityChanged v s).clock = s.clock ∧ (operabilityChanged v s).port.state = s.port.state ∧
      (operabilityChanged v s).port.discarded = s.port.discarded ∧ (operabilityChanged v s).port.held = s.port.held ∧
      (operabilityChanged v s).port.skip = s.port.skip ∧ (operabilityChanged v s).port.sent = s.port.sent ∧
      (operabilityChanged v s).port.drawn = s.port.drawn ∧ (operabilityChanged v s).pending = s.pending := by
  simp [operabilityChanged]

@[simp] theorem release_frame (p : Nat) (s : State) :
    (release p s).model = s.model ∧ (release p s).stopCount = s.stopCount ∧
      (release p s).segments = s.segments ∧ (release p s).points = s.points ∧
      (release p s).profiles = s.profiles ∧ (release p s).concentrators = s.concentrators ∧
      (release p s).outages = s.outages ∧ (release p s).windows = s.windows ∧
      (release p s).intake = s.intake ∧ (release p s).tracer = s.tracer ∧
      (release p s).register = s.register ∧ (release p s).dispatch = s.dispatch ∧
      (release p s).clock = s.clock ∧ (release p s).port.state = s.port.state ∧
      (release p s).port.discarded = s.port.discarded ∧ (release p s).port.held = s.port.held ∧
      (release p s).port.skip = s.port.skip ∧ (release p s).port.sent = s.port.sent ∧
      (release p s).port.drawn = s.port.drawn ∧ (release p s).pending = s.pending := by
  unfold release
  split
  all_goals simp

/-! ## Position reports -/

@[simp] theorem writeReport_frame (v : Nat) (a : Valve) (r : Reported) (s : State) :
    (writeReport v a r s).model = s.model ∧ (writeReport v a r s).stopCount = s.stopCount ∧
      (writeReport v a r s).segments = s.segments ∧ (writeReport v a r s).points = s.points ∧
      (writeReport v a r s).profiles = s.profiles ∧ (writeReport v a r s).concentrators = s.concentrators ∧
      (writeReport v a r s).incidents = s.incidents ∧ (writeReport v a r s).plans = s.plans ∧
      (writeReport v a r s).outages = s.outages ∧ (writeReport v a r s).orders = s.orders ∧
      (writeReport v a r s).windows = s.windows ∧ (writeReport v a r s).intake = s.intake ∧
      (writeReport v a r s).tracer = s.tracer ∧ (writeReport v a r s).register = s.register ∧
      (writeReport v a r s).dispatch = s.dispatch ∧ (writeReport v a r s).orderUnit = s.orderUnit ∧
      (writeReport v a r s).clock = s.clock ∧ (writeReport v a r s).port.state = s.port.state ∧
      (writeReport v a r s).port.discarded = s.port.discarded ∧ (writeReport v a r s).port.held = s.port.held ∧
      (writeReport v a r s).port.skip = s.port.skip ∧ (writeReport v a r s).port.sent = s.port.sent ∧
      (writeReport v a r s).port.drawn = s.port.drawn ∧ (writeReport v a r s).pending = s.pending := by
  simp [writeReport]

@[simp] theorem orderSteps_frame (v : Nat) (a : Valve) (r : Reported) (s : State) :
    (orderSteps v a r s).model = s.model ∧ (orderSteps v a r s).stopCount = s.stopCount ∧
      (orderSteps v a r s).segments = s.segments ∧ (orderSteps v a r s).points = s.points ∧
      (orderSteps v a r s).profiles = s.profiles ∧ (orderSteps v a r s).concentrators = s.concentrators ∧
      (orderSteps v a r s).incidents = s.incidents ∧ (orderSteps v a r s).plans = s.plans ∧
      (orderSteps v a r s).outages = s.outages ∧ (orderSteps v a r s).windows = s.windows ∧
      (orderSteps v a r s).intake = s.intake ∧ (orderSteps v a r s).tracer = s.tracer ∧
      (orderSteps v a r s).register = s.register ∧ (orderSteps v a r s).dispatch = s.dispatch ∧
      (orderSteps v a r s).clock = s.clock ∧ (orderSteps v a r s).port.state = s.port.state ∧
      (orderSteps v a r s).port.discarded = s.port.discarded ∧ (orderSteps v a r s).port.held = s.port.held ∧
      (orderSteps v a r s).port.skip = s.port.skip ∧ (orderSteps v a r s).port.sent = s.port.sent ∧
      (orderSteps v a r s).port.drawn = s.port.drawn ∧ (orderSteps v a r s).pending = s.pending := by
  unfold orderSteps
  repeat' split
  all_goals simp

@[simp] theorem positionReport_frame (v : Nat) (r : Reported) (s : State) :
    (positionReport v r s).model = s.model ∧ (positionReport v r s).stopCount = s.stopCount ∧
      (positionReport v r s).segments = s.segments ∧ (positionReport v r s).points = s.points ∧
      (positionReport v r s).profiles = s.profiles ∧ (positionReport v r s).concentrators = s.concentrators ∧
      (positionReport v r s).outages = s.outages ∧ (positionReport v r s).windows = s.windows ∧
      (positionReport v r s).intake = s.intake ∧ (positionReport v r s).register = s.register ∧
      (positionReport v r s).dispatch = s.dispatch ∧ (positionReport v r s).clock = s.clock ∧
      (positionReport v r s).port.state = s.port.state ∧ (positionReport v r s).port.discarded = s.port.discarded ∧
      (positionReport v r s).port.held = s.port.held ∧ (positionReport v r s).port.skip = s.port.skip ∧
      (positionReport v r s).port.sent = s.port.sent ∧ (positionReport v r s).port.drawn = s.port.drawn ∧
      (positionReport v r s).pending = s.pending := by
  unfold positionReport
  split
  all_goals simp

@[simp] theorem loseValve_frame (v : Nat) (s : State) :
    (loseValve v s).model = s.model ∧ (loseValve v s).stopCount = s.stopCount ∧
      (loseValve v s).segments = s.segments ∧ (loseValve v s).points = s.points ∧
      (loseValve v s).profiles = s.profiles ∧ (loseValve v s).concentrators = s.concentrators ∧
      (loseValve v s).incidents = s.incidents ∧ (loseValve v s).plans = s.plans ∧
      (loseValve v s).outages = s.outages ∧ (loseValve v s).orders = s.orders ∧
      (loseValve v s).windows = s.windows ∧ (loseValve v s).intake = s.intake ∧
      (loseValve v s).tracer = s.tracer ∧ (loseValve v s).register = s.register ∧
      (loseValve v s).dispatch = s.dispatch ∧ (loseValve v s).orderUnit = s.orderUnit ∧
      (loseValve v s).clock = s.clock ∧ (loseValve v s).port.state = s.port.state ∧
      (loseValve v s).port.discarded = s.port.discarded ∧ (loseValve v s).port.held = s.port.held ∧
      (loseValve v s).port.skip = s.port.skip ∧ (loseValve v s).port.sent = s.port.sent ∧
      (loseValve v s).port.drawn = s.port.drawn ∧ (loseValve v s).pending = s.pending := by
  simp [loseValve]

/-! ## Pressure Supervisor -/

@[simp] theorem setCondition_frame (n : Nat) (c : Condition) (s : State) :
    (setCondition n c s).model = s.model ∧ (setCondition n c s).stopCount = s.stopCount ∧
      (setCondition n c s).segments = s.segments ∧ (setCondition n c s).valves = s.valves ∧
      (setCondition n c s).profiles = s.profiles ∧ (setCondition n c s).concentrators = s.concentrators ∧
      (setCondition n c s).outages = s.outages ∧ (setCondition n c s).orders = s.orders ∧
      (setCondition n c s).windows = s.windows ∧ (setCondition n c s).intake = s.intake ∧
      (setCondition n c s).tracer = s.tracer ∧ (setCondition n c s).register = s.register ∧
      (setCondition n c s).dispatch = s.dispatch ∧ (setCondition n c s).orderUnit = s.orderUnit ∧
      (setCondition n c s).clock = s.clock ∧ (setCondition n c s).port.state = s.port.state ∧
      (setCondition n c s).port.discarded = s.port.discarded ∧ (setCondition n c s).port.held = s.port.held ∧
      (setCondition n c s).port.skip = s.port.skip ∧ (setCondition n c s).port.sent = s.port.sent ∧
      (setCondition n c s).port.drawn = s.port.drawn ∧ (setCondition n c s).pending = s.pending := by
  simp [setCondition]

@[simp] theorem applySelection_frame (n : Nat) (c : Option Nat) (s : State) :
    (applySelection n c s).model = s.model ∧ (applySelection n c s).stopCount = s.stopCount ∧
      (applySelection n c s).segments = s.segments ∧ (applySelection n c s).valves = s.valves ∧
      (applySelection n c s).profiles = s.profiles ∧ (applySelection n c s).concentrators = s.concentrators ∧
      (applySelection n c s).outages = s.outages ∧ (applySelection n c s).orders = s.orders ∧
      (applySelection n c s).windows = s.windows ∧ (applySelection n c s).intake = s.intake ∧
      (applySelection n c s).tracer = s.tracer ∧ (applySelection n c s).register = s.register ∧
      (applySelection n c s).dispatch = s.dispatch ∧ (applySelection n c s).orderUnit = s.orderUnit ∧
      (applySelection n c s).clock = s.clock ∧ (applySelection n c s).port.state = s.port.state ∧
      (applySelection n c s).port.discarded = s.port.discarded ∧ (applySelection n c s).port.held = s.port.held ∧
      (applySelection n c s).port.skip = s.port.skip ∧ (applySelection n c s).port.sent = s.port.sent ∧
      (applySelection n c s).port.drawn = s.port.drawn ∧ (applySelection n c s).pending = s.pending := by
  unfold applySelection
  repeat' split
  all_goals simp

@[simp] theorem reselectPoint_frame (r : Option Nat) (n : Nat) (s : State) :
    (reselectPoint r n s).model = s.model ∧ (reselectPoint r n s).stopCount = s.stopCount ∧
      (reselectPoint r n s).segments = s.segments ∧ (reselectPoint r n s).valves = s.valves ∧
      (reselectPoint r n s).profiles = s.profiles ∧ (reselectPoint r n s).concentrators = s.concentrators ∧
      (reselectPoint r n s).outages = s.outages ∧ (reselectPoint r n s).orders = s.orders ∧
      (reselectPoint r n s).windows = s.windows ∧ (reselectPoint r n s).intake = s.intake ∧
      (reselectPoint r n s).tracer = s.tracer ∧ (reselectPoint r n s).register = s.register ∧
      (reselectPoint r n s).dispatch = s.dispatch ∧ (reselectPoint r n s).orderUnit = s.orderUnit ∧
      (reselectPoint r n s).clock = s.clock ∧ (reselectPoint r n s).port.state = s.port.state ∧
      (reselectPoint r n s).port.discarded = s.port.discarded ∧ (reselectPoint r n s).port.held = s.port.held ∧
      (reselectPoint r n s).port.skip = s.port.skip ∧ (reselectPoint r n s).port.sent = s.port.sent ∧
      (reselectPoint r n s).port.drawn = s.port.drawn ∧ (reselectPoint r n s).pending = s.pending := by
  unfold reselectPoint
  repeat' split
  all_goals simp

@[simp] theorem reselect_frame (r : Option Nat) (w : Point → Bool) (s : State) :
    (reselect r w s).model = s.model ∧ (reselect r w s).stopCount = s.stopCount ∧
      (reselect r w s).segments = s.segments ∧ (reselect r w s).valves = s.valves ∧
      (reselect r w s).profiles = s.profiles ∧ (reselect r w s).concentrators = s.concentrators ∧
      (reselect r w s).outages = s.outages ∧ (reselect r w s).orders = s.orders ∧
      (reselect r w s).windows = s.windows ∧ (reselect r w s).intake = s.intake ∧
      (reselect r w s).tracer = s.tracer ∧ (reselect r w s).register = s.register ∧
      (reselect r w s).dispatch = s.dispatch ∧ (reselect r w s).orderUnit = s.orderUnit ∧
      (reselect r w s).clock = s.clock ∧ (reselect r w s).port.state = s.port.state ∧
      (reselect r w s).port.discarded = s.port.discarded ∧ (reselect r w s).port.held = s.port.held ∧
      (reselect r w s).port.skip = s.port.skip ∧ (reselect r w s).port.sent = s.port.sent ∧
      (reselect r w s).port.drawn = s.port.drawn ∧ (reselect r w s).pending = s.pending := by
  simp [reselect]

@[simp] theorem periodChanged_frame (c : Clock) (s : State) :
    (periodChanged c s).model = s.model ∧ (periodChanged c s).stopCount = s.stopCount ∧
      (periodChanged c s).segments = s.segments ∧ (periodChanged c s).valves = s.valves ∧
      (periodChanged c s).profiles = s.profiles ∧ (periodChanged c s).concentrators = s.concentrators ∧
      (periodChanged c s).outages = s.outages ∧ (periodChanged c s).orders = s.orders ∧
      (periodChanged c s).windows = s.windows ∧ (periodChanged c s).intake = s.intake ∧
      (periodChanged c s).tracer = s.tracer ∧ (periodChanged c s).register = s.register ∧
      (periodChanged c s).dispatch = s.dispatch ∧ (periodChanged c s).orderUnit = s.orderUnit ∧
      (periodChanged c s).clock = s.clock ∧ (periodChanged c s).port.state = s.port.state ∧
      (periodChanged c s).port.discarded = s.port.discarded ∧ (periodChanged c s).port.held = s.port.held ∧
      (periodChanged c s).port.skip = s.port.skip ∧ (periodChanged c s).port.sent = s.port.sent ∧
      (periodChanged c s).port.drawn = s.port.drawn ∧ (periodChanged c s).pending = s.pending := by
  simp [periodChanged]

@[simp] theorem firstSelection_frame (n : Nat) (s : State) :
    (firstSelection n s).model = s.model ∧ (firstSelection n s).stopCount = s.stopCount ∧
      (firstSelection n s).segments = s.segments ∧ (firstSelection n s).valves = s.valves ∧
      (firstSelection n s).profiles = s.profiles ∧ (firstSelection n s).concentrators = s.concentrators ∧
      (firstSelection n s).outages = s.outages ∧ (firstSelection n s).orders = s.orders ∧
      (firstSelection n s).windows = s.windows ∧ (firstSelection n s).intake = s.intake ∧
      (firstSelection n s).tracer = s.tracer ∧ (firstSelection n s).register = s.register ∧
      (firstSelection n s).dispatch = s.dispatch ∧ (firstSelection n s).orderUnit = s.orderUnit ∧
      (firstSelection n s).clock = s.clock ∧ (firstSelection n s).port.state = s.port.state ∧
      (firstSelection n s).port.discarded = s.port.discarded ∧ (firstSelection n s).port.held = s.port.held ∧
      (firstSelection n s).port.skip = s.port.skip ∧ (firstSelection n s).port.sent = s.port.sent ∧
      (firstSelection n s).port.drawn = s.port.drawn ∧ (firstSelection n s).pending = s.pending := by
  unfold firstSelection
  repeat' split
  all_goals simp

@[simp] theorem regradeRequest_frame (n : Nat) (s : State) :
    (regradeRequest n s).model = s.model ∧ (regradeRequest n s).stopCount = s.stopCount ∧
      (regradeRequest n s).segments = s.segments ∧ (regradeRequest n s).valves = s.valves ∧
      (regradeRequest n s).points = s.points ∧ (regradeRequest n s).profiles = s.profiles ∧
      (regradeRequest n s).concentrators = s.concentrators ∧ (regradeRequest n s).plans = s.plans ∧
      (regradeRequest n s).outages = s.outages ∧ (regradeRequest n s).orders = s.orders ∧
      (regradeRequest n s).windows = s.windows ∧ (regradeRequest n s).intake = s.intake ∧
      (regradeRequest n s).tracer = s.tracer ∧ (regradeRequest n s).register = s.register ∧
      (regradeRequest n s).dispatch = s.dispatch ∧ (regradeRequest n s).orderUnit = s.orderUnit ∧
      (regradeRequest n s).clock = s.clock ∧ (regradeRequest n s).port.state = s.port.state ∧
      (regradeRequest n s).port.discarded = s.port.discarded ∧ (regradeRequest n s).port.held = s.port.held ∧
      (regradeRequest n s).port.skip = s.port.skip ∧ (regradeRequest n s).port.sent = s.port.sent ∧
      (regradeRequest n s).port.drawn = s.port.drawn ∧ (regradeRequest n s).pending = s.pending := by
  simp [regradeRequest]

@[simp] theorem bandHandOff_frame (n : Nat) (b : Band) (s : State) :
    (bandHandOff n b s).model = s.model ∧ (bandHandOff n b s).stopCount = s.stopCount ∧
      (bandHandOff n b s).valves = s.valves ∧ (bandHandOff n b s).points = s.points ∧
      (bandHandOff n b s).profiles = s.profiles ∧ (bandHandOff n b s).concentrators = s.concentrators ∧
      (bandHandOff n b s).plans = s.plans ∧ (bandHandOff n b s).outages = s.outages ∧
      (bandHandOff n b s).orders = s.orders ∧ (bandHandOff n b s).windows = s.windows ∧
      (bandHandOff n b s).intake = s.intake ∧ (bandHandOff n b s).tracer = s.tracer ∧
      (bandHandOff n b s).dispatch = s.dispatch ∧ (bandHandOff n b s).orderUnit = s.orderUnit ∧
      (bandHandOff n b s).clock = s.clock ∧ (bandHandOff n b s).port.state = s.port.state ∧
      (bandHandOff n b s).port.discarded = s.port.discarded ∧ (bandHandOff n b s).port.held = s.port.held ∧
      (bandHandOff n b s).port.skip = s.port.skip ∧ (bandHandOff n b s).port.sent = s.port.sent ∧
      (bandHandOff n b s).port.drawn = s.port.drawn ∧ (bandHandOff n b s).pending = s.pending := by
  simp [bandHandOff]

@[simp] theorem evaluateBand_frame (n : Nat) (e : Profile) (p m : Nat) (s : State) :
    (evaluateBand n e p m s).model = s.model ∧ (evaluateBand n e p m s).stopCount = s.stopCount ∧
      (evaluateBand n e p m s).valves = s.valves ∧ (evaluateBand n e p m s).profiles = s.profiles ∧
      (evaluateBand n e p m s).concentrators = s.concentrators ∧ (evaluateBand n e p m s).plans = s.plans ∧
      (evaluateBand n e p m s).outages = s.outages ∧ (evaluateBand n e p m s).orders = s.orders ∧
      (evaluateBand n e p m s).windows = s.windows ∧ (evaluateBand n e p m s).intake = s.intake ∧
      (evaluateBand n e p m s).tracer = s.tracer ∧ (evaluateBand n e p m s).dispatch = s.dispatch ∧
      (evaluateBand n e p m s).orderUnit = s.orderUnit ∧ (evaluateBand n e p m s).clock = s.clock ∧
      (evaluateBand n e p m s).port.state = s.port.state ∧ (evaluateBand n e p m s).port.discarded = s.port.discarded ∧
      (evaluateBand n e p m s).port.held = s.port.held ∧ (evaluateBand n e p m s).port.skip = s.port.skip ∧
      (evaluateBand n e p m s).port.sent = s.port.sent ∧ (evaluateBand n e p m s).port.drawn = s.port.drawn ∧
      (evaluateBand n e p m s).pending = s.pending := by
  unfold evaluateBand
  split
  · simp
  · dsimp only
    repeat' split
    all_goals simp

@[simp] theorem applyPressure_frame (n : Nat) (c : Nat × Bool) (m : Nat) (s : State) :
    (applyPressure n c m s).model = s.model ∧ (applyPressure n c m s).stopCount = s.stopCount ∧
      (applyPressure n c m s).valves = s.valves ∧ (applyPressure n c m s).profiles = s.profiles ∧
      (applyPressure n c m s).concentrators = s.concentrators ∧ (applyPressure n c m s).outages = s.outages ∧
      (applyPressure n c m s).orders = s.orders ∧ (applyPressure n c m s).windows = s.windows ∧
      (applyPressure n c m s).intake = s.intake ∧ (applyPressure n c m s).tracer = s.tracer ∧
      (applyPressure n c m s).dispatch = s.dispatch ∧ (applyPressure n c m s).orderUnit = s.orderUnit ∧
      (applyPressure n c m s).clock = s.clock ∧ (applyPressure n c m s).port.state = s.port.state ∧
      (applyPressure n c m s).port.discarded = s.port.discarded ∧ (applyPressure n c m s).port.held = s.port.held ∧
      (applyPressure n c m s).port.skip = s.port.skip ∧ (applyPressure n c m s).port.sent = s.port.sent ∧
      (applyPressure n c m s).port.drawn = s.port.drawn ∧ (applyPressure n c m s).pending = s.pending := by
  unfold applyPressure
  split
  · simp
  · dsimp only
    repeat' split
    all_goals simp

@[simp] theorem reading_frame (n r : Nat) (s : State) :
    (reading n r s).model = s.model ∧ (reading n r s).stopCount = s.stopCount ∧
      (reading n r s).valves = s.valves ∧ (reading n r s).profiles = s.profiles ∧
      (reading n r s).concentrators = s.concentrators ∧ (reading n r s).outages = s.outages ∧
      (reading n r s).orders = s.orders ∧ (reading n r s).windows = s.windows ∧
      (reading n r s).intake = s.intake ∧ (reading n r s).tracer = s.tracer ∧
      (reading n r s).dispatch = s.dispatch ∧ (reading n r s).orderUnit = s.orderUnit ∧
      (reading n r s).clock = s.clock ∧ (reading n r s).port.state = s.port.state ∧
      (reading n r s).port.discarded = s.port.discarded ∧ (reading n r s).port.held = s.port.held ∧
      (reading n r s).port.skip = s.port.skip ∧ (reading n r s).port.sent = s.port.sent ∧
      (reading n r s).port.drawn = s.port.drawn ∧ (reading n r s).pending = s.pending := by
  unfold reading
  repeat' split
  all_goals simp

@[simp] theorem holdReading_frame (n k : Nat) (s : State) :
    (holdReading n k s).model = s.model ∧ (holdReading n k s).stopCount = s.stopCount ∧
      (holdReading n k s).valves = s.valves ∧ (holdReading n k s).profiles = s.profiles ∧
      (holdReading n k s).concentrators = s.concentrators ∧ (holdReading n k s).outages = s.outages ∧
      (holdReading n k s).orders = s.orders ∧ (holdReading n k s).windows = s.windows ∧
      (holdReading n k s).intake = s.intake ∧ (holdReading n k s).tracer = s.tracer ∧
      (holdReading n k s).dispatch = s.dispatch ∧ (holdReading n k s).orderUnit = s.orderUnit ∧
      (holdReading n k s).clock = s.clock ∧ (holdReading n k s).port.state = s.port.state ∧
      (holdReading n k s).port.discarded = s.port.discarded ∧ (holdReading n k s).port.held = s.port.held ∧
      (holdReading n k s).port.skip = s.port.skip ∧ (holdReading n k s).port.sent = s.port.sent ∧
      (holdReading n k s).port.drawn = s.port.drawn ∧ (holdReading n k s).pending = s.pending := by
  unfold holdReading
  repeat' split
  all_goals simp

@[simp] theorem stalePoints_frame (s : State) :
    (stalePoints s).model = s.model ∧ (stalePoints s).stopCount = s.stopCount ∧
      (stalePoints s).segments = s.segments ∧ (stalePoints s).valves = s.valves ∧
      (stalePoints s).profiles = s.profiles ∧ (stalePoints s).concentrators = s.concentrators ∧
      (stalePoints s).outages = s.outages ∧ (stalePoints s).orders = s.orders ∧
      (stalePoints s).windows = s.windows ∧ (stalePoints s).intake = s.intake ∧
      (stalePoints s).tracer = s.tracer ∧ (stalePoints s).register = s.register ∧
      (stalePoints s).dispatch = s.dispatch ∧ (stalePoints s).orderUnit = s.orderUnit ∧
      (stalePoints s).clock = s.clock ∧ (stalePoints s).port.state = s.port.state ∧
      (stalePoints s).port.discarded = s.port.discarded ∧ (stalePoints s).port.held = s.port.held ∧
      (stalePoints s).port.skip = s.port.skip ∧ (stalePoints s).port.sent = s.port.sent ∧
      (stalePoints s).port.drawn = s.port.drawn ∧ (stalePoints s).pending = s.pending := by
  simp [stalePoints]

@[simp] theorem losePoint_frame (n : Nat) (s : State) :
    (losePoint n s).model = s.model ∧ (losePoint n s).stopCount = s.stopCount ∧
      (losePoint n s).segments = s.segments ∧ (losePoint n s).valves = s.valves ∧
      (losePoint n s).profiles = s.profiles ∧ (losePoint n s).concentrators = s.concentrators ∧
      (losePoint n s).outages = s.outages ∧ (losePoint n s).orders = s.orders ∧
      (losePoint n s).windows = s.windows ∧ (losePoint n s).intake = s.intake ∧
      (losePoint n s).tracer = s.tracer ∧ (losePoint n s).register = s.register ∧
      (losePoint n s).dispatch = s.dispatch ∧ (losePoint n s).orderUnit = s.orderUnit ∧
      (losePoint n s).clock = s.clock ∧ (losePoint n s).port.state = s.port.state ∧
      (losePoint n s).port.discarded = s.port.discarded ∧ (losePoint n s).port.held = s.port.held ∧
      (losePoint n s).port.skip = s.port.skip ∧ (losePoint n s).port.sent = s.port.sent ∧
      (losePoint n s).port.drawn = s.port.drawn ∧ (losePoint n s).pending = s.pending := by
  simp [losePoint]

/-! ## Timed work -/

@[simp] theorem markOverdue_frame (n : Nat) (s : State) :
    (markOverdue n s).model = s.model ∧ (markOverdue n s).stopCount = s.stopCount ∧
      (markOverdue n s).segments = s.segments ∧ (markOverdue n s).valves = s.valves ∧
      (markOverdue n s).points = s.points ∧ (markOverdue n s).profiles = s.profiles ∧
      (markOverdue n s).concentrators = s.concentrators ∧ (markOverdue n s).plans = s.plans ∧
      (markOverdue n s).outages = s.outages ∧ (markOverdue n s).orders = s.orders ∧
      (markOverdue n s).windows = s.windows ∧ (markOverdue n s).intake = s.intake ∧
      (markOverdue n s).tracer = s.tracer ∧ (markOverdue n s).register = s.register ∧
      (markOverdue n s).dispatch = s.dispatch ∧ (markOverdue n s).orderUnit = s.orderUnit ∧
      (markOverdue n s).clock = s.clock ∧ (markOverdue n s).port.state = s.port.state ∧
      (markOverdue n s).port.discarded = s.port.discarded ∧ (markOverdue n s).port.held = s.port.held ∧
      (markOverdue n s).port.skip = s.port.skip ∧ (markOverdue n s).port.sent = s.port.sent ∧
      (markOverdue n s).port.drawn = s.port.drawn ∧ (markOverdue n s).pending = s.pending := by
  simp [markOverdue]

@[simp] theorem overdueIncidents_frame (s : State) :
    (overdueIncidents s).model = s.model ∧ (overdueIncidents s).stopCount = s.stopCount ∧
      (overdueIncidents s).segments = s.segments ∧ (overdueIncidents s).valves = s.valves ∧
      (overdueIncidents s).points = s.points ∧ (overdueIncidents s).profiles = s.profiles ∧
      (overdueIncidents s).concentrators = s.concentrators ∧ (overdueIncidents s).plans = s.plans ∧
      (overdueIncidents s).outages = s.outages ∧ (overdueIncidents s).orders = s.orders ∧
      (overdueIncidents s).windows = s.windows ∧ (overdueIncidents s).intake = s.intake ∧
      (overdueIncidents s).tracer = s.tracer ∧ (overdueIncidents s).register = s.register ∧
      (overdueIncidents s).dispatch = s.dispatch ∧ (overdueIncidents s).orderUnit = s.orderUnit ∧
      (overdueIncidents s).clock = s.clock ∧ (overdueIncidents s).port.state = s.port.state ∧
      (overdueIncidents s).port.discarded = s.port.discarded ∧ (overdueIncidents s).port.held = s.port.held ∧
      (overdueIncidents s).port.skip = s.port.skip ∧ (overdueIncidents s).port.sent = s.port.sent ∧
      (overdueIncidents s).port.drawn = s.port.drawn ∧ (overdueIncidents s).pending = s.pending := by
  simp [overdueIncidents]

@[simp] theorem attend_frame (a : Attendance) (n : Nat) (s : State) :
    (attend a n s).model = s.model ∧ (attend a n s).stopCount = s.stopCount ∧
      (attend a n s).segments = s.segments ∧ (attend a n s).valves = s.valves ∧
      (attend a n s).points = s.points ∧ (attend a n s).profiles = s.profiles ∧
      (attend a n s).concentrators = s.concentrators ∧ (attend a n s).plans = s.plans ∧
      (attend a n s).outages = s.outages ∧ (attend a n s).orders = s.orders ∧
      (attend a n s).windows = s.windows ∧ (attend a n s).intake = s.intake ∧
      (attend a n s).tracer = s.tracer ∧ (attend a n s).register = s.register ∧
      (attend a n s).dispatch = s.dispatch ∧ (attend a n s).orderUnit = s.orderUnit ∧
      (attend a n s).clock = s.clock ∧ (attend a n s).port.state = s.port.state ∧
      (attend a n s).port.discarded = s.port.discarded ∧ (attend a n s).port.held = s.port.held ∧
      (attend a n s).port.skip = s.port.skip ∧ (attend a n s).port.sent = s.port.sent ∧
      (attend a n s).port.drawn = s.port.drawn ∧ (attend a n s).pending = s.pending := by
  simp [attend]

@[simp] theorem clearOffer_frame (d : Nat) (s : State) :
    (clearOffer d s).model = s.model ∧ (clearOffer d s).stopCount = s.stopCount ∧
      (clearOffer d s).segments = s.segments ∧ (clearOffer d s).valves = s.valves ∧
      (clearOffer d s).points = s.points ∧ (clearOffer d s).profiles = s.profiles ∧
      (clearOffer d s).concentrators = s.concentrators ∧ (clearOffer d s).incidents = s.incidents ∧
      (clearOffer d s).plans = s.plans ∧ (clearOffer d s).outages = s.outages ∧
      (clearOffer d s).orders = s.orders ∧ (clearOffer d s).windows = s.windows ∧
      (clearOffer d s).intake = s.intake ∧ (clearOffer d s).tracer = s.tracer ∧
      (clearOffer d s).register = s.register ∧ (clearOffer d s).orderUnit = s.orderUnit ∧
      (clearOffer d s).clock = s.clock ∧ (clearOffer d s).notices = s.notices ∧
      (clearOffer d s).port = s.port ∧ (clearOffer d s).pending = s.pending := by
  simp [clearOffer]

@[simp] theorem expireOffer_frame (d : Nat) (s : State) :
    (expireOffer d s).model = s.model ∧ (expireOffer d s).stopCount = s.stopCount ∧
      (expireOffer d s).segments = s.segments ∧ (expireOffer d s).valves = s.valves ∧
      (expireOffer d s).points = s.points ∧ (expireOffer d s).profiles = s.profiles ∧
      (expireOffer d s).concentrators = s.concentrators ∧ (expireOffer d s).plans = s.plans ∧
      (expireOffer d s).outages = s.outages ∧ (expireOffer d s).orders = s.orders ∧
      (expireOffer d s).windows = s.windows ∧ (expireOffer d s).intake = s.intake ∧
      (expireOffer d s).tracer = s.tracer ∧ (expireOffer d s).register = s.register ∧
      (expireOffer d s).orderUnit = s.orderUnit ∧ (expireOffer d s).clock = s.clock ∧
      (expireOffer d s).port.state = s.port.state ∧ (expireOffer d s).port.discarded = s.port.discarded ∧
      (expireOffer d s).port.held = s.port.held ∧ (expireOffer d s).port.skip = s.port.skip ∧
      (expireOffer d s).port.sent = s.port.sent ∧ (expireOffer d s).port.drawn = s.port.drawn ∧
      (expireOffer d s).pending = s.pending := by
  unfold expireOffer
  repeat' split
  all_goals simp

@[simp] theorem expireOffers_frame (s : State) :
    (expireOffers s).model = s.model ∧ (expireOffers s).stopCount = s.stopCount ∧
      (expireOffers s).segments = s.segments ∧ (expireOffers s).valves = s.valves ∧
      (expireOffers s).points = s.points ∧ (expireOffers s).profiles = s.profiles ∧
      (expireOffers s).concentrators = s.concentrators ∧ (expireOffers s).plans = s.plans ∧
      (expireOffers s).outages = s.outages ∧ (expireOffers s).orders = s.orders ∧
      (expireOffers s).windows = s.windows ∧ (expireOffers s).intake = s.intake ∧
      (expireOffers s).tracer = s.tracer ∧ (expireOffers s).register = s.register ∧
      (expireOffers s).orderUnit = s.orderUnit ∧ (expireOffers s).clock = s.clock ∧
      (expireOffers s).port.state = s.port.state ∧ (expireOffers s).port.discarded = s.port.discarded ∧
      (expireOffers s).port.held = s.port.held ∧ (expireOffers s).port.skip = s.port.skip ∧
      (expireOffers s).port.sent = s.port.sent ∧ (expireOffers s).port.drawn = s.port.drawn ∧
      (expireOffers s).pending = s.pending := by
  simp [expireOffers]

@[simp] theorem workOf_frame (w : TimedWork) (s : State) :
    (workOf w s).model = s.model ∧ (workOf w s).stopCount = s.stopCount ∧
      (workOf w s).segments = s.segments ∧ (workOf w s).profiles = s.profiles ∧
      (workOf w s).concentrators = s.concentrators ∧ (workOf w s).outages = s.outages ∧
      (workOf w s).windows = s.windows ∧ (workOf w s).intake = s.intake ∧
      (workOf w s).tracer = s.tracer ∧ (workOf w s).register = s.register ∧
      (workOf w s).clock = s.clock ∧ (workOf w s).port.state = s.port.state ∧
      (workOf w s).port.discarded = s.port.discarded ∧ (workOf w s).port.held = s.port.held ∧
      (workOf w s).port.skip = s.port.skip ∧ (workOf w s).port.sent = s.port.sent ∧
      (workOf w s).port.drawn = s.port.drawn ∧ (workOf w s).pending = s.pending := by
  cases w <;> simp [workOf]

@[simp] theorem doWork_frame (w : TimedWork) (s : State) :
    (doWork w s).model = s.model ∧ (doWork w s).stopCount = s.stopCount ∧
      (doWork w s).segments = s.segments ∧ (doWork w s).profiles = s.profiles ∧
      (doWork w s).concentrators = s.concentrators ∧ (doWork w s).outages = s.outages ∧
      (doWork w s).windows = s.windows ∧ (doWork w s).intake = s.intake ∧
      (doWork w s).tracer = s.tracer ∧ (doWork w s).register = s.register ∧
      (doWork w s).port.state = s.port.state ∧ (doWork w s).port.discarded = s.port.discarded ∧
      (doWork w s).port.held = s.port.held ∧ (doWork w s).port.skip = s.port.skip ∧
      (doWork w s).port.sent = s.port.sent ∧ (doWork w s).port.drawn = s.port.drawn ∧
      (doWork w s).pending = s.pending := by
  simp [doWork]

@[simp] theorem settle_frame (l : List TimedWork) (s : State) :
    (settle l s).model = s.model ∧ (settle l s).stopCount = s.stopCount ∧
      (settle l s).segments = s.segments ∧ (settle l s).profiles = s.profiles ∧
      (settle l s).concentrators = s.concentrators ∧ (settle l s).outages = s.outages ∧
      (settle l s).windows = s.windows ∧ (settle l s).intake = s.intake ∧
      (settle l s).tracer = s.tracer ∧ (settle l s).register = s.register ∧
      (settle l s).port.state = s.port.state ∧ (settle l s).port.discarded = s.port.discarded ∧
      (settle l s).port.held = s.port.held ∧ (settle l s).port.skip = s.port.skip ∧
      (settle l s).port.sent = s.port.sent ∧ (settle l s).port.drawn = s.port.drawn ∧
      (settle l s).pending = s.pending := by
  simp [settle]

/-! ## Receiver -/

@[simp] theorem updReport_frame (f : IntakeReport → IntakeReport) (s : State) :
    (updReport f s).model = s.model ∧ (updReport f s).stopCount = s.stopCount ∧
      (updReport f s).segments = s.segments ∧ (updReport f s).valves = s.valves ∧
      (updReport f s).points = s.points ∧ (updReport f s).profiles = s.profiles ∧
      (updReport f s).concentrators = s.concentrators ∧ (updReport f s).incidents = s.incidents ∧
      (updReport f s).plans = s.plans ∧ (updReport f s).outages = s.outages ∧
      (updReport f s).orders = s.orders ∧ (updReport f s).windows = s.windows ∧
      (updReport f s).tracer = s.tracer ∧ (updReport f s).register = s.register ∧
      (updReport f s).dispatch = s.dispatch ∧ (updReport f s).orderUnit = s.orderUnit ∧
      (updReport f s).clock = s.clock ∧ (updReport f s).notices = s.notices ∧
      (updReport f s).port = s.port ∧ (updReport f s).pending = s.pending := by
  unfold updReport
  repeat' split
  all_goals simp

@[simp] theorem badIndication_frame (s : State) :
    (badIndication s).model = s.model ∧ (badIndication s).stopCount = s.stopCount ∧
      (badIndication s).segments = s.segments ∧ (badIndication s).valves = s.valves ∧
      (badIndication s).points = s.points ∧ (badIndication s).profiles = s.profiles ∧
      (badIndication s).concentrators = s.concentrators ∧ (badIndication s).incidents = s.incidents ∧
      (badIndication s).plans = s.plans ∧ (badIndication s).outages = s.outages ∧
      (badIndication s).orders = s.orders ∧ (badIndication s).windows = s.windows ∧
      (badIndication s).tracer = s.tracer ∧ (badIndication s).register = s.register ∧
      (badIndication s).dispatch = s.dispatch ∧ (badIndication s).orderUnit = s.orderUnit ∧
      (badIndication s).clock = s.clock ∧ (badIndication s).port.state = s.port.state ∧
      (badIndication s).port.discarded = s.port.discarded ∧ (badIndication s).port.held = s.port.held ∧
      (badIndication s).port.skip = s.port.skip ∧ (badIndication s).port.sent = s.port.sent ∧
      (badIndication s).port.drawn = s.port.drawn ∧ (badIndication s).pending = s.pending := by
  simp [badIndication]

@[simp] theorem strayTag_frame (t : Tag) (s : State) :
    (strayTag t s).model = s.model ∧ (strayTag t s).stopCount = s.stopCount ∧
      (strayTag t s).segments = s.segments ∧ (strayTag t s).valves = s.valves ∧
      (strayTag t s).points = s.points ∧ (strayTag t s).profiles = s.profiles ∧
      (strayTag t s).concentrators = s.concentrators ∧ (strayTag t s).incidents = s.incidents ∧
      (strayTag t s).plans = s.plans ∧ (strayTag t s).outages = s.outages ∧
      (strayTag t s).orders = s.orders ∧ (strayTag t s).windows = s.windows ∧
      (strayTag t s).tracer = s.tracer ∧ (strayTag t s).register = s.register ∧
      (strayTag t s).dispatch = s.dispatch ∧ (strayTag t s).orderUnit = s.orderUnit ∧
      (strayTag t s).clock = s.clock ∧ (strayTag t s).port.state = s.port.state ∧
      (strayTag t s).port.discarded = s.port.discarded ∧ (strayTag t s).port.held = s.port.held ∧
      (strayTag t s).port.skip = s.port.skip ∧ (strayTag t s).port.sent = s.port.sent ∧
      (strayTag t s).port.drawn = s.port.drawn ∧ (strayTag t s).pending = s.pending := by
  unfold strayTag
  dsimp only
  repeat' split
  all_goals simp

@[simp] theorem setReceiver_frame (r : Receiver) (s : State) :
    (setReceiver r s).model = s.model ∧ (setReceiver r s).stopCount = s.stopCount ∧
      (setReceiver r s).segments = s.segments ∧ (setReceiver r s).valves = s.valves ∧
      (setReceiver r s).points = s.points ∧ (setReceiver r s).profiles = s.profiles ∧
      (setReceiver r s).concentrators = s.concentrators ∧ (setReceiver r s).incidents = s.incidents ∧
      (setReceiver r s).plans = s.plans ∧ (setReceiver r s).outages = s.outages ∧
      (setReceiver r s).orders = s.orders ∧ (setReceiver r s).windows = s.windows ∧
      (setReceiver r s).tracer = s.tracer ∧ (setReceiver r s).register = s.register ∧
      (setReceiver r s).dispatch = s.dispatch ∧ (setReceiver r s).orderUnit = s.orderUnit ∧
      (setReceiver r s).clock = s.clock ∧ (setReceiver r s).notices = s.notices ∧
      (setReceiver r s).port = s.port ∧ (setReceiver r s).pending = s.pending := by
  simp [setReceiver]

@[simp] theorem resetLink_frame (s : State) :
    (resetLink s).model = s.model ∧ (resetLink s).stopCount = s.stopCount ∧
      (resetLink s).segments = s.segments ∧ (resetLink s).valves = s.valves ∧
      (resetLink s).points = s.points ∧ (resetLink s).profiles = s.profiles ∧
      (resetLink s).concentrators = s.concentrators ∧ (resetLink s).incidents = s.incidents ∧
      (resetLink s).plans = s.plans ∧ (resetLink s).outages = s.outages ∧
      (resetLink s).orders = s.orders ∧ (resetLink s).windows = s.windows ∧
      (resetLink s).tracer = s.tracer ∧ (resetLink s).register = s.register ∧
      (resetLink s).dispatch = s.dispatch ∧ (resetLink s).orderUnit = s.orderUnit ∧
      (resetLink s).clock = s.clock ∧ (resetLink s).notices = s.notices ∧
      (resetLink s).port = s.port ∧ (resetLink s).pending = s.pending := by
  simp [resetLink]

@[simp] theorem completeItem_frame (l : List Byte) (s : State) :
    (completeItem l s).model = s.model ∧ (completeItem l s).stopCount = s.stopCount ∧
      (completeItem l s).segments = s.segments ∧ (completeItem l s).valves = s.valves ∧
      (completeItem l s).points = s.points ∧ (completeItem l s).profiles = s.profiles ∧
      (completeItem l s).concentrators = s.concentrators ∧ (completeItem l s).incidents = s.incidents ∧
      (completeItem l s).plans = s.plans ∧ (completeItem l s).outages = s.outages ∧
      (completeItem l s).orders = s.orders ∧ (completeItem l s).windows = s.windows ∧
      (completeItem l s).tracer = s.tracer ∧ (completeItem l s).register = s.register ∧
      (completeItem l s).dispatch = s.dispatch ∧ (completeItem l s).orderUnit = s.orderUnit ∧
      (completeItem l s).clock = s.clock ∧ (completeItem l s).notices = s.notices ∧
      (completeItem l s).port = s.port ∧ (completeItem l s).pending = s.pending := by
  simp [completeItem]

@[simp] theorem beginItem_frame (b : Byte) (s : State) :
    (beginItem b s).model = s.model ∧ (beginItem b s).stopCount = s.stopCount ∧
      (beginItem b s).segments = s.segments ∧ (beginItem b s).valves = s.valves ∧
      (beginItem b s).points = s.points ∧ (beginItem b s).profiles = s.profiles ∧
      (beginItem b s).concentrators = s.concentrators ∧ (beginItem b s).incidents = s.incidents ∧
      (beginItem b s).plans = s.plans ∧ (beginItem b s).outages = s.outages ∧
      (beginItem b s).orders = s.orders ∧ (beginItem b s).windows = s.windows ∧
      (beginItem b s).tracer = s.tracer ∧ (beginItem b s).register = s.register ∧
      (beginItem b s).dispatch = s.dispatch ∧ (beginItem b s).orderUnit = s.orderUnit ∧
      (beginItem b s).clock = s.clock ∧ (beginItem b s).port.state = s.port.state ∧
      (beginItem b s).port.discarded = s.port.discarded ∧ (beginItem b s).port.held = s.port.held ∧
      (beginItem b s).port.skip = s.port.skip ∧ (beginItem b s).port.sent = s.port.sent ∧
      (beginItem b s).port.drawn = s.port.drawn ∧ (beginItem b s).pending = s.pending := by
  simp [beginItem]

@[simp] theorem loseFraming_frame (s : State) :
    (loseFraming s).model = s.model ∧ (loseFraming s).stopCount = s.stopCount ∧
      (loseFraming s).segments = s.segments ∧ (loseFraming s).valves = s.valves ∧
      (loseFraming s).points = s.points ∧ (loseFraming s).profiles = s.profiles ∧
      (loseFraming s).concentrators = s.concentrators ∧ (loseFraming s).incidents = s.incidents ∧
      (loseFraming s).plans = s.plans ∧ (loseFraming s).outages = s.outages ∧
      (loseFraming s).orders = s.orders ∧ (loseFraming s).windows = s.windows ∧
      (loseFraming s).tracer = s.tracer ∧ (loseFraming s).register = s.register ∧
      (loseFraming s).dispatch = s.dispatch ∧ (loseFraming s).orderUnit = s.orderUnit ∧
      (loseFraming s).clock = s.clock ∧ (loseFraming s).port.state = s.port.state ∧
      (loseFraming s).port.discarded = s.port.discarded ∧ (loseFraming s).port.held = s.port.held ∧
      (loseFraming s).port.skip = s.port.skip ∧ (loseFraming s).port.sent = s.port.sent ∧
      (loseFraming s).port.drawn = s.port.drawn ∧ (loseFraming s).pending = s.pending := by
  simp [loseFraming]

@[simp] theorem receiveByte_frame (m : Bool) (b : Byte) (s : State) :
    (receiveByte m b s).model = s.model ∧ (receiveByte m b s).stopCount = s.stopCount ∧
      (receiveByte m b s).segments = s.segments ∧ (receiveByte m b s).valves = s.valves ∧
      (receiveByte m b s).points = s.points ∧ (receiveByte m b s).profiles = s.profiles ∧
      (receiveByte m b s).concentrators = s.concentrators ∧ (receiveByte m b s).incidents = s.incidents ∧
      (receiveByte m b s).plans = s.plans ∧ (receiveByte m b s).outages = s.outages ∧
      (receiveByte m b s).orders = s.orders ∧ (receiveByte m b s).windows = s.windows ∧
      (receiveByte m b s).tracer = s.tracer ∧ (receiveByte m b s).register = s.register ∧
      (receiveByte m b s).dispatch = s.dispatch ∧ (receiveByte m b s).orderUnit = s.orderUnit ∧
      (receiveByte m b s).clock = s.clock ∧ (receiveByte m b s).port.state = s.port.state ∧
      (receiveByte m b s).port.discarded = s.port.discarded ∧ (receiveByte m b s).port.held = s.port.held ∧
      (receiveByte m b s).port.skip = s.port.skip ∧ (receiveByte m b s).port.sent = s.port.sent ∧
      (receiveByte m b s).port.drawn = s.port.drawn ∧ (receiveByte m b s).pending = s.pending := by
  unfold receiveByte
  repeat' split
  all_goals simp

@[simp] theorem setLink_frame (n : Nat) (l : LinkState) (s : State) :
    (setLink n l s).model = s.model ∧ (setLink n l s).stopCount = s.stopCount ∧
      (setLink n l s).segments = s.segments ∧ (setLink n l s).valves = s.valves ∧
      (setLink n l s).points = s.points ∧ (setLink n l s).profiles = s.profiles ∧
      (setLink n l s).incidents = s.incidents ∧ (setLink n l s).plans = s.plans ∧
      (setLink n l s).outages = s.outages ∧ (setLink n l s).orders = s.orders ∧
      (setLink n l s).windows = s.windows ∧ (setLink n l s).intake = s.intake ∧
      (setLink n l s).tracer = s.tracer ∧ (setLink n l s).register = s.register ∧
      (setLink n l s).dispatch = s.dispatch ∧ (setLink n l s).orderUnit = s.orderUnit ∧
      (setLink n l s).clock = s.clock ∧ (setLink n l s).port.state = s.port.state ∧
      (setLink n l s).port.discarded = s.port.discarded ∧ (setLink n l s).port.held = s.port.held ∧
      (setLink n l s).port.skip = s.port.skip ∧ (setLink n l s).port.sent = s.port.sent ∧
      (setLink n l s).port.drawn = s.port.drawn ∧ (setLink n l s).pending = s.pending := by
  simp [setLink]

@[simp] theorem linkDown_frame (n : Nat) (s : State) :
    (linkDown n s).model = s.model ∧ (linkDown n s).stopCount = s.stopCount ∧
      (linkDown n s).segments = s.segments ∧ (linkDown n s).profiles = s.profiles ∧
      (linkDown n s).outages = s.outages ∧ (linkDown n s).orders = s.orders ∧
      (linkDown n s).windows = s.windows ∧ (linkDown n s).intake = s.intake ∧
      (linkDown n s).tracer = s.tracer ∧ (linkDown n s).register = s.register ∧
      (linkDown n s).dispatch = s.dispatch ∧ (linkDown n s).orderUnit = s.orderUnit ∧
      (linkDown n s).clock = s.clock ∧ (linkDown n s).port.state = s.port.state ∧
      (linkDown n s).port.discarded = s.port.discarded ∧ (linkDown n s).port.held = s.port.held ∧
      (linkDown n s).port.skip = s.port.skip ∧ (linkDown n s).port.sent = s.port.sent ∧
      (linkDown n s).port.drawn = s.port.drawn ∧ (linkDown n s).pending = s.pending := by
  simp [linkDown]

/-! ## Parts of the actions -/

@[simp] theorem opening_frame (s : State) :
    (opening s).stopCount = s.stopCount ∧ (opening s).valves = s.valves ∧
      (opening s).profiles = s.profiles ∧ (opening s).concentrators = s.concentrators ∧
      (opening s).outages = s.outages ∧ (opening s).orders = s.orders ∧
      (opening s).windows = s.windows ∧ (opening s).intake = s.intake ∧
      (opening s).register = s.register ∧ (opening s).dispatch = s.dispatch ∧
      (opening s).orderUnit = s.orderUnit ∧ (opening s).clock = s.clock ∧
      (opening s).port.state = s.port.state ∧ (opening s).port.discarded = s.port.discarded ∧
      (opening s).port.held = s.port.held ∧ (opening s).port.skip = s.port.skip ∧
      (opening s).port.sent = s.port.sent ∧ (opening s).port.drawn = s.port.drawn ∧
      (opening s).pending = s.pending := by
  simp [opening]

@[simp] theorem split_frame (a b c : Nat) (d e : List Nat) (f : Nat) (g : Segment) (s : State) :
    (split a b c d e f g s).model = s.model ∧ (split a b c d e f g s).profiles = s.profiles ∧
      (split a b c d e f g s).concentrators = s.concentrators ∧ (split a b c d e f g s).incidents = s.incidents ∧
      (split a b c d e f g s).plans = s.plans ∧ (split a b c d e f g s).outages = s.outages ∧
      (split a b c d e f g s).orders = s.orders ∧ (split a b c d e f g s).windows = s.windows ∧
      (split a b c d e f g s).intake = s.intake ∧ (split a b c d e f g s).register = s.register ∧
      (split a b c d e f g s).dispatch = s.dispatch ∧ (split a b c d e f g s).orderUnit = s.orderUnit ∧
      (split a b c d e f g s).clock = s.clock ∧ (split a b c d e f g s).port.state = s.port.state ∧
      (split a b c d e f g s).port.discarded = s.port.discarded ∧ (split a b c d e f g s).port.held = s.port.held ∧
      (split a b c d e f g s).port.skip = s.port.skip ∧ (split a b c d e f g s).port.sent = s.port.sent ∧
      (split a b c d e f g s).port.drawn = s.port.drawn ∧ (split a b c d e f g s).pending = s.pending := by
  simp [split]

@[simp] theorem mergeOthers_frame (v a b : Nat) (s : State) :
    (mergeOthers v a b s).model = s.model ∧ (mergeOthers v a b s).stopCount = s.stopCount ∧
      (mergeOthers v a b s).segments = s.segments ∧ (mergeOthers v a b s).valves = s.valves ∧
      (mergeOthers v a b s).points = s.points ∧ (mergeOthers v a b s).profiles = s.profiles ∧
      (mergeOthers v a b s).concentrators = s.concentrators ∧ (mergeOthers v a b s).outages = s.outages ∧
      (mergeOthers v a b s).orders = s.orders ∧ (mergeOthers v a b s).windows = s.windows ∧
      (mergeOthers v a b s).intake = s.intake ∧ (mergeOthers v a b s).tracer = s.tracer ∧
      (mergeOthers v a b s).register = s.register ∧ (mergeOthers v a b s).dispatch = s.dispatch ∧
      (mergeOthers v a b s).orderUnit = s.orderUnit ∧ (mergeOthers v a b s).clock = s.clock ∧
      (mergeOthers v a b s).port.state = s.port.state ∧ (mergeOthers v a b s).port.discarded = s.port.discarded ∧
      (mergeOthers v a b s).port.held = s.port.held ∧ (mergeOthers v a b s).port.skip = s.port.skip ∧
      (mergeOthers v a b s).port.sent = s.port.sent ∧ (mergeOthers v a b s).port.drawn = s.port.drawn ∧
      (mergeOthers v a b s).pending = s.pending := by
  simp [mergeOthers]

@[simp] theorem merge_frame (v a b : Nat) (c d : Segment) (s : State) :
    (merge v a b c d s).model = s.model ∧ (merge v a b c d s).profiles = s.profiles ∧
      (merge v a b c d s).concentrators = s.concentrators ∧ (merge v a b c d s).outages = s.outages ∧
      (merge v a b c d s).orders = s.orders ∧ (merge v a b c d s).windows = s.windows ∧
      (merge v a b c d s).intake = s.intake ∧ (merge v a b c d s).register = s.register ∧
      (merge v a b c d s).dispatch = s.dispatch ∧ (merge v a b c d s).orderUnit = s.orderUnit ∧
      (merge v a b c d s).clock = s.clock ∧ (merge v a b c d s).port.state = s.port.state ∧
      (merge v a b c d s).port.discarded = s.port.discarded ∧ (merge v a b c d s).port.held = s.port.held ∧
      (merge v a b c d s).port.skip = s.port.skip ∧ (merge v a b c d s).port.sent = s.port.sent ∧
      (merge v a b c d s).port.drawn = s.port.drawn ∧ (merge v a b c d s).pending = s.pending := by
  simp [merge]

@[simp] theorem recalibrate_frame (n : Nat) (a b : Option Nat) (s : State) :
    (recalibrate n a b s).model = s.model ∧ (recalibrate n a b s).stopCount = s.stopCount ∧
      (recalibrate n a b s).segments = s.segments ∧ (recalibrate n a b s).valves = s.valves ∧
      (recalibrate n a b s).profiles = s.profiles ∧ (recalibrate n a b s).concentrators = s.concentrators ∧
      (recalibrate n a b s).outages = s.outages ∧ (recalibrate n a b s).orders = s.orders ∧
      (recalibrate n a b s).windows = s.windows ∧ (recalibrate n a b s).intake = s.intake ∧
      (recalibrate n a b s).tracer = s.tracer ∧ (recalibrate n a b s).register = s.register ∧
      (recalibrate n a b s).dispatch = s.dispatch ∧ (recalibrate n a b s).orderUnit = s.orderUnit ∧
      (recalibrate n a b s).clock = s.clock ∧ (recalibrate n a b s).port.state = s.port.state ∧
      (recalibrate n a b s).port.discarded = s.port.discarded ∧ (recalibrate n a b s).port.held = s.port.held ∧
      (recalibrate n a b s).port.skip = s.port.skip ∧ (recalibrate n a b s).port.sent = s.port.sent ∧
      (recalibrate n a b s).port.drawn = s.port.drawn ∧ (recalibrate n a b s).pending = s.pending := by
  simp [recalibrate]

@[simp] theorem regroup_frame (n g : Nat) (s : State) :
    (regroup n g s).model = s.model ∧ (regroup n g s).stopCount = s.stopCount ∧
      (regroup n g s).segments = s.segments ∧ (regroup n g s).valves = s.valves ∧
      (regroup n g s).profiles = s.profiles ∧ (regroup n g s).concentrators = s.concentrators ∧
      (regroup n g s).outages = s.outages ∧ (regroup n g s).orders = s.orders ∧
      (regroup n g s).windows = s.windows ∧ (regroup n g s).intake = s.intake ∧
      (regroup n g s).tracer = s.tracer ∧ (regroup n g s).register = s.register ∧
      (regroup n g s).dispatch = s.dispatch ∧ (regroup n g s).orderUnit = s.orderUnit ∧
      (regroup n g s).clock = s.clock ∧ (regroup n g s).port.state = s.port.state ∧
      (regroup n g s).port.discarded = s.port.discarded ∧ (regroup n g s).port.held = s.port.held ∧
      (regroup n g s).port.skip = s.port.skip ∧ (regroup n g s).port.sent = s.port.sent ∧
      (regroup n g s).port.drawn = s.port.drawn ∧ (regroup n g s).pending = s.pending := by
  simp [regroup]

@[simp] theorem alterFields_frame (n : Nat) (a b c d e f : Option Nat) (s : State) :
    (alterFields n a b c d e f s).model = s.model ∧ (alterFields n a b c d e f s).stopCount = s.stopCount ∧
      (alterFields n a b c d e f s).segments = s.segments ∧ (alterFields n a b c d e f s).valves = s.valves ∧
      (alterFields n a b c d e f s).profiles = s.profiles ∧ (alterFields n a b c d e f s).concentrators = s.concentrators ∧
      (alterFields n a b c d e f s).outages = s.outages ∧ (alterFields n a b c d e f s).orders = s.orders ∧
      (alterFields n a b c d e f s).windows = s.windows ∧ (alterFields n a b c d e f s).intake = s.intake ∧
      (alterFields n a b c d e f s).tracer = s.tracer ∧ (alterFields n a b c d e f s).register = s.register ∧
      (alterFields n a b c d e f s).dispatch = s.dispatch ∧ (alterFields n a b c d e f s).orderUnit = s.orderUnit ∧
      (alterFields n a b c d e f s).clock = s.clock ∧ (alterFields n a b c d e f s).port.state = s.port.state ∧
      (alterFields n a b c d e f s).port.discarded = s.port.discarded ∧ (alterFields n a b c d e f s).port.held = s.port.held ∧
      (alterFields n a b c d e f s).port.skip = s.port.skip ∧ (alterFields n a b c d e f s).port.sent = s.port.sent ∧
      (alterFields n a b c d e f s).port.drawn = s.port.drawn ∧ (alterFields n a b c d e f s).pending = s.pending := by
  unfold alterFields
  cases c <;> simp

@[simp] theorem writeProfile_frame (n : Nat) (e : Profile) (s : State) :
    (writeProfile n e s).model = s.model ∧ (writeProfile n e s).stopCount = s.stopCount ∧
      (writeProfile n e s).segments = s.segments ∧ (writeProfile n e s).valves = s.valves ∧
      (writeProfile n e s).concentrators = s.concentrators ∧ (writeProfile n e s).outages = s.outages ∧
      (writeProfile n e s).orders = s.orders ∧ (writeProfile n e s).windows = s.windows ∧
      (writeProfile n e s).intake = s.intake ∧ (writeProfile n e s).tracer = s.tracer ∧
      (writeProfile n e s).register = s.register ∧ (writeProfile n e s).dispatch = s.dispatch ∧
      (writeProfile n e s).orderUnit = s.orderUnit ∧ (writeProfile n e s).clock = s.clock ∧
      (writeProfile n e s).port.state = s.port.state ∧ (writeProfile n e s).port.discarded = s.port.discarded ∧
      (writeProfile n e s).port.held = s.port.held ∧ (writeProfile n e s).port.skip = s.port.skip ∧
      (writeProfile n e s).port.sent = s.port.sent ∧ (writeProfile n e s).port.drawn = s.port.drawn ∧
      (writeProfile n e s).pending = s.pending := by
  simp [writeProfile]

@[simp] theorem leaveOutage_frame (o : Option Nat) (s : State) :
    (leaveOutage o s).model = s.model ∧ (leaveOutage o s).stopCount = s.stopCount ∧
      (leaveOutage o s).segments = s.segments ∧ (leaveOutage o s).valves = s.valves ∧
      (leaveOutage o s).points = s.points ∧ (leaveOutage o s).profiles = s.profiles ∧
      (leaveOutage o s).concentrators = s.concentrators ∧ (leaveOutage o s).incidents = s.incidents ∧
      (leaveOutage o s).plans = s.plans ∧ (leaveOutage o s).orders = s.orders ∧
      (leaveOutage o s).windows = s.windows ∧ (leaveOutage o s).intake = s.intake ∧
      (leaveOutage o s).tracer = s.tracer ∧ (leaveOutage o s).register = s.register ∧
      (leaveOutage o s).dispatch = s.dispatch ∧ (leaveOutage o s).orderUnit = s.orderUnit ∧
      (leaveOutage o s).clock = s.clock ∧ (leaveOutage o s).port.state = s.port.state ∧
      (leaveOutage o s).port.discarded = s.port.discarded ∧ (leaveOutage o s).port.held = s.port.held ∧
      (leaveOutage o s).port.skip = s.port.skip ∧ (leaveOutage o s).port.sent = s.port.sent ∧
      (leaveOutage o s).port.drawn = s.port.drawn ∧ (leaveOutage o s).pending = s.pending := by
  unfold leaveOutage
  repeat' split
  all_goals simp

@[simp] theorem relightSegment_frame (n : Nat) (g : Segment) (s : State) :
    (relightSegment n g s).model = s.model ∧ (relightSegment n g s).stopCount = s.stopCount ∧
      (relightSegment n g s).valves = s.valves ∧ (relightSegment n g s).points = s.points ∧
      (relightSegment n g s).profiles = s.profiles ∧ (relightSegment n g s).concentrators = s.concentrators ∧
      (relightSegment n g s).plans = s.plans ∧ (relightSegment n g s).orders = s.orders ∧
      (relightSegment n g s).windows = s.windows ∧ (relightSegment n g s).intake = s.intake ∧
      (relightSegment n g s).tracer = s.tracer ∧ (relightSegment n g s).register = s.register ∧
      (relightSegment n g s).dispatch = s.dispatch ∧ (relightSegment n g s).orderUnit = s.orderUnit ∧
      (relightSegment n g s).clock = s.clock ∧ (relightSegment n g s).port.state = s.port.state ∧
      (relightSegment n g s).port.discarded = s.port.discarded ∧ (relightSegment n g s).port.held = s.port.held ∧
      (relightSegment n g s).port.skip = s.port.skip ∧ (relightSegment n g s).port.sent = s.port.sent ∧
      (relightSegment n g s).port.drawn = s.port.drawn ∧ (relightSegment n g s).pending = s.pending := by
  simp [relightSegment]

@[simp] theorem countRelit_frame (n c : Nat) (g : Segment) (s : State) :
    (countRelit n c g s).model = s.model ∧ (countRelit n c g s).stopCount = s.stopCount ∧
      (countRelit n c g s).valves = s.valves ∧ (countRelit n c g s).points = s.points ∧
      (countRelit n c g s).profiles = s.profiles ∧ (countRelit n c g s).concentrators = s.concentrators ∧
      (countRelit n c g s).plans = s.plans ∧ (countRelit n c g s).orders = s.orders ∧
      (countRelit n c g s).windows = s.windows ∧ (countRelit n c g s).intake = s.intake ∧
      (countRelit n c g s).tracer = s.tracer ∧ (countRelit n c g s).register = s.register ∧
      (countRelit n c g s).dispatch = s.dispatch ∧ (countRelit n c g s).orderUnit = s.orderUnit ∧
      (countRelit n c g s).clock = s.clock ∧ (countRelit n c g s).port.state = s.port.state ∧
      (countRelit n c g s).port.discarded = s.port.discarded ∧ (countRelit n c g s).port.held = s.port.held ∧
      (countRelit n c g s).port.skip = s.port.skip ∧ (countRelit n c g s).port.sent = s.port.sent ∧
      (countRelit n c g s).port.drawn = s.port.drawn ∧ (countRelit n c g s).pending = s.pending := by
  simp [countRelit]

@[simp] theorem joinIncident_frame (n : Nat) (e : CallEntry) (s : State) :
    (joinIncident n e s).model = s.model ∧ (joinIncident n e s).stopCount = s.stopCount ∧
      (joinIncident n e s).segments = s.segments ∧ (joinIncident n e s).valves = s.valves ∧
      (joinIncident n e s).points = s.points ∧ (joinIncident n e s).profiles = s.profiles ∧
      (joinIncident n e s).concentrators = s.concentrators ∧ (joinIncident n e s).plans = s.plans ∧
      (joinIncident n e s).outages = s.outages ∧ (joinIncident n e s).orders = s.orders ∧
      (joinIncident n e s).windows = s.windows ∧ (joinIncident n e s).intake = s.intake ∧
      (joinIncident n e s).tracer = s.tracer ∧ (joinIncident n e s).register = s.register ∧
      (joinIncident n e s).dispatch = s.dispatch ∧ (joinIncident n e s).orderUnit = s.orderUnit ∧
      (joinIncident n e s).clock = s.clock ∧ (joinIncident n e s).port.state = s.port.state ∧
      (joinIncident n e s).port.discarded = s.port.discarded ∧ (joinIncident n e s).port.held = s.port.held ∧
      (joinIncident n e s).port.skip = s.port.skip ∧ (joinIncident n e s).port.sent = s.port.sent ∧
      (joinIncident n e s).port.drawn = s.port.drawn ∧ (joinIncident n e s).pending = s.pending := by
  simp [joinIncident]

@[simp] theorem adjustIncident_frame (n : Nat) (a : Int) (s : State) :
    (adjustIncident n a s).model = s.model ∧ (adjustIncident n a s).stopCount = s.stopCount ∧
      (adjustIncident n a s).segments = s.segments ∧ (adjustIncident n a s).valves = s.valves ∧
      (adjustIncident n a s).points = s.points ∧ (adjustIncident n a s).profiles = s.profiles ∧
      (adjustIncident n a s).concentrators = s.concentrators ∧ (adjustIncident n a s).plans = s.plans ∧
      (adjustIncident n a s).outages = s.outages ∧ (adjustIncident n a s).orders = s.orders ∧
      (adjustIncident n a s).windows = s.windows ∧ (adjustIncident n a s).intake = s.intake ∧
      (adjustIncident n a s).tracer = s.tracer ∧ (adjustIncident n a s).register = s.register ∧
      (adjustIncident n a s).dispatch = s.dispatch ∧ (adjustIncident n a s).orderUnit = s.orderUnit ∧
      (adjustIncident n a s).clock = s.clock ∧ (adjustIncident n a s).port.state = s.port.state ∧
      (adjustIncident n a s).port.discarded = s.port.discarded ∧ (adjustIncident n a s).port.held = s.port.held ∧
      (adjustIncident n a s).port.skip = s.port.skip ∧ (adjustIncident n a s).port.sent = s.port.sent ∧
      (adjustIncident n a s).port.drawn = s.port.drawn ∧ (adjustIncident n a s).pending = s.pending := by
  simp [adjustIncident]

@[simp] theorem unlinkPlan_frame (p : Option Nat) (s : State) :
    (unlinkPlan p s).model = s.model ∧ (unlinkPlan p s).stopCount = s.stopCount ∧
      (unlinkPlan p s).segments = s.segments ∧ (unlinkPlan p s).valves = s.valves ∧
      (unlinkPlan p s).points = s.points ∧ (unlinkPlan p s).profiles = s.profiles ∧
      (unlinkPlan p s).concentrators = s.concentrators ∧ (unlinkPlan p s).incidents = s.incidents ∧
      (unlinkPlan p s).outages = s.outages ∧ (unlinkPlan p s).orders = s.orders ∧
      (unlinkPlan p s).windows = s.windows ∧ (unlinkPlan p s).intake = s.intake ∧
      (unlinkPlan p s).tracer = s.tracer ∧ (unlinkPlan p s).register = s.register ∧
      (unlinkPlan p s).dispatch = s.dispatch ∧ (unlinkPlan p s).orderUnit = s.orderUnit ∧
      (unlinkPlan p s).clock = s.clock ∧ (unlinkPlan p s).port.state = s.port.state ∧
      (unlinkPlan p s).port.discarded = s.port.discarded ∧ (unlinkPlan p s).port.held = s.port.held ∧
      (unlinkPlan p s).port.skip = s.port.skip ∧ (unlinkPlan p s).port.sent = s.port.sent ∧
      (unlinkPlan p s).port.drawn = s.port.drawn ∧ (unlinkPlan p s).pending = s.pending := by
  unfold unlinkPlan
  repeat' split
  all_goals simp

@[simp] theorem unlinkOffer_frame (i : Incident) (s : State) :
    (unlinkOffer i s).model = s.model ∧ (unlinkOffer i s).stopCount = s.stopCount ∧
      (unlinkOffer i s).segments = s.segments ∧ (unlinkOffer i s).valves = s.valves ∧
      (unlinkOffer i s).points = s.points ∧ (unlinkOffer i s).profiles = s.profiles ∧
      (unlinkOffer i s).concentrators = s.concentrators ∧ (unlinkOffer i s).incidents = s.incidents ∧
      (unlinkOffer i s).plans = s.plans ∧ (unlinkOffer i s).outages = s.outages ∧
      (unlinkOffer i s).orders = s.orders ∧ (unlinkOffer i s).windows = s.windows ∧
      (unlinkOffer i s).intake = s.intake ∧ (unlinkOffer i s).tracer = s.tracer ∧
      (unlinkOffer i s).register = s.register ∧ (unlinkOffer i s).orderUnit = s.orderUnit ∧
      (unlinkOffer i s).clock = s.clock ∧ (unlinkOffer i s).notices = s.notices ∧
      (unlinkOffer i s).port = s.port ∧ (unlinkOffer i s).pending = s.pending := by
  unfold unlinkOffer
  repeat' split
  all_goals simp

@[simp] theorem retireIncident_frame (n : Nat) (i : Incident) (s : State) :
    (retireIncident n i s).model = s.model ∧ (retireIncident n i s).stopCount = s.stopCount ∧
      (retireIncident n i s).valves = s.valves ∧ (retireIncident n i s).points = s.points ∧
      (retireIncident n i s).profiles = s.profiles ∧ (retireIncident n i s).concentrators = s.concentrators ∧
      (retireIncident n i s).outages = s.outages ∧ (retireIncident n i s).orders = s.orders ∧
      (retireIncident n i s).windows = s.windows ∧ (retireIncident n i s).intake = s.intake ∧
      (retireIncident n i s).tracer = s.tracer ∧ (retireIncident n i s).register = s.register ∧
      (retireIncident n i s).orderUnit = s.orderUnit ∧ (retireIncident n i s).clock = s.clock ∧
      (retireIncident n i s).port.state = s.port.state ∧ (retireIncident n i s).port.discarded = s.port.discarded ∧
      (retireIncident n i s).port.held = s.port.held ∧ (retireIncident n i s).port.skip = s.port.skip ∧
      (retireIncident n i s).port.sent = s.port.sent ∧ (retireIncident n i s).port.drawn = s.port.drawn ∧
      (retireIncident n i s).pending = s.pending := by
  simp [retireIncident]

@[simp] theorem withdrawOffer_frame (d : Nat) (s : State) :
    (withdrawOffer d s).model = s.model ∧ (withdrawOffer d s).stopCount = s.stopCount ∧
      (withdrawOffer d s).segments = s.segments ∧ (withdrawOffer d s).valves = s.valves ∧
      (withdrawOffer d s).points = s.points ∧ (withdrawOffer d s).profiles = s.profiles ∧
      (withdrawOffer d s).concentrators = s.concentrators ∧ (withdrawOffer d s).plans = s.plans ∧
      (withdrawOffer d s).outages = s.outages ∧ (withdrawOffer d s).orders = s.orders ∧
      (withdrawOffer d s).windows = s.windows ∧ (withdrawOffer d s).intake = s.intake ∧
      (withdrawOffer d s).tracer = s.tracer ∧ (withdrawOffer d s).register = s.register ∧
      (withdrawOffer d s).orderUnit = s.orderUnit ∧ (withdrawOffer d s).clock = s.clock ∧
      (withdrawOffer d s).port.state = s.port.state ∧ (withdrawOffer d s).port.discarded = s.port.discarded ∧
      (withdrawOffer d s).port.held = s.port.held ∧ (withdrawOffer d s).port.skip = s.port.skip ∧
      (withdrawOffer d s).port.sent = s.port.sent ∧ (withdrawOffer d s).port.drawn = s.port.drawn ∧
      (withdrawOffer d s).pending = s.pending := by
  unfold withdrawOffer
  repeat' split
  all_goals simp

@[simp] theorem makeOffer_frame (d n : Nat) (s : State) :
    (makeOffer d n s).model = s.model ∧ (makeOffer d n s).stopCount = s.stopCount ∧
      (makeOffer d n s).segments = s.segments ∧ (makeOffer d n s).valves = s.valves ∧
      (makeOffer d n s).points = s.points ∧ (makeOffer d n s).profiles = s.profiles ∧
      (makeOffer d n s).concentrators = s.concentrators ∧ (makeOffer d n s).plans = s.plans ∧
      (makeOffer d n s).outages = s.outages ∧ (makeOffer d n s).orders = s.orders ∧
      (makeOffer d n s).windows = s.windows ∧ (makeOffer d n s).intake = s.intake ∧
      (makeOffer d n s).tracer = s.tracer ∧ (makeOffer d n s).register = s.register ∧
      (makeOffer d n s).orderUnit = s.orderUnit ∧ (makeOffer d n s).clock = s.clock ∧
      (makeOffer d n s).port.state = s.port.state ∧ (makeOffer d n s).port.discarded = s.port.discarded ∧
      (makeOffer d n s).port.held = s.port.held ∧ (makeOffer d n s).port.skip = s.port.skip ∧
      (makeOffer d n s).port.sent = s.port.sent ∧ (makeOffer d n s).port.drawn = s.port.drawn ∧
      (makeOffer d n s).pending = s.pending := by
  simp [makeOffer]

@[simp] theorem sendCrew_frame (d n : Nat) (s : State) :
    (sendCrew d n s).model = s.model ∧ (sendCrew d n s).stopCount = s.stopCount ∧
      (sendCrew d n s).segments = s.segments ∧ (sendCrew d n s).valves = s.valves ∧
      (sendCrew d n s).points = s.points ∧ (sendCrew d n s).profiles = s.profiles ∧
      (sendCrew d n s).concentrators = s.concentrators ∧ (sendCrew d n s).plans = s.plans ∧
      (sendCrew d n s).outages = s.outages ∧ (sendCrew d n s).orders = s.orders ∧
      (sendCrew d n s).windows = s.windows ∧ (sendCrew d n s).intake = s.intake ∧
      (sendCrew d n s).tracer = s.tracer ∧ (sendCrew d n s).register = s.register ∧
      (sendCrew d n s).orderUnit = s.orderUnit ∧ (sendCrew d n s).clock = s.clock ∧
      (sendCrew d n s).port.state = s.port.state ∧ (sendCrew d n s).port.discarded = s.port.discarded ∧
      (sendCrew d n s).port.held = s.port.held ∧ (sendCrew d n s).port.skip = s.port.skip ∧
      (sendCrew d n s).port.sent = s.port.sent ∧ (sendCrew d n s).port.drawn = s.port.drawn ∧
      (sendCrew d n s).pending = s.pending := by
  unfold sendCrew
  repeat' split
  all_goals simp

@[simp] theorem clearOfferOf_frame (i : Incident) (s : State) :
    (clearOfferOf i s).model = s.model ∧ (clearOfferOf i s).stopCount = s.stopCount ∧
      (clearOfferOf i s).segments = s.segments ∧ (clearOfferOf i s).valves = s.valves ∧
      (clearOfferOf i s).points = s.points ∧ (clearOfferOf i s).profiles = s.profiles ∧
      (clearOfferOf i s).concentrators = s.concentrators ∧ (clearOfferOf i s).incidents = s.incidents ∧
      (clearOfferOf i s).plans = s.plans ∧ (clearOfferOf i s).outages = s.outages ∧
      (clearOfferOf i s).orders = s.orders ∧ (clearOfferOf i s).windows = s.windows ∧
      (clearOfferOf i s).intake = s.intake ∧ (clearOfferOf i s).tracer = s.tracer ∧
      (clearOfferOf i s).register = s.register ∧ (clearOfferOf i s).orderUnit = s.orderUnit ∧
      (clearOfferOf i s).clock = s.clock ∧ (clearOfferOf i s).notices = s.notices ∧
      (clearOfferOf i s).port = s.port ∧ (clearOfferOf i s).pending = s.pending := by
  unfold clearOfferOf
  repeat' split
  all_goals simp

@[simp] theorem crewOnSite_frame (n : Nat) (s : State) :
    (crewOnSite n s).model = s.model ∧ (crewOnSite n s).stopCount = s.stopCount ∧
      (crewOnSite n s).segments = s.segments ∧ (crewOnSite n s).valves = s.valves ∧
      (crewOnSite n s).points = s.points ∧ (crewOnSite n s).profiles = s.profiles ∧
      (crewOnSite n s).concentrators = s.concentrators ∧ (crewOnSite n s).plans = s.plans ∧
      (crewOnSite n s).outages = s.outages ∧ (crewOnSite n s).orders = s.orders ∧
      (crewOnSite n s).windows = s.windows ∧ (crewOnSite n s).intake = s.intake ∧
      (crewOnSite n s).tracer = s.tracer ∧ (crewOnSite n s).register = s.register ∧
      (crewOnSite n s).orderUnit = s.orderUnit ∧ (crewOnSite n s).clock = s.clock ∧
      (crewOnSite n s).port.state = s.port.state ∧ (crewOnSite n s).port.discarded = s.port.discarded ∧
      (crewOnSite n s).port.held = s.port.held ∧ (crewOnSite n s).port.skip = s.port.skip ∧
      (crewOnSite n s).port.sent = s.port.sent ∧ (crewOnSite n s).port.drawn = s.port.drawn ∧
      (crewOnSite n s).pending = s.pending := by
  unfold crewOnSite
  repeat' split
  all_goals simp

@[simp] theorem linkIncident_frame (i p : Option Nat) (s : State) :
    (linkIncident i p s).model = s.model ∧ (linkIncident i p s).stopCount = s.stopCount ∧
      (linkIncident i p s).segments = s.segments ∧ (linkIncident i p s).valves = s.valves ∧
      (linkIncident i p s).points = s.points ∧ (linkIncident i p s).profiles = s.profiles ∧
      (linkIncident i p s).concentrators = s.concentrators ∧ (linkIncident i p s).plans = s.plans ∧
      (linkIncident i p s).outages = s.outages ∧ (linkIncident i p s).orders = s.orders ∧
      (linkIncident i p s).windows = s.windows ∧ (linkIncident i p s).intake = s.intake ∧
      (linkIncident i p s).tracer = s.tracer ∧ (linkIncident i p s).register = s.register ∧
      (linkIncident i p s).dispatch = s.dispatch ∧ (linkIncident i p s).orderUnit = s.orderUnit ∧
      (linkIncident i p s).clock = s.clock ∧ (linkIncident i p s).port.state = s.port.state ∧
      (linkIncident i p s).port.discarded = s.port.discarded ∧ (linkIncident i p s).port.held = s.port.held ∧
      (linkIncident i p s).port.skip = s.port.skip ∧ (linkIncident i p s).port.sent = s.port.sent ∧
      (linkIncident i p s).port.drawn = s.port.drawn ∧ (linkIncident i p s).pending = s.pending := by
  unfold linkIncident
  repeat' split
  all_goals simp

@[simp] theorem discardPlan_frame (p : Nat) (q : Plan) (s : State) :
    (discardPlan p q s).model = s.model ∧ (discardPlan p q s).stopCount = s.stopCount ∧
      (discardPlan p q s).segments = s.segments ∧ (discardPlan p q s).valves = s.valves ∧
      (discardPlan p q s).points = s.points ∧ (discardPlan p q s).profiles = s.profiles ∧
      (discardPlan p q s).concentrators = s.concentrators ∧ (discardPlan p q s).outages = s.outages ∧
      (discardPlan p q s).orders = s.orders ∧ (discardPlan p q s).windows = s.windows ∧
      (discardPlan p q s).intake = s.intake ∧ (discardPlan p q s).tracer = s.tracer ∧
      (discardPlan p q s).register = s.register ∧ (discardPlan p q s).dispatch = s.dispatch ∧
      (discardPlan p q s).orderUnit = s.orderUnit ∧ (discardPlan p q s).clock = s.clock ∧
      (discardPlan p q s).port.state = s.port.state ∧ (discardPlan p q s).port.discarded = s.port.discarded ∧
      (discardPlan p q s).port.held = s.port.held ∧ (discardPlan p q s).port.skip = s.port.skip ∧
      (discardPlan p q s).port.sent = s.port.sent ∧ (discardPlan p q s).port.drawn = s.port.drawn ∧
      (discardPlan p q s).pending = s.pending := by
  simp [discardPlan]

@[simp] theorem lockPlan_frame (d p : Nat) (c : Bool) (s : State) :
    (lockPlan d p c s).model = s.model ∧ (lockPlan d p c s).stopCount = s.stopCount ∧
      (lockPlan d p c s).segments = s.segments ∧ (lockPlan d p c s).valves = s.valves ∧
      (lockPlan d p c s).points = s.points ∧ (lockPlan d p c s).profiles = s.profiles ∧
      (lockPlan d p c s).concentrators = s.concentrators ∧ (lockPlan d p c s).incidents = s.incidents ∧
      (lockPlan d p c s).outages = s.outages ∧ (lockPlan d p c s).orders = s.orders ∧
      (lockPlan d p c s).windows = s.windows ∧ (lockPlan d p c s).intake = s.intake ∧
      (lockPlan d p c s).tracer = s.tracer ∧ (lockPlan d p c s).register = s.register ∧
      (lockPlan d p c s).dispatch = s.dispatch ∧ (lockPlan d p c s).orderUnit = s.orderUnit ∧
      (lockPlan d p c s).clock = s.clock ∧ (lockPlan d p c s).port.state = s.port.state ∧
      (lockPlan d p c s).port.discarded = s.port.discarded ∧ (lockPlan d p c s).port.held = s.port.held ∧
      (lockPlan d p c s).port.skip = s.port.skip ∧ (lockPlan d p c s).port.sent = s.port.sent ∧
      (lockPlan d p c s).port.drawn = s.port.drawn ∧ (lockPlan d p c s).pending = s.pending := by
  simp [lockPlan]

@[simp] theorem setDraft_frame (p : Nat) (f : List Nat → List Nat) (s : State) :
    (setDraft p f s).model = s.model ∧ (setDraft p f s).stopCount = s.stopCount ∧
      (setDraft p f s).segments = s.segments ∧ (setDraft p f s).valves = s.valves ∧
      (setDraft p f s).points = s.points ∧ (setDraft p f s).profiles = s.profiles ∧
      (setDraft p f s).concentrators = s.concentrators ∧ (setDraft p f s).incidents = s.incidents ∧
      (setDraft p f s).outages = s.outages ∧ (setDraft p f s).orders = s.orders ∧
      (setDraft p f s).windows = s.windows ∧ (setDraft p f s).intake = s.intake ∧
      (setDraft p f s).tracer = s.tracer ∧ (setDraft p f s).register = s.register ∧
      (setDraft p f s).dispatch = s.dispatch ∧ (setDraft p f s).orderUnit = s.orderUnit ∧
      (setDraft p f s).clock = s.clock ∧ (setDraft p f s).port.state = s.port.state ∧
      (setDraft p f s).port.discarded = s.port.discarded ∧ (setDraft p f s).port.held = s.port.held ∧
      (setDraft p f s).port.skip = s.port.skip ∧ (setDraft p f s).port.sent = s.port.sent ∧
      (setDraft p f s).port.drawn = s.port.drawn ∧ (setDraft p f s).pending = s.pending := by
  simp [setDraft]

@[simp] theorem commitPlan_frame (p : Nat) (s : State) :
    (commitPlan p s).model = s.model ∧ (commitPlan p s).stopCount = s.stopCount ∧
      (commitPlan p s).segments = s.segments ∧ (commitPlan p s).valves = s.valves ∧
      (commitPlan p s).points = s.points ∧ (commitPlan p s).profiles = s.profiles ∧
      (commitPlan p s).concentrators = s.concentrators ∧ (commitPlan p s).incidents = s.incidents ∧
      (commitPlan p s).outages = s.outages ∧ (commitPlan p s).orders = s.orders ∧
      (commitPlan p s).windows = s.windows ∧ (commitPlan p s).intake = s.intake ∧
      (commitPlan p s).tracer = s.tracer ∧ (commitPlan p s).register = s.register ∧
      (commitPlan p s).dispatch = s.dispatch ∧ (commitPlan p s).orderUnit = s.orderUnit ∧
      (commitPlan p s).clock = s.clock ∧ (commitPlan p s).port.state = s.port.state ∧
      (commitPlan p s).port.discarded = s.port.discarded ∧ (commitPlan p s).port.held = s.port.held ∧
      (commitPlan p s).port.skip = s.port.skip ∧ (commitPlan p s).port.sent = s.port.sent ∧
      (commitPlan p s).port.drawn = s.port.drawn ∧ (commitPlan p s).pending = s.pending := by
  simp [commitPlan]

@[simp] theorem unlockPlan_frame (p : Nat) (s : State) :
    (unlockPlan p s).model = s.model ∧ (unlockPlan p s).stopCount = s.stopCount ∧
      (unlockPlan p s).segments = s.segments ∧ (unlockPlan p s).valves = s.valves ∧
      (unlockPlan p s).points = s.points ∧ (unlockPlan p s).profiles = s.profiles ∧
      (unlockPlan p s).concentrators = s.concentrators ∧ (unlockPlan p s).incidents = s.incidents ∧
      (unlockPlan p s).outages = s.outages ∧ (unlockPlan p s).orders = s.orders ∧
      (unlockPlan p s).windows = s.windows ∧ (unlockPlan p s).intake = s.intake ∧
      (unlockPlan p s).tracer = s.tracer ∧ (unlockPlan p s).register = s.register ∧
      (unlockPlan p s).dispatch = s.dispatch ∧ (unlockPlan p s).orderUnit = s.orderUnit ∧
      (unlockPlan p s).clock = s.clock ∧ (unlockPlan p s).port.state = s.port.state ∧
      (unlockPlan p s).port.discarded = s.port.discarded ∧ (unlockPlan p s).port.held = s.port.held ∧
      (unlockPlan p s).port.skip = s.port.skip ∧ (unlockPlan p s).port.sent = s.port.sent ∧
      (unlockPlan p s).port.drawn = s.port.drawn ∧ (unlockPlan p s).pending = s.pending := by
  simp [unlockPlan]

@[simp] theorem takeOrder_frame (n : Nat) (o : Order) (s : State) :
    (takeOrder n o s).model = s.model ∧ (takeOrder n o s).stopCount = s.stopCount ∧
      (takeOrder n o s).segments = s.segments ∧ (takeOrder n o s).points = s.points ∧
      (takeOrder n o s).profiles = s.profiles ∧ (takeOrder n o s).concentrators = s.concentrators ∧
      (takeOrder n o s).incidents = s.incidents ∧ (takeOrder n o s).plans = s.plans ∧
      (takeOrder n o s).outages = s.outages ∧ (takeOrder n o s).windows = s.windows ∧
      (takeOrder n o s).intake = s.intake ∧ (takeOrder n o s).tracer = s.tracer ∧
      (takeOrder n o s).register = s.register ∧ (takeOrder n o s).dispatch = s.dispatch ∧
      (takeOrder n o s).orderUnit = s.orderUnit ∧ (takeOrder n o s).clock = s.clock ∧
      (takeOrder n o s).port.state = s.port.state ∧ (takeOrder n o s).port.discarded = s.port.discarded ∧
      (takeOrder n o s).port.held = s.port.held ∧ (takeOrder n o s).port.skip = s.port.skip ∧
      (takeOrder n o s).port.sent = s.port.sent ∧ (takeOrder n o s).port.drawn = s.port.drawn ∧
      (takeOrder n o s).pending = s.pending := by
  simp [takeOrder]

@[simp] theorem withdraw_frame (n v : Nat) (s : State) :
    (withdraw n v s).model = s.model ∧ (withdraw n v s).stopCount = s.stopCount ∧
      (withdraw n v s).segments = s.segments ∧ (withdraw n v s).points = s.points ∧
      (withdraw n v s).profiles = s.profiles ∧ (withdraw n v s).concentrators = s.concentrators ∧
      (withdraw n v s).incidents = s.incidents ∧ (withdraw n v s).plans = s.plans ∧
      (withdraw n v s).outages = s.outages ∧ (withdraw n v s).windows = s.windows ∧
      (withdraw n v s).intake = s.intake ∧ (withdraw n v s).tracer = s.tracer ∧
      (withdraw n v s).register = s.register ∧ (withdraw n v s).dispatch = s.dispatch ∧
      (withdraw n v s).clock = s.clock ∧ (withdraw n v s).notices = s.notices ∧
      (withdraw n v s).port = s.port ∧ (withdraw n v s).pending = s.pending := by
  simp [withdraw, silently]

@[simp] theorem reissue_frame (v : Nat) (s : State) :
    (reissue v s).model = s.model ∧ (reissue v s).stopCount = s.stopCount ∧
      (reissue v s).segments = s.segments ∧ (reissue v s).points = s.points ∧
      (reissue v s).profiles = s.profiles ∧ (reissue v s).concentrators = s.concentrators ∧
      (reissue v s).incidents = s.incidents ∧ (reissue v s).outages = s.outages ∧
      (reissue v s).windows = s.windows ∧ (reissue v s).intake = s.intake ∧
      (reissue v s).tracer = s.tracer ∧ (reissue v s).register = s.register ∧
      (reissue v s).dispatch = s.dispatch ∧ (reissue v s).clock = s.clock ∧
      (reissue v s).port.state = s.port.state ∧ (reissue v s).port.discarded = s.port.discarded ∧
      (reissue v s).port.held = s.port.held ∧ (reissue v s).port.skip = s.port.skip ∧
      (reissue v s).port.sent = s.port.sent ∧ (reissue v s).port.drawn = s.port.drawn ∧
      (reissue v s).pending = s.pending := by
  unfold reissue
  repeat' split
  all_goals simp

@[simp] theorem needRevision_frame (v : Nat) (s : State) :
    (needRevision v s).model = s.model ∧ (needRevision v s).stopCount = s.stopCount ∧
      (needRevision v s).segments = s.segments ∧ (needRevision v s).valves = s.valves ∧
      (needRevision v s).points = s.points ∧ (needRevision v s).profiles = s.profiles ∧
      (needRevision v s).concentrators = s.concentrators ∧ (needRevision v s).incidents = s.incidents ∧
      (needRevision v s).outages = s.outages ∧ (needRevision v s).orders = s.orders ∧
      (needRevision v s).windows = s.windows ∧ (needRevision v s).intake = s.intake ∧
      (needRevision v s).tracer = s.tracer ∧ (needRevision v s).register = s.register ∧
      (needRevision v s).dispatch = s.dispatch ∧ (needRevision v s).orderUnit = s.orderUnit ∧
      (needRevision v s).clock = s.clock ∧ (needRevision v s).port.state = s.port.state ∧
      (needRevision v s).port.discarded = s.port.discarded ∧ (needRevision v s).port.held = s.port.held ∧
      (needRevision v s).port.skip = s.port.skip ∧ (needRevision v s).port.sent = s.port.sent ∧
      (needRevision v s).port.drawn = s.port.drawn ∧ (needRevision v s).pending = s.pending := by
  simp [needRevision]

@[simp] theorem dropOrder_frame (v : Nat) (a : Valve) (s : State) :
    (dropOrder v a s).model = s.model ∧ (dropOrder v a s).stopCount = s.stopCount ∧
      (dropOrder v a s).segments = s.segments ∧ (dropOrder v a s).points = s.points ∧
      (dropOrder v a s).profiles = s.profiles ∧ (dropOrder v a s).concentrators = s.concentrators ∧
      (dropOrder v a s).incidents = s.incidents ∧ (dropOrder v a s).plans = s.plans ∧
      (dropOrder v a s).outages = s.outages ∧ (dropOrder v a s).windows = s.windows ∧
      (dropOrder v a s).intake = s.intake ∧ (dropOrder v a s).tracer = s.tracer ∧
      (dropOrder v a s).register = s.register ∧ (dropOrder v a s).dispatch = s.dispatch ∧
      (dropOrder v a s).orderUnit = s.orderUnit ∧ (dropOrder v a s).clock = s.clock ∧
      (dropOrder v a s).port.state = s.port.state ∧ (dropOrder v a s).port.discarded = s.port.discarded ∧
      (dropOrder v a s).port.held = s.port.held ∧ (dropOrder v a s).port.skip = s.port.skip ∧
      (dropOrder v a s).port.sent = s.port.sent ∧ (dropOrder v a s).port.drawn = s.port.drawn ∧
      (dropOrder v a s).pending = s.pending := by
  unfold dropOrder
  repeat' split
  all_goals simp

@[simp] theorem declare_frame (v : Nat) (s : State) :
    (declare v s).model = s.model ∧ (declare v s).stopCount = s.stopCount ∧
      (declare v s).segments = s.segments ∧ (declare v s).points = s.points ∧
      (declare v s).profiles = s.profiles ∧ (declare v s).concentrators = s.concentrators ∧
      (declare v s).outages = s.outages ∧ (declare v s).windows = s.windows ∧
      (declare v s).intake = s.intake ∧ (declare v s).tracer = s.tracer ∧
      (declare v s).register = s.register ∧ (declare v s).dispatch = s.dispatch ∧
      (declare v s).clock = s.clock ∧ (declare v s).port.state = s.port.state ∧
      (declare v s).port.discarded = s.port.discarded ∧ (declare v s).port.held = s.port.held ∧
      (declare v s).port.skip = s.port.skip ∧ (declare v s).port.sent = s.port.sent ∧
      (declare v s).port.drawn = s.port.drawn ∧ (declare v s).pending = s.pending := by
  unfold declare
  split
  all_goals simp

@[simp] theorem restore_frame (v : Nat) (s : State) :
    (restore v s).model = s.model ∧ (restore v s).stopCount = s.stopCount ∧
      (restore v s).segments = s.segments ∧ (restore v s).points = s.points ∧
      (restore v s).profiles = s.profiles ∧ (restore v s).concentrators = s.concentrators ∧
      (restore v s).outages = s.outages ∧ (restore v s).windows = s.windows ∧
      (restore v s).intake = s.intake ∧ (restore v s).tracer = s.tracer ∧
      (restore v s).register = s.register ∧ (restore v s).dispatch = s.dispatch ∧
      (restore v s).clock = s.clock ∧ (restore v s).port.state = s.port.state ∧
      (restore v s).port.discarded = s.port.discarded ∧ (restore v s).port.held = s.port.held ∧
      (restore v s).port.skip = s.port.skip ∧ (restore v s).port.sent = s.port.sent ∧
      (restore v s).port.drawn = s.port.drawn ∧ (restore v s).pending = s.pending := by
  unfold restore
  split
  all_goals simp

@[simp] theorem secondEvent_frame (s : State) :
    (secondEvent s).model = s.model ∧ (secondEvent s).stopCount = s.stopCount ∧
      (secondEvent s).segments = s.segments ∧ (secondEvent s).profiles = s.profiles ∧
      (secondEvent s).concentrators = s.concentrators ∧ (secondEvent s).outages = s.outages ∧
      (secondEvent s).windows = s.windows ∧ (secondEvent s).intake = s.intake ∧
      (secondEvent s).tracer = s.tracer ∧ (secondEvent s).register = s.register ∧
      (secondEvent s).port.state = s.port.state ∧ (secondEvent s).port.discarded = s.port.discarded ∧
      (secondEvent s).port.held = s.port.held ∧ (secondEvent s).port.skip = s.port.skip ∧
      (secondEvent s).port.sent = s.port.sent ∧ (secondEvent s).port.drawn = s.port.drawn ∧
      (secondEvent s).pending = s.pending := by
  simp [secondEvent]

@[simp] theorem setWindow_frame (d : Nat) (w : Window) (s : State) :
    (setWindow d w s).model = s.model ∧ (setWindow d w s).stopCount = s.stopCount ∧
      (setWindow d w s).segments = s.segments ∧ (setWindow d w s).valves = s.valves ∧
      (setWindow d w s).points = s.points ∧ (setWindow d w s).profiles = s.profiles ∧
      (setWindow d w s).concentrators = s.concentrators ∧ (setWindow d w s).incidents = s.incidents ∧
      (setWindow d w s).plans = s.plans ∧ (setWindow d w s).outages = s.outages ∧
      (setWindow d w s).orders = s.orders ∧ (setWindow d w s).intake = s.intake ∧
      (setWindow d w s).tracer = s.tracer ∧ (setWindow d w s).register = s.register ∧
      (setWindow d w s).dispatch = s.dispatch ∧ (setWindow d w s).orderUnit = s.orderUnit ∧
      (setWindow d w s).clock = s.clock ∧ (setWindow d w s).notices = s.notices ∧
      (setWindow d w s).port = s.port ∧ (setWindow d w s).pending = s.pending := by
  simp [setWindow]

/-! ## Actions on requests -/

@[simp] theorem defineSegment_frame (h : Header) (a b c d : Nat) (s : State) :
    ((defineSegment h a b c d s).1).model = s.model ∧ ((defineSegment h a b c d s).1).stopCount = s.stopCount ∧
      ((defineSegment h a b c d s).1).valves = s.valves ∧ ((defineSegment h a b c d s).1).points = s.points ∧
      ((defineSegment h a b c d s).1).profiles = s.profiles ∧ ((defineSegment h a b c d s).1).concentrators = s.concentrators ∧
      ((defineSegment h a b c d s).1).incidents = s.incidents ∧ ((defineSegment h a b c d s).1).plans = s.plans ∧
      ((defineSegment h a b c d s).1).outages = s.outages ∧ ((defineSegment h a b c d s).1).orders = s.orders ∧
      ((defineSegment h a b c d s).1).windows = s.windows ∧ ((defineSegment h a b c d s).1).intake = s.intake ∧
      ((defineSegment h a b c d s).1).tracer = s.tracer ∧ ((defineSegment h a b c d s).1).register = s.register ∧
      ((defineSegment h a b c d s).1).dispatch = s.dispatch ∧ ((defineSegment h a b c d s).1).orderUnit = s.orderUnit ∧
      ((defineSegment h a b c d s).1).clock = s.clock ∧ ((defineSegment h a b c d s).1).port = s.port ∧
      ((defineSegment h a b c d s).1).pending = s.pending := by
  unfold defineSegment tested
  dsimp only
  repeat' split
  all_goals simp [refuse]

@[simp] theorem defineValve_frame (h : Header) (a b : Nat) (c d : Option Nat) (e f : Nat) (g : Option Tag) (i : Nat) (s : State) :
    ((defineValve h a b c d e f g i s).1).model = s.model ∧ ((defineValve h a b c d e f g i s).1).stopCount = s.stopCount ∧
      ((defineValve h a b c d e f g i s).1).segments = s.segments ∧ ((defineValve h a b c d e f g i s).1).points = s.points ∧
      ((defineValve h a b c d e f g i s).1).profiles = s.profiles ∧ ((defineValve h a b c d e f g i s).1).concentrators = s.concentrators ∧
      ((defineValve h a b c d e f g i s).1).incidents = s.incidents ∧ ((defineValve h a b c d e f g i s).1).plans = s.plans ∧
      ((defineValve h a b c d e f g i s).1).outages = s.outages ∧ ((defineValve h a b c d e f g i s).1).orders = s.orders ∧
      ((defineValve h a b c d e f g i s).1).windows = s.windows ∧ ((defineValve h a b c d e f g i s).1).intake = s.intake ∧
      ((defineValve h a b c d e f g i s).1).tracer = s.tracer ∧ ((defineValve h a b c d e f g i s).1).register = s.register ∧
      ((defineValve h a b c d e f g i s).1).dispatch = s.dispatch ∧ ((defineValve h a b c d e f g i s).1).orderUnit = s.orderUnit ∧
      ((defineValve h a b c d e f g i s).1).clock = s.clock ∧ ((defineValve h a b c d e f g i s).1).port = s.port ∧
      ((defineValve h a b c d e f g i s).1).pending = s.pending := by
  unfold defineValve tested
  dsimp only
  repeat' split
  all_goals simp [refuse]

@[simp] theorem openModel_frame (h : Header) (s : State) :
    ((openModel h s).1).stopCount = s.stopCount ∧ ((openModel h s).1).valves = s.valves ∧
      ((openModel h s).1).profiles = s.profiles ∧ ((openModel h s).1).concentrators = s.concentrators ∧
      ((openModel h s).1).outages = s.outages ∧ ((openModel h s).1).orders = s.orders ∧
      ((openModel h s).1).windows = s.windows ∧ ((openModel h s).1).intake = s.intake ∧
      ((openModel h s).1).register = s.register ∧ ((openModel h s).1).dispatch = s.dispatch ∧
      ((openModel h s).1).orderUnit = s.orderUnit ∧ ((openModel h s).1).clock = s.clock ∧
      ((openModel h s).1).port.state = s.port.state ∧ ((openModel h s).1).port.discarded = s.port.discarded ∧
      ((openModel h s).1).port.held = s.port.held ∧ ((openModel h s).1).port.skip = s.port.skip ∧
      ((openModel h s).1).port.sent = s.port.sent ∧ ((openModel h s).1).port.drawn = s.port.drawn ∧
      ((openModel h s).1).pending = s.pending := by
  unfold openModel tested
  dsimp only
  repeat' split
  all_goals simp [refuse]

@[simp] theorem alterSegment_frame (h : Header) (a : Nat) (b c : Option Nat) (s : State) :
    ((alterSegment h a b c s).1).model = s.model ∧ ((alterSegment h a b c s).1).stopCount = s.stopCount ∧
      ((alterSegment h a b c s).1).valves = s.valves ∧ ((alterSegment h a b c s).1).points = s.points ∧
      ((alterSegment h a b c s).1).profiles = s.profiles ∧ ((alterSegment h a b c s).1).concentrators = s.concentrators ∧
      ((alterSegment h a b c s).1).incidents = s.incidents ∧ ((alterSegment h a b c s).1).plans = s.plans ∧
      ((alterSegment h a b c s).1).outages = s.outages ∧ ((alterSegment h a b c s).1).orders = s.orders ∧
      ((alterSegment h a b c s).1).windows = s.windows ∧ ((alterSegment h a b c s).1).intake = s.intake ∧
      ((alterSegment h a b c s).1).tracer = s.tracer ∧ ((alterSegment h a b c s).1).register = s.register ∧
      ((alterSegment h a b c s).1).dispatch = s.dispatch ∧ ((alterSegment h a b c s).1).orderUnit = s.orderUnit ∧
      ((alterSegment h a b c s).1).clock = s.clock ∧ ((alterSegment h a b c s).1).port.state = s.port.state ∧
      ((alterSegment h a b c s).1).port.discarded = s.port.discarded ∧ ((alterSegment h a b c s).1).port.held = s.port.held ∧
      ((alterSegment h a b c s).1).port.skip = s.port.skip ∧ ((alterSegment h a b c s).1).port.sent = s.port.sent ∧
      ((alterSegment h a b c s).1).port.drawn = s.port.drawn ∧ ((alterSegment h a b c s).1).pending = s.pending := by
  unfold alterSegment tested
  dsimp only
  repeat' split
  all_goals simp [refuse]

@[simp] theorem splitSegment_frame (h : Header) (a : Nat) (b c : List Nat) (d : Nat) (s : State) :
    ((splitSegment h a b c d s).1).model = s.model ∧ ((splitSegment h a b c d s).1).profiles = s.profiles ∧
      ((splitSegment h a b c d s).1).concentrators = s.concentrators ∧ ((splitSegment h a b c d s).1).incidents = s.incidents ∧
      ((splitSegment h a b c d s).1).plans = s.plans ∧ ((splitSegment h a b c d s).1).outages = s.outages ∧
      ((splitSegment h a b c d s).1).orders = s.orders ∧ ((splitSegment h a b c d s).1).windows = s.windows ∧
      ((splitSegment h a b c d s).1).intake = s.intake ∧ ((splitSegment h a b c d s).1).register = s.register ∧
      ((splitSegment h a b c d s).1).dispatch = s.dispatch ∧ ((splitSegment h a b c d s).1).orderUnit = s.orderUnit ∧
      ((splitSegment h a b c d s).1).clock = s.clock ∧ ((splitSegment h a b c d s).1).port.state = s.port.state ∧
      ((splitSegment h a b c d s).1).port.discarded = s.port.discarded ∧ ((splitSegment h a b c d s).1).port.held = s.port.held ∧
      ((splitSegment h a b c d s).1).port.skip = s.port.skip ∧ ((splitSegment h a b c d s).1).port.sent = s.port.sent ∧
      ((splitSegment h a b c d s).1).port.drawn = s.port.drawn ∧ ((splitSegment h a b c d s).1).pending = s.pending := by
  unfold splitSegment tested
  dsimp only
  repeat' split
  all_goals simp [refuse]

@[simp] theorem mergeAtStop_frame (h : Header) (a : Nat) (s : State) :
    ((mergeAtStop h a s).1).model = s.model ∧ ((mergeAtStop h a s).1).profiles = s.profiles ∧
      ((mergeAtStop h a s).1).concentrators = s.concentrators ∧ ((mergeAtStop h a s).1).outages = s.outages ∧
      ((mergeAtStop h a s).1).orders = s.orders ∧ ((mergeAtStop h a s).1).windows = s.windows ∧
      ((mergeAtStop h a s).1).intake = s.intake ∧ ((mergeAtStop h a s).1).register = s.register ∧
      ((mergeAtStop h a s).1).dispatch = s.dispatch ∧ ((mergeAtStop h a s).1).orderUnit = s.orderUnit ∧
      ((mergeAtStop h a s).1).clock = s.clock ∧ ((mergeAtStop h a s).1).port.state = s.port.state ∧
      ((mergeAtStop h a s).1).port.discarded = s.port.discarded ∧ ((mergeAtStop h a s).1).port.held = s.port.held ∧
      ((mergeAtStop h a s).1).port.skip = s.port.skip ∧ ((mergeAtStop h a s).1).port.sent = s.port.sent ∧
      ((mergeAtStop h a s).1).port.drawn = s.port.drawn ∧ ((mergeAtStop h a s).1).pending = s.pending := by
  unfold mergeAtStop tested
  dsimp only
  repeat' split
  all_goals simp [refuse]

@[simp] theorem readSegment_frame (a : Nat) (s : State) :
    ((readSegment a s).1).model = s.model ∧ ((readSegment a s).1).stopCount = s.stopCount ∧
      ((readSegment a s).1).segments = s.segments ∧ ((readSegment a s).1).valves = s.valves ∧
      ((readSegment a s).1).points = s.points ∧ ((readSegment a s).1).profiles = s.profiles ∧
      ((readSegment a s).1).concentrators = s.concentrators ∧ ((readSegment a s).1).incidents = s.incidents ∧
      ((readSegment a s).1).plans = s.plans ∧ ((readSegment a s).1).outages = s.outages ∧
      ((readSegment a s).1).orders = s.orders ∧ ((readSegment a s).1).windows = s.windows ∧
      ((readSegment a s).1).intake = s.intake ∧ ((readSegment a s).1).tracer = s.tracer ∧
      ((readSegment a s).1).register = s.register ∧ ((readSegment a s).1).dispatch = s.dispatch ∧
      ((readSegment a s).1).orderUnit = s.orderUnit ∧ ((readSegment a s).1).clock = s.clock ∧
      ((readSegment a s).1).notices = s.notices ∧ ((readSegment a s).1).port = s.port ∧
      ((readSegment a s).1).pending = s.pending := by
  unfold readSegment tested
  dsimp only
  repeat' split
  all_goals simp [refuse]

@[simp] theorem readValve_frame (a : Nat) (s : State) :
    ((readValve a s).1).model = s.model ∧ ((readValve a s).1).stopCount = s.stopCount ∧
      ((readValve a s).1).segments = s.segments ∧ ((readValve a s).1).valves = s.valves ∧
      ((readValve a s).1).points = s.points ∧ ((readValve a s).1).profiles = s.profiles ∧
      ((readValve a s).1).concentrators = s.concentrators ∧ ((readValve a s).1).incidents = s.incidents ∧
      ((readValve a s).1).plans = s.plans ∧ ((readValve a s).1).outages = s.outages ∧
      ((readValve a s).1).orders = s.orders ∧ ((readValve a s).1).windows = s.windows ∧
      ((readValve a s).1).intake = s.intake ∧ ((readValve a s).1).tracer = s.tracer ∧
      ((readValve a s).1).register = s.register ∧ ((readValve a s).1).dispatch = s.dispatch ∧
      ((readValve a s).1).orderUnit = s.orderUnit ∧ ((readValve a s).1).clock = s.clock ∧
      ((readValve a s).1).notices = s.notices ∧ ((readValve a s).1).port = s.port ∧
      ((readValve a s).1).pending = s.pending := by
  unfold readValve tested
  dsimp only
  repeat' split
  all_goals simp [refuse]

@[simp] theorem readStrays_frame (a : Option Nat) (s : State) :
    ((readStrays a s).1).model = s.model ∧ ((readStrays a s).1).stopCount = s.stopCount ∧
      ((readStrays a s).1).segments = s.segments ∧ ((readStrays a s).1).valves = s.valves ∧
      ((readStrays a s).1).points = s.points ∧ ((readStrays a s).1).profiles = s.profiles ∧
      ((readStrays a s).1).concentrators = s.concentrators ∧ ((readStrays a s).1).incidents = s.incidents ∧
      ((readStrays a s).1).plans = s.plans ∧ ((readStrays a s).1).outages = s.outages ∧
      ((readStrays a s).1).orders = s.orders ∧ ((readStrays a s).1).windows = s.windows ∧
      ((readStrays a s).1).tracer = s.tracer ∧ ((readStrays a s).1).register = s.register ∧
      ((readStrays a s).1).dispatch = s.dispatch ∧ ((readStrays a s).1).orderUnit = s.orderUnit ∧
      ((readStrays a s).1).clock = s.clock ∧ ((readStrays a s).1).notices = s.notices ∧
      ((readStrays a s).1).port = s.port ∧ ((readStrays a s).1).pending = s.pending := by
  simp [readStrays]

@[simp] theorem linkReset_frame (h : Header) (s : State) :
    ((linkReset h s).1).model = s.model ∧ ((linkReset h s).1).stopCount = s.stopCount ∧
      ((linkReset h s).1).segments = s.segments ∧ ((linkReset h s).1).valves = s.valves ∧
      ((linkReset h s).1).points = s.points ∧ ((linkReset h s).1).profiles = s.profiles ∧
      ((linkReset h s).1).concentrators = s.concentrators ∧ ((linkReset h s).1).incidents = s.incidents ∧
      ((linkReset h s).1).plans = s.plans ∧ ((linkReset h s).1).outages = s.outages ∧
      ((linkReset h s).1).orders = s.orders ∧ ((linkReset h s).1).windows = s.windows ∧
      ((linkReset h s).1).tracer = s.tracer ∧ ((linkReset h s).1).register = s.register ∧
      ((linkReset h s).1).dispatch = s.dispatch ∧ ((linkReset h s).1).orderUnit = s.orderUnit ∧
      ((linkReset h s).1).clock = s.clock ∧ ((linkReset h s).1).notices = s.notices ∧
      ((linkReset h s).1).port = s.port ∧ ((linkReset h s).1).pending = s.pending := by
  unfold linkReset tested
  dsimp only
  repeat' split
  all_goals simp [refuse]

@[simp] theorem definePoint_frame (h : Header) (a : Nat) (b : Tag) (c d e f g i j : Nat) (s : State) :
    ((definePoint h a b c d e f g i j s).1).model = s.model ∧ ((definePoint h a b c d e f g i j s).1).stopCount = s.stopCount ∧
      ((definePoint h a b c d e f g i j s).1).segments = s.segments ∧ ((definePoint h a b c d e f g i j s).1).valves = s.valves ∧
      ((definePoint h a b c d e f g i j s).1).profiles = s.profiles ∧ ((definePoint h a b c d e f g i j s).1).concentrators = s.concentrators ∧
      ((definePoint h a b c d e f g i j s).1).incidents = s.incidents ∧ ((definePoint h a b c d e f g i j s).1).plans = s.plans ∧
      ((definePoint h a b c d e f g i j s).1).outages = s.outages ∧ ((definePoint h a b c d e f g i j s).1).orders = s.orders ∧
      ((definePoint h a b c d e f g i j s).1).windows = s.windows ∧ ((definePoint h a b c d e f g i j s).1).intake = s.intake ∧
      ((definePoint h a b c d e f g i j s).1).tracer = s.tracer ∧ ((definePoint h a b c d e f g i j s).1).register = s.register ∧
      ((definePoint h a b c d e f g i j s).1).dispatch = s.dispatch ∧ ((definePoint h a b c d e f g i j s).1).orderUnit = s.orderUnit ∧
      ((definePoint h a b c d e f g i j s).1).clock = s.clock ∧ ((definePoint h a b c d e f g i j s).1).port = s.port ∧
      ((definePoint h a b c d e f g i j s).1).pending = s.pending := by
  unfold definePoint tested
  dsimp only
  repeat' split
  all_goals simp [refuse]

@[simp] theorem alterPoint_frame (h : Header) (a : Nat) (b c d e f g : Option Nat) (s : State) :
    ((alterPoint h a b c d e f g s).1).model = s.model ∧ ((alterPoint h a b c d e f g s).1).stopCount = s.stopCount ∧
      ((alterPoint h a b c d e f g s).1).segments = s.segments ∧ ((alterPoint h a b c d e f g s).1).valves = s.valves ∧
      ((alterPoint h a b c d e f g s).1).profiles = s.profiles ∧ ((alterPoint h a b c d e f g s).1).concentrators = s.concentrators ∧
      ((alterPoint h a b c d e f g s).1).outages = s.outages ∧ ((alterPoint h a b c d e f g s).1).orders = s.orders ∧
      ((alterPoint h a b c d e f g s).1).windows = s.windows ∧ ((alterPoint h a b c d e f g s).1).intake = s.intake ∧
      ((alterPoint h a b c d e f g s).1).tracer = s.tracer ∧ ((alterPoint h a b c d e f g s).1).register = s.register ∧
      ((alterPoint h a b c d e f g s).1).dispatch = s.dispatch ∧ ((alterPoint h a b c d e f g s).1).orderUnit = s.orderUnit ∧
      ((alterPoint h a b c d e f g s).1).clock = s.clock ∧ ((alterPoint h a b c d e f g s).1).port.state = s.port.state ∧
      ((alterPoint h a b c d e f g s).1).port.discarded = s.port.discarded ∧ ((alterPoint h a b c d e f g s).1).port.held = s.port.held ∧
      ((alterPoint h a b c d e f g s).1).port.skip = s.port.skip ∧ ((alterPoint h a b c d e f g s).1).port.sent = s.port.sent ∧
      ((alterPoint h a b c d e f g s).1).port.drawn = s.port.drawn ∧ ((alterPoint h a b c d e f g s).1).pending = s.pending := by
  unfold alterPoint tested
  dsimp only
  repeat' split
  all_goals simp [refuse]

@[simp] theorem setProfile_frame (h : Header) (a b c d e f g i : Nat) (j : Bool) (s : State) :
    ((setProfile h a b c d e f g i j s).1).model = s.model ∧ ((setProfile h a b c d e f g i j s).1).stopCount = s.stopCount ∧
      ((setProfile h a b c d e f g i j s).1).segments = s.segments ∧ ((setProfile h a b c d e f g i j s).1).valves = s.valves ∧
      ((setProfile h a b c d e f g i j s).1).concentrators = s.concentrators ∧ ((setProfile h a b c d e f g i j s).1).outages = s.outages ∧
      ((setProfile h a b c d e f g i j s).1).orders = s.orders ∧ ((setProfile h a b c d e f g i j s).1).windows = s.windows ∧
      ((setProfile h a b c d e f g i j s).1).intake = s.intake ∧ ((setProfile h a b c d e f g i j s).1).tracer = s.tracer ∧
      ((setProfile h a b c d e f g i j s).1).register = s.register ∧ ((setProfile h a b c d e f g i j s).1).dispatch = s.dispatch ∧
      ((setProfile h a b c d e f g i j s).1).orderUnit = s.orderUnit ∧ ((setProfile h a b c d e f g i j s).1).clock = s.clock ∧
      ((setProfile h a b c d e f g i j s).1).port.state = s.port.state ∧ ((setProfile h a b c d e f g i j s).1).port.discarded = s.port.discarded ∧
      ((setProfile h a b c d e f g i j s).1).port.held = s.port.held ∧ ((setProfile h a b c d e f g i j s).1).port.skip = s.port.skip ∧
      ((setProfile h a b c d e f g i j s).1).port.sent = s.port.sent ∧ ((setProfile h a b c d e f g i j s).1).port.drawn = s.port.drawn ∧
      ((setProfile h a b c d e f g i j s).1).pending = s.pending := by
  unfold setProfile tested
  dsimp only
  repeat' split
  all_goals simp [refuse]

@[simp] theorem readTrace_frame (s : State) :
    ((readTrace s).1).model = s.model ∧ ((readTrace s).1).stopCount = s.stopCount ∧
      ((readTrace s).1).segments = s.segments ∧ ((readTrace s).1).valves = s.valves ∧
      ((readTrace s).1).points = s.points ∧ ((readTrace s).1).profiles = s.profiles ∧
      ((readTrace s).1).concentrators = s.concentrators ∧ ((readTrace s).1).incidents = s.incidents ∧
      ((readTrace s).1).plans = s.plans ∧ ((readTrace s).1).outages = s.outages ∧
      ((readTrace s).1).orders = s.orders ∧ ((readTrace s).1).windows = s.windows ∧
      ((readTrace s).1).intake = s.intake ∧ ((readTrace s).1).tracer = s.tracer ∧
      ((readTrace s).1).register = s.register ∧ ((readTrace s).1).dispatch = s.dispatch ∧
      ((readTrace s).1).orderUnit = s.orderUnit ∧ ((readTrace s).1).clock = s.clock ∧
      ((readTrace s).1).notices = s.notices ∧ ((readTrace s).1).port = s.port ∧
      ((readTrace s).1).pending = s.pending := by
  simp [readTrace]

@[simp] theorem readOutage_frame (a b : Nat) (s : State) :
    ((readOutage a b s).1).model = s.model ∧ ((readOutage a b s).1).stopCount = s.stopCount ∧
      ((readOutage a b s).1).segments = s.segments ∧ ((readOutage a b s).1).valves = s.valves ∧
      ((readOutage a b s).1).points = s.points ∧ ((readOutage a b s).1).profiles = s.profiles ∧
      ((readOutage a b s).1).concentrators = s.concentrators ∧ ((readOutage a b s).1).incidents = s.incidents ∧
      ((readOutage a b s).1).plans = s.plans ∧ ((readOutage a b s).1).outages = s.outages ∧
      ((readOutage a b s).1).orders = s.orders ∧ ((readOutage a b s).1).windows = s.windows ∧
      ((readOutage a b s).1).intake = s.intake ∧ ((readOutage a b s).1).tracer = s.tracer ∧
      ((readOutage a b s).1).register = s.register ∧ ((readOutage a b s).1).dispatch = s.dispatch ∧
      ((readOutage a b s).1).orderUnit = s.orderUnit ∧ ((readOutage a b s).1).clock = s.clock ∧
      ((readOutage a b s).1).notices = s.notices ∧ ((readOutage a b s).1).port = s.port ∧
      ((readOutage a b s).1).pending = s.pending := by
  unfold readOutage tested
  dsimp only
  repeat' split
  all_goals simp [refuse]

@[simp] theorem reportRelit_frame (h : Header) (a b : Nat) (s : State) :
    ((reportRelit h a b s).1).model = s.model ∧ ((reportRelit h a b s).1).stopCount = s.stopCount ∧
      ((reportRelit h a b s).1).valves = s.valves ∧ ((reportRelit h a b s).1).points = s.points ∧
      ((reportRelit h a b s).1).profiles = s.profiles ∧ ((reportRelit h a b s).1).concentrators = s.concentrators ∧
      ((reportRelit h a b s).1).plans = s.plans ∧ ((reportRelit h a b s).1).orders = s.orders ∧
      ((reportRelit h a b s).1).windows = s.windows ∧ ((reportRelit h a b s).1).intake = s.intake ∧
      ((reportRelit h a b s).1).tracer = s.tracer ∧ ((reportRelit h a b s).1).register = s.register ∧
      ((reportRelit h a b s).1).dispatch = s.dispatch ∧ ((reportRelit h a b s).1).orderUnit = s.orderUnit ∧
      ((reportRelit h a b s).1).clock = s.clock ∧ ((reportRelit h a b s).1).port.state = s.port.state ∧
      ((reportRelit h a b s).1).port.discarded = s.port.discarded ∧ ((reportRelit h a b s).1).port.held = s.port.held ∧
      ((reportRelit h a b s).1).port.skip = s.port.skip ∧ ((reportRelit h a b s).1).port.sent = s.port.sent ∧
      ((reportRelit h a b s).1).port.drawn = s.port.drawn ∧ ((reportRelit h a b s).1).pending = s.pending := by
  unfold reportRelit tested
  dsimp only
  repeat' split
  all_goals simp [refuse]

@[simp] theorem reportCall_frame (h : Header) (a b : Nat) (c d e : Bool) (f : Option Nat) (s : State) :
    ((reportCall h a b c d e f s).1).model = s.model ∧ ((reportCall h a b c d e f s).1).stopCount = s.stopCount ∧
      ((reportCall h a b c d e f s).1).valves = s.valves ∧ ((reportCall h a b c d e f s).1).points = s.points ∧
      ((reportCall h a b c d e f s).1).profiles = s.profiles ∧ ((reportCall h a b c d e f s).1).concentrators = s.concentrators ∧
      ((reportCall h a b c d e f s).1).plans = s.plans ∧ ((reportCall h a b c d e f s).1).outages = s.outages ∧
      ((reportCall h a b c d e f s).1).orders = s.orders ∧ ((reportCall h a b c d e f s).1).windows = s.windows ∧
      ((reportCall h a b c d e f s).1).intake = s.intake ∧ ((reportCall h a b c d e f s).1).tracer = s.tracer ∧
      ((reportCall h a b c d e f s).1).register = s.register ∧ ((reportCall h a b c d e f s).1).dispatch = s.dispatch ∧
      ((reportCall h a b c d e f s).1).orderUnit = s.orderUnit ∧ ((reportCall h a b c d e f s).1).clock = s.clock ∧
      ((reportCall h a b c d e f s).1).port.state = s.port.state ∧ ((reportCall h a b c d e f s).1).port.discarded = s.port.discarded ∧
      ((reportCall h a b c d e f s).1).port.held = s.port.held ∧ ((reportCall h a b c d e f s).1).port.skip = s.port.skip ∧
      ((reportCall h a b c d e f s).1).port.sent = s.port.sent ∧ ((reportCall h a b c d e f s).1).port.drawn = s.port.drawn ∧
      ((reportCall h a b c d e f s).1).pending = s.pending := by
  unfold reportCall tested
  dsimp only
  repeat' split
  all_goals simp [refuse]

@[simp] theorem regrade_frame (h : Header) (a : Nat) (b : Int) (s : State) :
    ((regrade h a b s).1).model = s.model ∧ ((regrade h a b s).1).stopCount = s.stopCount ∧
      ((regrade h a b s).1).segments = s.segments ∧ ((regrade h a b s).1).valves = s.valves ∧
      ((regrade h a b s).1).points = s.points ∧ ((regrade h a b s).1).profiles = s.profiles ∧
      ((regrade h a b s).1).concentrators = s.concentrators ∧ ((regrade h a b s).1).plans = s.plans ∧
      ((regrade h a b s).1).outages = s.outages ∧ ((regrade h a b s).1).orders = s.orders ∧
      ((regrade h a b s).1).windows = s.windows ∧ ((regrade h a b s).1).intake = s.intake ∧
      ((regrade h a b s).1).tracer = s.tracer ∧ ((regrade h a b s).1).register = s.register ∧
      ((regrade h a b s).1).dispatch = s.dispatch ∧ ((regrade h a b s).1).orderUnit = s.orderUnit ∧
      ((regrade h a b s).1).clock = s.clock ∧ ((regrade h a b s).1).port.state = s.port.state ∧
      ((regrade h a b s).1).port.discarded = s.port.discarded ∧ ((regrade h a b s).1).port.held = s.port.held ∧
      ((regrade h a b s).1).port.skip = s.port.skip ∧ ((regrade h a b s).1).port.sent = s.port.sent ∧
      ((regrade h a b s).1).port.drawn = s.port.drawn ∧ ((regrade h a b s).1).pending = s.pending := by
  unfold regrade tested
  dsimp only
  repeat' split
  all_goals simp [refuse]

@[simp] theorem setAllowances_frame (h : Header) (a b c : Nat) (s : State) :
    ((setAllowances h a b c s).1).model = s.model ∧ ((setAllowances h a b c s).1).stopCount = s.stopCount ∧
      ((setAllowances h a b c s).1).segments = s.segments ∧ ((setAllowances h a b c s).1).valves = s.valves ∧
      ((setAllowances h a b c s).1).points = s.points ∧ ((setAllowances h a b c s).1).profiles = s.profiles ∧
      ((setAllowances h a b c s).1).concentrators = s.concentrators ∧ ((setAllowances h a b c s).1).incidents = s.incidents ∧
      ((setAllowances h a b c s).1).plans = s.plans ∧ ((setAllowances h a b c s).1).outages = s.outages ∧
      ((setAllowances h a b c s).1).orders = s.orders ∧ ((setAllowances h a b c s).1).windows = s.windows ∧
      ((setAllowances h a b c s).1).intake = s.intake ∧ ((setAllowances h a b c s).1).tracer = s.tracer ∧
      ((setAllowances h a b c s).1).dispatch = s.dispatch ∧ ((setAllowances h a b c s).1).orderUnit = s.orderUnit ∧
      ((setAllowances h a b c s).1).clock = s.clock ∧ ((setAllowances h a b c s).1).notices = s.notices ∧
      ((setAllowances h a b c s).1).port = s.port ∧ ((setAllowances h a b c s).1).pending = s.pending := by
  unfold setAllowances tested
  dsimp only
  repeat' split
  all_goals simp [refuse]

@[simp] theorem declareControlled_frame (h : Header) (a : Nat) (s : State) :
    ((declareControlled h a s).1).model = s.model ∧ ((declareControlled h a s).1).stopCount = s.stopCount ∧
      ((declareControlled h a s).1).segments = s.segments ∧ ((declareControlled h a s).1).valves = s.valves ∧
      ((declareControlled h a s).1).points = s.points ∧ ((declareControlled h a s).1).profiles = s.profiles ∧
      ((declareControlled h a s).1).concentrators = s.concentrators ∧ ((declareControlled h a s).1).plans = s.plans ∧
      ((declareControlled h a s).1).outages = s.outages ∧ ((declareControlled h a s).1).orders = s.orders ∧
      ((declareControlled h a s).1).windows = s.windows ∧ ((declareControlled h a s).1).intake = s.intake ∧
      ((declareControlled h a s).1).tracer = s.tracer ∧ ((declareControlled h a s).1).register = s.register ∧
      ((declareControlled h a s).1).dispatch = s.dispatch ∧ ((declareControlled h a s).1).orderUnit = s.orderUnit ∧
      ((declareControlled h a s).1).clock = s.clock ∧ ((declareControlled h a s).1).port.state = s.port.state ∧
      ((declareControlled h a s).1).port.discarded = s.port.discarded ∧ ((declareControlled h a s).1).port.held = s.port.held ∧
      ((declareControlled h a s).1).port.skip = s.port.skip ∧ ((declareControlled h a s).1).port.sent = s.port.sent ∧
      ((declareControlled h a s).1).port.drawn = s.port.drawn ∧ ((declareControlled h a s).1).pending = s.pending := by
  unfold declareControlled tested
  dsimp only
  repeat' split
  all_goals simp [refuse]

@[simp] theorem closeIncident_frame (h : Header) (a : Nat) (s : State) :
    ((closeIncident h a s).1).model = s.model ∧ ((closeIncident h a s).1).stopCount = s.stopCount ∧
      ((closeIncident h a s).1).valves = s.valves ∧ ((closeIncident h a s).1).points = s.points ∧
      ((closeIncident h a s).1).profiles = s.profiles ∧ ((closeIncident h a s).1).concentrators = s.concentrators ∧
      ((closeIncident h a s).1).outages = s.outages ∧ ((closeIncident h a s).1).orders = s.orders ∧
      ((closeIncident h a s).1).windows = s.windows ∧ ((closeIncident h a s).1).intake = s.intake ∧
      ((closeIncident h a s).1).tracer = s.tracer ∧ ((closeIncident h a s).1).register = s.register ∧
      ((closeIncident h a s).1).orderUnit = s.orderUnit ∧ ((closeIncident h a s).1).clock = s.clock ∧
      ((closeIncident h a s).1).port.state = s.port.state ∧ ((closeIncident h a s).1).port.discarded = s.port.discarded ∧
      ((closeIncident h a s).1).port.held = s.port.held ∧ ((closeIncident h a s).1).port.skip = s.port.skip ∧
      ((closeIncident h a s).1).port.sent = s.port.sent ∧ ((closeIncident h a s).1).port.drawn = s.port.drawn ∧
      ((closeIncident h a s).1).pending = s.pending := by
  unfold closeIncident tested
  dsimp only
  repeat' split
  all_goals simp [refuse]

@[simp] theorem readIncident_frame (a : Nat) (s : State) :
    ((readIncident a s).1).model = s.model ∧ ((readIncident a s).1).stopCount = s.stopCount ∧
      ((readIncident a s).1).segments = s.segments ∧ ((readIncident a s).1).valves = s.valves ∧
      ((readIncident a s).1).points = s.points ∧ ((readIncident a s).1).profiles = s.profiles ∧
      ((readIncident a s).1).concentrators = s.concentrators ∧ ((readIncident a s).1).incidents = s.incidents ∧
      ((readIncident a s).1).plans = s.plans ∧ ((readIncident a s).1).outages = s.outages ∧
      ((readIncident a s).1).orders = s.orders ∧ ((readIncident a s).1).windows = s.windows ∧
      ((readIncident a s).1).intake = s.intake ∧ ((readIncident a s).1).tracer = s.tracer ∧
      ((readIncident a s).1).register = s.register ∧ ((readIncident a s).1).dispatch = s.dispatch ∧
      ((readIncident a s).1).orderUnit = s.orderUnit ∧ ((readIncident a s).1).clock = s.clock ∧
      ((readIncident a s).1).notices = s.notices ∧ ((readIncident a s).1).port.state = s.port.state ∧
      ((readIncident a s).1).port.discarded = s.port.discarded ∧ ((readIncident a s).1).port.held = s.port.held ∧
      ((readIncident a s).1).port.skip = s.port.skip ∧ ((readIncident a s).1).port.sent = s.port.sent ∧
      ((readIncident a s).1).port.drawn = s.port.drawn ∧ ((readIncident a s).1).pending = s.pending := by
  unfold readIncident tested
  dsimp only
  repeat' split
  all_goals simp [refuse]

@[simp] theorem offerNext_frame (h : Header) (a b : Nat) (s : State) :
    ((offerNext h a b s).1).model = s.model ∧ ((offerNext h a b s).1).stopCount = s.stopCount ∧
      ((offerNext h a b s).1).segments = s.segments ∧ ((offerNext h a b s).1).valves = s.valves ∧
      ((offerNext h a b s).1).points = s.points ∧ ((offerNext h a b s).1).profiles = s.profiles ∧
      ((offerNext h a b s).1).concentrators = s.concentrators ∧ ((offerNext h a b s).1).plans = s.plans ∧
      ((offerNext h a b s).1).outages = s.outages ∧ ((offerNext h a b s).1).orders = s.orders ∧
      ((offerNext h a b s).1).windows = s.windows ∧ ((offerNext h a b s).1).intake = s.intake ∧
      ((offerNext h a b s).1).tracer = s.tracer ∧ ((offerNext h a b s).1).register = s.register ∧
      ((offerNext h a b s).1).orderUnit = s.orderUnit ∧ ((offerNext h a b s).1).clock = s.clock ∧
      ((offerNext h a b s).1).port.state = s.port.state ∧ ((offerNext h a b s).1).port.discarded = s.port.discarded ∧
      ((offerNext h a b s).1).port.held = s.port.held ∧ ((offerNext h a b s).1).port.skip = s.port.skip ∧
      ((offerNext h a b s).1).port.sent = s.port.sent ∧ ((offerNext h a b s).1).port.drawn = s.port.drawn ∧
      ((offerNext h a b s).1).pending = s.pending := by
  unfold offerNext tested
  dsimp only
  repeat' split
  all_goals simp [refuse]

@[simp] theorem acceptOffer_frame (h : Header) (a : Nat) (s : State) :
    ((acceptOffer h a s).1).model = s.model ∧ ((acceptOffer h a s).1).stopCount = s.stopCount ∧
      ((acceptOffer h a s).1).segments = s.segments ∧ ((acceptOffer h a s).1).valves = s.valves ∧
      ((acceptOffer h a s).1).points = s.points ∧ ((acceptOffer h a s).1).profiles = s.profiles ∧
      ((acceptOffer h a s).1).concentrators = s.concentrators ∧ ((acceptOffer h a s).1).plans = s.plans ∧
      ((acceptOffer h a s).1).outages = s.outages ∧ ((acceptOffer h a s).1).orders = s.orders ∧
      ((acceptOffer h a s).1).windows = s.windows ∧ ((acceptOffer h a s).1).intake = s.intake ∧
      ((acceptOffer h a s).1).tracer = s.tracer ∧ ((acceptOffer h a s).1).register = s.register ∧
      ((acceptOffer h a s).1).orderUnit = s.orderUnit ∧ ((acceptOffer h a s).1).clock = s.clock ∧
      ((acceptOffer h a s).1).port.state = s.port.state ∧ ((acceptOffer h a s).1).port.discarded = s.port.discarded ∧
      ((acceptOffer h a s).1).port.held = s.port.held ∧ ((acceptOffer h a s).1).port.skip = s.port.skip ∧
      ((acceptOffer h a s).1).port.sent = s.port.sent ∧ ((acceptOffer h a s).1).port.drawn = s.port.drawn ∧
      ((acceptOffer h a s).1).pending = s.pending := by
  unfold acceptOffer tested
  dsimp only
  repeat' split
  all_goals simp [refuse]

@[simp] theorem declineOffer_frame (h : Header) (a : Nat) (s : State) :
    ((declineOffer h a s).1).model = s.model ∧ ((declineOffer h a s).1).stopCount = s.stopCount ∧
      ((declineOffer h a s).1).segments = s.segments ∧ ((declineOffer h a s).1).valves = s.valves ∧
      ((declineOffer h a s).1).points = s.points ∧ ((declineOffer h a s).1).profiles = s.profiles ∧
      ((declineOffer h a s).1).concentrators = s.concentrators ∧ ((declineOffer h a s).1).plans = s.plans ∧
      ((declineOffer h a s).1).outages = s.outages ∧ ((declineOffer h a s).1).orders = s.orders ∧
      ((declineOffer h a s).1).windows = s.windows ∧ ((declineOffer h a s).1).intake = s.intake ∧
      ((declineOffer h a s).1).tracer = s.tracer ∧ ((declineOffer h a s).1).register = s.register ∧
      ((declineOffer h a s).1).orderUnit = s.orderUnit ∧ ((declineOffer h a s).1).clock = s.clock ∧
      ((declineOffer h a s).1).port.state = s.port.state ∧ ((declineOffer h a s).1).port.discarded = s.port.discarded ∧
      ((declineOffer h a s).1).port.held = s.port.held ∧ ((declineOffer h a s).1).port.skip = s.port.skip ∧
      ((declineOffer h a s).1).port.sent = s.port.sent ∧ ((declineOffer h a s).1).port.drawn = s.port.drawn ∧
      ((declineOffer h a s).1).pending = s.pending := by
  unfold declineOffer tested
  dsimp only
  repeat' split
  all_goals simp [refuse]

@[simp] theorem dispatchDirect_frame (h : Header) (a : Nat) (s : State) :
    ((dispatchDirect h a s).1).model = s.model ∧ ((dispatchDirect h a s).1).stopCount = s.stopCount ∧
      ((dispatchDirect h a s).1).segments = s.segments ∧ ((dispatchDirect h a s).1).valves = s.valves ∧
      ((dispatchDirect h a s).1).points = s.points ∧ ((dispatchDirect h a s).1).profiles = s.profiles ∧
      ((dispatchDirect h a s).1).concentrators = s.concentrators ∧ ((dispatchDirect h a s).1).plans = s.plans ∧
      ((dispatchDirect h a s).1).outages = s.outages ∧ ((dispatchDirect h a s).1).orders = s.orders ∧
      ((dispatchDirect h a s).1).windows = s.windows ∧ ((dispatchDirect h a s).1).intake = s.intake ∧
      ((dispatchDirect h a s).1).tracer = s.tracer ∧ ((dispatchDirect h a s).1).register = s.register ∧
      ((dispatchDirect h a s).1).orderUnit = s.orderUnit ∧ ((dispatchDirect h a s).1).clock = s.clock ∧
      ((dispatchDirect h a s).1).port.state = s.port.state ∧ ((dispatchDirect h a s).1).port.discarded = s.port.discarded ∧
      ((dispatchDirect h a s).1).port.held = s.port.held ∧ ((dispatchDirect h a s).1).port.skip = s.port.skip ∧
      ((dispatchDirect h a s).1).port.sent = s.port.sent ∧ ((dispatchDirect h a s).1).port.drawn = s.port.drawn ∧
      ((dispatchDirect h a s).1).pending = s.pending := by
  unfold dispatchDirect tested
  dsimp only
  repeat' split
  all_goals simp [refuse]

@[simp] theorem reportAttended_frame (h : Header) (a : Nat) (s : State) :
    ((reportAttended h a s).1).model = s.model ∧ ((reportAttended h a s).1).stopCount = s.stopCount ∧
      ((reportAttended h a s).1).segments = s.segments ∧ ((reportAttended h a s).1).valves = s.valves ∧
      ((reportAttended h a s).1).points = s.points ∧ ((reportAttended h a s).1).profiles = s.profiles ∧
      ((reportAttended h a s).1).concentrators = s.concentrators ∧ ((reportAttended h a s).1).plans = s.plans ∧
      ((reportAttended h a s).1).outages = s.outages ∧ ((reportAttended h a s).1).orders = s.orders ∧
      ((reportAttended h a s).1).windows = s.windows ∧ ((reportAttended h a s).1).intake = s.intake ∧
      ((reportAttended h a s).1).tracer = s.tracer ∧ ((reportAttended h a s).1).register = s.register ∧
      ((reportAttended h a s).1).orderUnit = s.orderUnit ∧ ((reportAttended h a s).1).clock = s.clock ∧
      ((reportAttended h a s).1).port.state = s.port.state ∧ ((reportAttended h a s).1).port.discarded = s.port.discarded ∧
      ((reportAttended h a s).1).port.held = s.port.held ∧ ((reportAttended h a s).1).port.skip = s.port.skip ∧
      ((reportAttended h a s).1).port.sent = s.port.sent ∧ ((reportAttended h a s).1).port.drawn = s.port.drawn ∧
      ((reportAttended h a s).1).pending = s.pending := by
  unfold reportAttended tested
  dsimp only
  repeat' split
  all_goals simp [refuse]

@[simp] theorem setOfferTime_frame (h : Header) (a : Nat) (s : State) :
    ((setOfferTime h a s).1).model = s.model ∧ ((setOfferTime h a s).1).stopCount = s.stopCount ∧
      ((setOfferTime h a s).1).segments = s.segments ∧ ((setOfferTime h a s).1).valves = s.valves ∧
      ((setOfferTime h a s).1).points = s.points ∧ ((setOfferTime h a s).1).profiles = s.profiles ∧
      ((setOfferTime h a s).1).concentrators = s.concentrators ∧ ((setOfferTime h a s).1).incidents = s.incidents ∧
      ((setOfferTime h a s).1).plans = s.plans ∧ ((setOfferTime h a s).1).outages = s.outages ∧
      ((setOfferTime h a s).1).orders = s.orders ∧ ((setOfferTime h a s).1).windows = s.windows ∧
      ((setOfferTime h a s).1).intake = s.intake ∧ ((setOfferTime h a s).1).tracer = s.tracer ∧
      ((setOfferTime h a s).1).register = s.register ∧ ((setOfferTime h a s).1).orderUnit = s.orderUnit ∧
      ((setOfferTime h a s).1).clock = s.clock ∧ ((setOfferTime h a s).1).notices = s.notices ∧
      ((setOfferTime h a s).1).port = s.port ∧ ((setOfferTime h a s).1).pending = s.pending := by
  unfold setOfferTime tested
  dsimp only
  repeat' split
  all_goals simp [refuse]

@[simp] theorem createPlan_frame (h : Header) (a b : Option Nat) (c : Nat) (d e f : Option Nat) (s : State) :
    ((createPlan h a b c d e f s).1).model = s.model ∧ ((createPlan h a b c d e f s).1).stopCount = s.stopCount ∧
      ((createPlan h a b c d e f s).1).segments = s.segments ∧ ((createPlan h a b c d e f s).1).valves = s.valves ∧
      ((createPlan h a b c d e f s).1).points = s.points ∧ ((createPlan h a b c d e f s).1).profiles = s.profiles ∧
      ((createPlan h a b c d e f s).1).concentrators = s.concentrators ∧ ((createPlan h a b c d e f s).1).outages = s.outages ∧
      ((createPlan h a b c d e f s).1).orders = s.orders ∧ ((createPlan h a b c d e f s).1).windows = s.windows ∧
      ((createPlan h a b c d e f s).1).intake = s.intake ∧ ((createPlan h a b c d e f s).1).tracer = s.tracer ∧
      ((createPlan h a b c d e f s).1).register = s.register ∧ ((createPlan h a b c d e f s).1).dispatch = s.dispatch ∧
      ((createPlan h a b c d e f s).1).orderUnit = s.orderUnit ∧ ((createPlan h a b c d e f s).1).clock = s.clock ∧
      ((createPlan h a b c d e f s).1).port.state = s.port.state ∧ ((createPlan h a b c d e f s).1).port.discarded = s.port.discarded ∧
      ((createPlan h a b c d e f s).1).port.held = s.port.held ∧ ((createPlan h a b c d e f s).1).port.skip = s.port.skip ∧
      ((createPlan h a b c d e f s).1).port.sent = s.port.sent ∧ ((createPlan h a b c d e f s).1).port.drawn = s.port.drawn ∧
      ((createPlan h a b c d e f s).1).pending = s.pending := by
  unfold createPlan tested
  dsimp only
  repeat' split
  all_goals simp [refuse]

@[simp] theorem deletePlan_frame (h : Header) (a : Nat) (s : State) :
    ((deletePlan h a s).1).model = s.model ∧ ((deletePlan h a s).1).stopCount = s.stopCount ∧
      ((deletePlan h a s).1).segments = s.segments ∧ ((deletePlan h a s).1).valves = s.valves ∧
      ((deletePlan h a s).1).points = s.points ∧ ((deletePlan h a s).1).profiles = s.profiles ∧
      ((deletePlan h a s).1).concentrators = s.concentrators ∧ ((deletePlan h a s).1).outages = s.outages ∧
      ((deletePlan h a s).1).orders = s.orders ∧ ((deletePlan h a s).1).windows = s.windows ∧
      ((deletePlan h a s).1).intake = s.intake ∧ ((deletePlan h a s).1).tracer = s.tracer ∧
      ((deletePlan h a s).1).register = s.register ∧ ((deletePlan h a s).1).dispatch = s.dispatch ∧
      ((deletePlan h a s).1).orderUnit = s.orderUnit ∧ ((deletePlan h a s).1).clock = s.clock ∧
      ((deletePlan h a s).1).port.state = s.port.state ∧ ((deletePlan h a s).1).port.discarded = s.port.discarded ∧
      ((deletePlan h a s).1).port.held = s.port.held ∧ ((deletePlan h a s).1).port.skip = s.port.skip ∧
      ((deletePlan h a s).1).port.sent = s.port.sent ∧ ((deletePlan h a s).1).port.drawn = s.port.drawn ∧
      ((deletePlan h a s).1).pending = s.pending := by
  unfold deletePlan tested
  dsimp only
  repeat' split
  all_goals simp [refuse]

@[simp] theorem lockDraft_frame (h : Header) (a : Nat) (b : Bool) (s : State) :
    ((lockDraft h a b s).1).model = s.model ∧ ((lockDraft h a b s).1).stopCount = s.stopCount ∧
      ((lockDraft h a b s).1).segments = s.segments ∧ ((lockDraft h a b s).1).valves = s.valves ∧
      ((lockDraft h a b s).1).points = s.points ∧ ((lockDraft h a b s).1).profiles = s.profiles ∧
      ((lockDraft h a b s).1).concentrators = s.concentrators ∧ ((lockDraft h a b s).1).incidents = s.incidents ∧
      ((lockDraft h a b s).1).outages = s.outages ∧ ((lockDraft h a b s).1).orders = s.orders ∧
      ((lockDraft h a b s).1).windows = s.windows ∧ ((lockDraft h a b s).1).intake = s.intake ∧
      ((lockDraft h a b s).1).tracer = s.tracer ∧ ((lockDraft h a b s).1).register = s.register ∧
      ((lockDraft h a b s).1).dispatch = s.dispatch ∧ ((lockDraft h a b s).1).orderUnit = s.orderUnit ∧
      ((lockDraft h a b s).1).clock = s.clock ∧ ((lockDraft h a b s).1).port.state = s.port.state ∧
      ((lockDraft h a b s).1).port.discarded = s.port.discarded ∧ ((lockDraft h a b s).1).port.held = s.port.held ∧
      ((lockDraft h a b s).1).port.skip = s.port.skip ∧ ((lockDraft h a b s).1).port.sent = s.port.sent ∧
      ((lockDraft h a b s).1).port.drawn = s.port.drawn ∧ ((lockDraft h a b s).1).pending = s.pending := by
  unfold lockDraft tested
  dsimp only
  repeat' split
  all_goals simp [refuse]

@[simp] theorem addValve_frame (h : Header) (a b : Nat) (s : State) :
    ((addValve h a b s).1).model = s.model ∧ ((addValve h a b s).1).stopCount = s.stopCount ∧
      ((addValve h a b s).1).segments = s.segments ∧ ((addValve h a b s).1).valves = s.valves ∧
      ((addValve h a b s).1).points = s.points ∧ ((addValve h a b s).1).profiles = s.profiles ∧
      ((addValve h a b s).1).concentrators = s.concentrators ∧ ((addValve h a b s).1).incidents = s.incidents ∧
      ((addValve h a b s).1).outages = s.outages ∧ ((addValve h a b s).1).orders = s.orders ∧
      ((addValve h a b s).1).windows = s.windows ∧ ((addValve h a b s).1).intake = s.intake ∧
      ((addValve h a b s).1).tracer = s.tracer ∧ ((addValve h a b s).1).register = s.register ∧
      ((addValve h a b s).1).dispatch = s.dispatch ∧ ((addValve h a b s).1).orderUnit = s.orderUnit ∧
      ((addValve h a b s).1).clock = s.clock ∧ ((addValve h a b s).1).port.state = s.port.state ∧
      ((addValve h a b s).1).port.discarded = s.port.discarded ∧ ((addValve h a b s).1).port.held = s.port.held ∧
      ((addValve h a b s).1).port.skip = s.port.skip ∧ ((addValve h a b s).1).port.sent = s.port.sent ∧
      ((addValve h a b s).1).port.drawn = s.port.drawn ∧ ((addValve h a b s).1).pending = s.pending := by
  unfold addValve tested
  dsimp only
  repeat' split
  all_goals simp [refuse]

@[simp] theorem removeValve_frame (h : Header) (a b : Nat) (s : State) :
    ((removeValve h a b s).1).model = s.model ∧ ((removeValve h a b s).1).stopCount = s.stopCount ∧
      ((removeValve h a b s).1).segments = s.segments ∧ ((removeValve h a b s).1).valves = s.valves ∧
      ((removeValve h a b s).1).points = s.points ∧ ((removeValve h a b s).1).profiles = s.profiles ∧
      ((removeValve h a b s).1).concentrators = s.concentrators ∧ ((removeValve h a b s).1).incidents = s.incidents ∧
      ((removeValve h a b s).1).outages = s.outages ∧ ((removeValve h a b s).1).orders = s.orders ∧
      ((removeValve h a b s).1).windows = s.windows ∧ ((removeValve h a b s).1).intake = s.intake ∧
      ((removeValve h a b s).1).tracer = s.tracer ∧ ((removeValve h a b s).1).register = s.register ∧
      ((removeValve h a b s).1).dispatch = s.dispatch ∧ ((removeValve h a b s).1).orderUnit = s.orderUnit ∧
      ((removeValve h a b s).1).clock = s.clock ∧ ((removeValve h a b s).1).port.state = s.port.state ∧
      ((removeValve h a b s).1).port.discarded = s.port.discarded ∧ ((removeValve h a b s).1).port.held = s.port.held ∧
      ((removeValve h a b s).1).port.skip = s.port.skip ∧ ((removeValve h a b s).1).port.sent = s.port.sent ∧
      ((removeValve h a b s).1).port.drawn = s.port.drawn ∧ ((removeValve h a b s).1).pending = s.pending := by
  unfold removeValve tested
  dsimp only
  repeat' split
  all_goals simp [refuse]

@[simp] theorem commitDraft_frame (h : Header) (a : Nat) (s : State) :
    ((commitDraft h a s).1).model = s.model ∧ ((commitDraft h a s).1).stopCount = s.stopCount ∧
      ((commitDraft h a s).1).segments = s.segments ∧ ((commitDraft h a s).1).points = s.points ∧
      ((commitDraft h a s).1).profiles = s.profiles ∧ ((commitDraft h a s).1).concentrators = s.concentrators ∧
      ((commitDraft h a s).1).outages = s.outages ∧ ((commitDraft h a s).1).windows = s.windows ∧
      ((commitDraft h a s).1).intake = s.intake ∧ ((commitDraft h a s).1).tracer = s.tracer ∧
      ((commitDraft h a s).1).register = s.register ∧ ((commitDraft h a s).1).dispatch = s.dispatch ∧
      ((commitDraft h a s).1).clock = s.clock ∧ ((commitDraft h a s).1).port.state = s.port.state ∧
      ((commitDraft h a s).1).port.discarded = s.port.discarded ∧ ((commitDraft h a s).1).port.held = s.port.held ∧
      ((commitDraft h a s).1).port.skip = s.port.skip ∧ ((commitDraft h a s).1).port.sent = s.port.sent ∧
      ((commitDraft h a s).1).port.drawn = s.port.drawn ∧ ((commitDraft h a s).1).pending = s.pending := by
  unfold commitDraft tested
  dsimp only
  repeat' split
  all_goals simp [refuse]

@[simp] theorem unlockDraft_frame (h : Header) (a : Nat) (s : State) :
    ((unlockDraft h a s).1).model = s.model ∧ ((unlockDraft h a s).1).stopCount = s.stopCount ∧
      ((unlockDraft h a s).1).segments = s.segments ∧ ((unlockDraft h a s).1).valves = s.valves ∧
      ((unlockDraft h a s).1).points = s.points ∧ ((unlockDraft h a s).1).profiles = s.profiles ∧
      ((unlockDraft h a s).1).concentrators = s.concentrators ∧ ((unlockDraft h a s).1).incidents = s.incidents ∧
      ((unlockDraft h a s).1).outages = s.outages ∧ ((unlockDraft h a s).1).orders = s.orders ∧
      ((unlockDraft h a s).1).windows = s.windows ∧ ((unlockDraft h a s).1).intake = s.intake ∧
      ((unlockDraft h a s).1).tracer = s.tracer ∧ ((unlockDraft h a s).1).register = s.register ∧
      ((unlockDraft h a s).1).dispatch = s.dispatch ∧ ((unlockDraft h a s).1).orderUnit = s.orderUnit ∧
      ((unlockDraft h a s).1).clock = s.clock ∧ ((unlockDraft h a s).1).port.state = s.port.state ∧
      ((unlockDraft h a s).1).port.discarded = s.port.discarded ∧ ((unlockDraft h a s).1).port.held = s.port.held ∧
      ((unlockDraft h a s).1).port.skip = s.port.skip ∧ ((unlockDraft h a s).1).port.sent = s.port.sent ∧
      ((unlockDraft h a s).1).port.drawn = s.port.drawn ∧ ((unlockDraft h a s).1).pending = s.pending := by
  unfold unlockDraft tested
  dsimp only
  repeat' split
  all_goals simp [refuse]

@[simp] theorem releasePlan_frame (h : Header) (a : Nat) (s : State) :
    ((releasePlan h a s).1).model = s.model ∧ ((releasePlan h a s).1).stopCount = s.stopCount ∧
      ((releasePlan h a s).1).segments = s.segments ∧ ((releasePlan h a s).1).points = s.points ∧
      ((releasePlan h a s).1).profiles = s.profiles ∧ ((releasePlan h a s).1).concentrators = s.concentrators ∧
      ((releasePlan h a s).1).outages = s.outages ∧ ((releasePlan h a s).1).windows = s.windows ∧
      ((releasePlan h a s).1).intake = s.intake ∧ ((releasePlan h a s).1).tracer = s.tracer ∧
      ((releasePlan h a s).1).register = s.register ∧ ((releasePlan h a s).1).dispatch = s.dispatch ∧
      ((releasePlan h a s).1).clock = s.clock ∧ ((releasePlan h a s).1).port.state = s.port.state ∧
      ((releasePlan h a s).1).port.discarded = s.port.discarded ∧ ((releasePlan h a s).1).port.held = s.port.held ∧
      ((releasePlan h a s).1).port.skip = s.port.skip ∧ ((releasePlan h a s).1).port.sent = s.port.sent ∧
      ((releasePlan h a s).1).port.drawn = s.port.drawn ∧ ((releasePlan h a s).1).pending = s.pending := by
  unfold releasePlan tested
  dsimp only
  repeat' split
  all_goals simp [refuse]

@[simp] theorem readPlan_frame (a : Nat) (s : State) :
    ((readPlan a s).1).model = s.model ∧ ((readPlan a s).1).stopCount = s.stopCount ∧
      ((readPlan a s).1).segments = s.segments ∧ ((readPlan a s).1).valves = s.valves ∧
      ((readPlan a s).1).points = s.points ∧ ((readPlan a s).1).profiles = s.profiles ∧
      ((readPlan a s).1).concentrators = s.concentrators ∧ ((readPlan a s).1).incidents = s.incidents ∧
      ((readPlan a s).1).plans = s.plans ∧ ((readPlan a s).1).outages = s.outages ∧
      ((readPlan a s).1).orders = s.orders ∧ ((readPlan a s).1).windows = s.windows ∧
      ((readPlan a s).1).intake = s.intake ∧ ((readPlan a s).1).tracer = s.tracer ∧
      ((readPlan a s).1).register = s.register ∧ ((readPlan a s).1).dispatch = s.dispatch ∧
      ((readPlan a s).1).orderUnit = s.orderUnit ∧ ((readPlan a s).1).clock = s.clock ∧
      ((readPlan a s).1).notices = s.notices ∧ ((readPlan a s).1).port = s.port ∧
      ((readPlan a s).1).pending = s.pending := by
  unfold readPlan tested
  dsimp only
  repeat' split
  all_goals simp [refuse]

@[simp] theorem reportValve_frame (h : Header) (a b : Nat) (s : State) :
    ((reportValve h a b s).1).model = s.model ∧ ((reportValve h a b s).1).stopCount = s.stopCount ∧
      ((reportValve h a b s).1).segments = s.segments ∧ ((reportValve h a b s).1).points = s.points ∧
      ((reportValve h a b s).1).profiles = s.profiles ∧ ((reportValve h a b s).1).concentrators = s.concentrators ∧
      ((reportValve h a b s).1).outages = s.outages ∧ ((reportValve h a b s).1).windows = s.windows ∧
      ((reportValve h a b s).1).intake = s.intake ∧ ((reportValve h a b s).1).register = s.register ∧
      ((reportValve h a b s).1).dispatch = s.dispatch ∧ ((reportValve h a b s).1).clock = s.clock ∧
      ((reportValve h a b s).1).port.state = s.port.state ∧ ((reportValve h a b s).1).port.discarded = s.port.discarded ∧
      ((reportValve h a b s).1).port.held = s.port.held ∧ ((reportValve h a b s).1).port.skip = s.port.skip ∧
      ((reportValve h a b s).1).port.sent = s.port.sent ∧ ((reportValve h a b s).1).port.drawn = s.port.drawn ∧
      ((reportValve h a b s).1).pending = s.pending := by
  unfold reportValve tested
  dsimp only
  repeat' split
  all_goals simp [refuse]

@[simp] theorem fetchOrder_frame (h : Header) (s : State) :
    ((fetchOrder h s).1).model = s.model ∧ ((fetchOrder h s).1).stopCount = s.stopCount ∧
      ((fetchOrder h s).1).segments = s.segments ∧ ((fetchOrder h s).1).points = s.points ∧
      ((fetchOrder h s).1).profiles = s.profiles ∧ ((fetchOrder h s).1).concentrators = s.concentrators ∧
      ((fetchOrder h s).1).incidents = s.incidents ∧ ((fetchOrder h s).1).plans = s.plans ∧
      ((fetchOrder h s).1).outages = s.outages ∧ ((fetchOrder h s).1).windows = s.windows ∧
      ((fetchOrder h s).1).intake = s.intake ∧ ((fetchOrder h s).1).tracer = s.tracer ∧
      ((fetchOrder h s).1).register = s.register ∧ ((fetchOrder h s).1).dispatch = s.dispatch ∧
      ((fetchOrder h s).1).orderUnit = s.orderUnit ∧ ((fetchOrder h s).1).clock = s.clock ∧
      ((fetchOrder h s).1).port.state = s.port.state ∧ ((fetchOrder h s).1).port.discarded = s.port.discarded ∧
      ((fetchOrder h s).1).port.held = s.port.held ∧ ((fetchOrder h s).1).port.skip = s.port.skip ∧
      ((fetchOrder h s).1).port.sent = s.port.sent ∧ ((fetchOrder h s).1).port.drawn = s.port.drawn ∧
      ((fetchOrder h s).1).pending = s.pending := by
  unfold fetchOrder tested
  dsimp only
  repeat' split
  all_goals simp [refuse]

@[simp] theorem withdrawOrder_frame (h : Header) (a : Nat) (s : State) :
    ((withdrawOrder h a s).1).model = s.model ∧ ((withdrawOrder h a s).1).stopCount = s.stopCount ∧
      ((withdrawOrder h a s).1).segments = s.segments ∧ ((withdrawOrder h a s).1).points = s.points ∧
      ((withdrawOrder h a s).1).profiles = s.profiles ∧ ((withdrawOrder h a s).1).concentrators = s.concentrators ∧
      ((withdrawOrder h a s).1).incidents = s.incidents ∧ ((withdrawOrder h a s).1).plans = s.plans ∧
      ((withdrawOrder h a s).1).outages = s.outages ∧ ((withdrawOrder h a s).1).windows = s.windows ∧
      ((withdrawOrder h a s).1).intake = s.intake ∧ ((withdrawOrder h a s).1).tracer = s.tracer ∧
      ((withdrawOrder h a s).1).register = s.register ∧ ((withdrawOrder h a s).1).dispatch = s.dispatch ∧
      ((withdrawOrder h a s).1).clock = s.clock ∧ ((withdrawOrder h a s).1).notices = s.notices ∧
      ((withdrawOrder h a s).1).port = s.port ∧ ((withdrawOrder h a s).1).pending = s.pending := by
  unfold withdrawOrder tested
  dsimp only
  repeat' split
  all_goals simp [refuse]

@[simp] theorem reissueValve_frame (h : Header) (a : Nat) (s : State) :
    ((reissueValve h a s).1).model = s.model ∧ ((reissueValve h a s).1).stopCount = s.stopCount ∧
      ((reissueValve h a s).1).segments = s.segments ∧ ((reissueValve h a s).1).points = s.points ∧
      ((reissueValve h a s).1).profiles = s.profiles ∧ ((reissueValve h a s).1).concentrators = s.concentrators ∧
      ((reissueValve h a s).1).incidents = s.incidents ∧ ((reissueValve h a s).1).outages = s.outages ∧
      ((reissueValve h a s).1).windows = s.windows ∧ ((reissueValve h a s).1).intake = s.intake ∧
      ((reissueValve h a s).1).tracer = s.tracer ∧ ((reissueValve h a s).1).register = s.register ∧
      ((reissueValve h a s).1).dispatch = s.dispatch ∧ ((reissueValve h a s).1).clock = s.clock ∧
      ((reissueValve h a s).1).port.state = s.port.state ∧ ((reissueValve h a s).1).port.discarded = s.port.discarded ∧
      ((reissueValve h a s).1).port.held = s.port.held ∧ ((reissueValve h a s).1).port.skip = s.port.skip ∧
      ((reissueValve h a s).1).port.sent = s.port.sent ∧ ((reissueValve h a s).1).port.drawn = s.port.drawn ∧
      ((reissueValve h a s).1).pending = s.pending := by
  unfold reissueValve tested
  dsimp only
  repeat' split
  all_goals simp [refuse]

@[simp] theorem declareInoperable_frame (h : Header) (a : Nat) (s : State) :
    ((declareInoperable h a s).1).model = s.model ∧ ((declareInoperable h a s).1).stopCount = s.stopCount ∧
      ((declareInoperable h a s).1).segments = s.segments ∧ ((declareInoperable h a s).1).points = s.points ∧
      ((declareInoperable h a s).1).profiles = s.profiles ∧ ((declareInoperable h a s).1).concentrators = s.concentrators ∧
      ((declareInoperable h a s).1).outages = s.outages ∧ ((declareInoperable h a s).1).windows = s.windows ∧
      ((declareInoperable h a s).1).intake = s.intake ∧ ((declareInoperable h a s).1).tracer = s.tracer ∧
      ((declareInoperable h a s).1).register = s.register ∧ ((declareInoperable h a s).1).dispatch = s.dispatch ∧
      ((declareInoperable h a s).1).clock = s.clock ∧ ((declareInoperable h a s).1).port.state = s.port.state ∧
      ((declareInoperable h a s).1).port.discarded = s.port.discarded ∧ ((declareInoperable h a s).1).port.held = s.port.held ∧
      ((declareInoperable h a s).1).port.skip = s.port.skip ∧ ((declareInoperable h a s).1).port.sent = s.port.sent ∧
      ((declareInoperable h a s).1).port.drawn = s.port.drawn ∧ ((declareInoperable h a s).1).pending = s.pending := by
  unfold declareInoperable tested
  dsimp only
  repeat' split
  all_goals simp [refuse]

@[simp] theorem restoreOperable_frame (h : Header) (a : Nat) (s : State) :
    ((restoreOperable h a s).1).model = s.model ∧ ((restoreOperable h a s).1).stopCount = s.stopCount ∧
      ((restoreOperable h a s).1).segments = s.segments ∧ ((restoreOperable h a s).1).points = s.points ∧
      ((restoreOperable h a s).1).profiles = s.profiles ∧ ((restoreOperable h a s).1).concentrators = s.concentrators ∧
      ((restoreOperable h a s).1).outages = s.outages ∧ ((restoreOperable h a s).1).windows = s.windows ∧
      ((restoreOperable h a s).1).intake = s.intake ∧ ((restoreOperable h a s).1).tracer = s.tracer ∧
      ((restoreOperable h a s).1).register = s.register ∧ ((restoreOperable h a s).1).dispatch = s.dispatch ∧
      ((restoreOperable h a s).1).clock = s.clock ∧ ((restoreOperable h a s).1).port.state = s.port.state ∧
      ((restoreOperable h a s).1).port.discarded = s.port.discarded ∧ ((restoreOperable h a s).1).port.held = s.port.held ∧
      ((restoreOperable h a s).1).port.skip = s.port.skip ∧ ((restoreOperable h a s).1).port.sent = s.port.sent ∧
      ((restoreOperable h a s).1).port.drawn = s.port.drawn ∧ ((restoreOperable h a s).1).pending = s.pending := by
  unfold restoreOperable tested
  dsimp only
  repeat' split
  all_goals simp [refuse]

@[simp] theorem setOrderTimes_frame (h : Header) (a b : Nat) (s : State) :
    ((setOrderTimes h a b s).1).model = s.model ∧ ((setOrderTimes h a b s).1).stopCount = s.stopCount ∧
      ((setOrderTimes h a b s).1).segments = s.segments ∧ ((setOrderTimes h a b s).1).valves = s.valves ∧
      ((setOrderTimes h a b s).1).points = s.points ∧ ((setOrderTimes h a b s).1).profiles = s.profiles ∧
      ((setOrderTimes h a b s).1).concentrators = s.concentrators ∧ ((setOrderTimes h a b s).1).incidents = s.incidents ∧
      ((setOrderTimes h a b s).1).plans = s.plans ∧ ((setOrderTimes h a b s).1).outages = s.outages ∧
      ((setOrderTimes h a b s).1).orders = s.orders ∧ ((setOrderTimes h a b s).1).windows = s.windows ∧
      ((setOrderTimes h a b s).1).intake = s.intake ∧ ((setOrderTimes h a b s).1).tracer = s.tracer ∧
      ((setOrderTimes h a b s).1).register = s.register ∧ ((setOrderTimes h a b s).1).dispatch = s.dispatch ∧
      ((setOrderTimes h a b s).1).clock = s.clock ∧ ((setOrderTimes h a b s).1).notices = s.notices ∧
      ((setOrderTimes h a b s).1).port = s.port ∧ ((setOrderTimes h a b s).1).pending = s.pending := by
  unfold setOrderTimes tested
  dsimp only
  repeat' split
  all_goals simp [refuse]

@[simp] theorem readOrders_frame (a b : Nat) (s : State) :
    ((readOrders a b s).1).model = s.model ∧ ((readOrders a b s).1).stopCount = s.stopCount ∧
      ((readOrders a b s).1).segments = s.segments ∧ ((readOrders a b s).1).valves = s.valves ∧
      ((readOrders a b s).1).points = s.points ∧ ((readOrders a b s).1).profiles = s.profiles ∧
      ((readOrders a b s).1).concentrators = s.concentrators ∧ ((readOrders a b s).1).incidents = s.incidents ∧
      ((readOrders a b s).1).plans = s.plans ∧ ((readOrders a b s).1).outages = s.outages ∧
      ((readOrders a b s).1).orders = s.orders ∧ ((readOrders a b s).1).windows = s.windows ∧
      ((readOrders a b s).1).intake = s.intake ∧ ((readOrders a b s).1).tracer = s.tracer ∧
      ((readOrders a b s).1).register = s.register ∧ ((readOrders a b s).1).dispatch = s.dispatch ∧
      ((readOrders a b s).1).orderUnit = s.orderUnit ∧ ((readOrders a b s).1).clock = s.clock ∧
      ((readOrders a b s).1).notices = s.notices ∧ ((readOrders a b s).1).port.state = s.port.state ∧
      ((readOrders a b s).1).port.discarded = s.port.discarded ∧ ((readOrders a b s).1).port.held = s.port.held ∧
      ((readOrders a b s).1).port.skip = s.port.skip ∧ ((readOrders a b s).1).port.sent = s.port.sent ∧
      ((readOrders a b s).1).port.drawn = s.port.drawn ∧ ((readOrders a b s).1).pending = s.pending := by
  unfold readOrders tested
  dsimp only
  repeat' split
  all_goals simp [refuse]

@[simp] theorem setClock_frame (h : Header) (a : Nat) (s : State) :
    ((setClock h a s).1).model = s.model ∧ ((setClock h a s).1).stopCount = s.stopCount ∧
      ((setClock h a s).1).segments = s.segments ∧ ((setClock h a s).1).valves = s.valves ∧
      ((setClock h a s).1).profiles = s.profiles ∧ ((setClock h a s).1).concentrators = s.concentrators ∧
      ((setClock h a s).1).outages = s.outages ∧ ((setClock h a s).1).orders = s.orders ∧
      ((setClock h a s).1).windows = s.windows ∧ ((setClock h a s).1).intake = s.intake ∧
      ((setClock h a s).1).tracer = s.tracer ∧ ((setClock h a s).1).register = s.register ∧
      ((setClock h a s).1).dispatch = s.dispatch ∧ ((setClock h a s).1).orderUnit = s.orderUnit ∧
      ((setClock h a s).1).port.state = s.port.state ∧ ((setClock h a s).1).port.discarded = s.port.discarded ∧
      ((setClock h a s).1).port.held = s.port.held ∧ ((setClock h a s).1).port.skip = s.port.skip ∧
      ((setClock h a s).1).port.sent = s.port.sent ∧ ((setClock h a s).1).port.drawn = s.port.drawn ∧
      ((setClock h a s).1).pending = s.pending := by
  unfold setClock tested
  dsimp only
  repeat' split
  all_goals simp [refuse]

@[simp] theorem setDayClass_frame (h : Header) (a : Nat) (s : State) :
    ((setDayClass h a s).1).model = s.model ∧ ((setDayClass h a s).1).stopCount = s.stopCount ∧
      ((setDayClass h a s).1).segments = s.segments ∧ ((setDayClass h a s).1).valves = s.valves ∧
      ((setDayClass h a s).1).profiles = s.profiles ∧ ((setDayClass h a s).1).concentrators = s.concentrators ∧
      ((setDayClass h a s).1).outages = s.outages ∧ ((setDayClass h a s).1).orders = s.orders ∧
      ((setDayClass h a s).1).windows = s.windows ∧ ((setDayClass h a s).1).intake = s.intake ∧
      ((setDayClass h a s).1).tracer = s.tracer ∧ ((setDayClass h a s).1).register = s.register ∧
      ((setDayClass h a s).1).dispatch = s.dispatch ∧ ((setDayClass h a s).1).orderUnit = s.orderUnit ∧
      ((setDayClass h a s).1).port.state = s.port.state ∧ ((setDayClass h a s).1).port.discarded = s.port.discarded ∧
      ((setDayClass h a s).1).port.held = s.port.held ∧ ((setDayClass h a s).1).port.skip = s.port.skip ∧
      ((setDayClass h a s).1).port.sent = s.port.sent ∧ ((setDayClass h a s).1).port.drawn = s.port.drawn ∧
      ((setDayClass h a s).1).pending = s.pending := by
  unfold setDayClass tested
  dsimp only
  repeat' split
  all_goals simp [refuse]

@[simp] theorem setNoticeEnables_frame (h : Header) (a : NoticeSet) (s : State) :
    ((setNoticeEnables h a s).1).model = s.model ∧ ((setNoticeEnables h a s).1).stopCount = s.stopCount ∧
      ((setNoticeEnables h a s).1).segments = s.segments ∧ ((setNoticeEnables h a s).1).valves = s.valves ∧
      ((setNoticeEnables h a s).1).points = s.points ∧ ((setNoticeEnables h a s).1).profiles = s.profiles ∧
      ((setNoticeEnables h a s).1).concentrators = s.concentrators ∧ ((setNoticeEnables h a s).1).incidents = s.incidents ∧
      ((setNoticeEnables h a s).1).plans = s.plans ∧ ((setNoticeEnables h a s).1).outages = s.outages ∧
      ((setNoticeEnables h a s).1).orders = s.orders ∧ ((setNoticeEnables h a s).1).windows = s.windows ∧
      ((setNoticeEnables h a s).1).intake = s.intake ∧ ((setNoticeEnables h a s).1).tracer = s.tracer ∧
      ((setNoticeEnables h a s).1).register = s.register ∧ ((setNoticeEnables h a s).1).dispatch = s.dispatch ∧
      ((setNoticeEnables h a s).1).orderUnit = s.orderUnit ∧ ((setNoticeEnables h a s).1).clock = s.clock ∧
      ((setNoticeEnables h a s).1).port = s.port ∧ ((setNoticeEnables h a s).1).pending = s.pending := by
  unfold setNoticeEnables tested
  dsimp only
  repeat' split
  all_goals simp [refuse]

@[simp] theorem getNotices_frame (s : State) :
    ((getNotices s).1).model = s.model ∧ ((getNotices s).1).stopCount = s.stopCount ∧
      ((getNotices s).1).segments = s.segments ∧ ((getNotices s).1).valves = s.valves ∧
      ((getNotices s).1).points = s.points ∧ ((getNotices s).1).profiles = s.profiles ∧
      ((getNotices s).1).concentrators = s.concentrators ∧ ((getNotices s).1).incidents = s.incidents ∧
      ((getNotices s).1).plans = s.plans ∧ ((getNotices s).1).outages = s.outages ∧
      ((getNotices s).1).orders = s.orders ∧ ((getNotices s).1).windows = s.windows ∧
      ((getNotices s).1).intake = s.intake ∧ ((getNotices s).1).tracer = s.tracer ∧
      ((getNotices s).1).register = s.register ∧ ((getNotices s).1).dispatch = s.dispatch ∧
      ((getNotices s).1).orderUnit = s.orderUnit ∧ ((getNotices s).1).clock = s.clock ∧
      ((getNotices s).1).notices = s.notices ∧ ((getNotices s).1).port.state = s.port.state ∧
      ((getNotices s).1).port.discarded = s.port.discarded ∧ ((getNotices s).1).port.held = s.port.held ∧
      ((getNotices s).1).port.skip = s.port.skip ∧ ((getNotices s).1).port.sent = s.port.sent ∧
      ((getNotices s).1).port.drawn = s.port.drawn ∧ ((getNotices s).1).pending = s.pending := by
  simp [getNotices]

@[simp] theorem peekNotices_frame (s : State) :
    ((peekNotices s).1).model = s.model ∧ ((peekNotices s).1).stopCount = s.stopCount ∧
      ((peekNotices s).1).segments = s.segments ∧ ((peekNotices s).1).valves = s.valves ∧
      ((peekNotices s).1).points = s.points ∧ ((peekNotices s).1).profiles = s.profiles ∧
      ((peekNotices s).1).concentrators = s.concentrators ∧ ((peekNotices s).1).incidents = s.incidents ∧
      ((peekNotices s).1).plans = s.plans ∧ ((peekNotices s).1).outages = s.outages ∧
      ((peekNotices s).1).orders = s.orders ∧ ((peekNotices s).1).windows = s.windows ∧
      ((peekNotices s).1).intake = s.intake ∧ ((peekNotices s).1).tracer = s.tracer ∧
      ((peekNotices s).1).register = s.register ∧ ((peekNotices s).1).dispatch = s.dispatch ∧
      ((peekNotices s).1).orderUnit = s.orderUnit ∧ ((peekNotices s).1).clock = s.clock ∧
      ((peekNotices s).1).notices = s.notices ∧ ((peekNotices s).1).port = s.port ∧
      ((peekNotices s).1).pending = s.pending := by
  simp [peekNotices]

@[simp] theorem listChanged_frame (a b : Nat) (s : State) :
    ((listChanged a b s).1).model = s.model ∧ ((listChanged a b s).1).stopCount = s.stopCount ∧
      ((listChanged a b s).1).segments = s.segments ∧ ((listChanged a b s).1).valves = s.valves ∧
      ((listChanged a b s).1).points = s.points ∧ ((listChanged a b s).1).profiles = s.profiles ∧
      ((listChanged a b s).1).concentrators = s.concentrators ∧ ((listChanged a b s).1).incidents = s.incidents ∧
      ((listChanged a b s).1).plans = s.plans ∧ ((listChanged a b s).1).outages = s.outages ∧
      ((listChanged a b s).1).orders = s.orders ∧ ((listChanged a b s).1).windows = s.windows ∧
      ((listChanged a b s).1).intake = s.intake ∧ ((listChanged a b s).1).tracer = s.tracer ∧
      ((listChanged a b s).1).register = s.register ∧ ((listChanged a b s).1).dispatch = s.dispatch ∧
      ((listChanged a b s).1).orderUnit = s.orderUnit ∧ ((listChanged a b s).1).clock = s.clock ∧
      ((listChanged a b s).1).notices = s.notices ∧ ((listChanged a b s).1).port.state = s.port.state ∧
      ((listChanged a b s).1).port.discarded = s.port.discarded ∧ ((listChanged a b s).1).port.held = s.port.held ∧
      ((listChanged a b s).1).port.skip = s.port.skip ∧ ((listChanged a b s).1).port.sent = s.port.sent ∧
      ((listChanged a b s).1).port.drawn = s.port.drawn ∧ ((listChanged a b s).1).pending = s.pending := by
  unfold listChanged tested
  dsimp only
  repeat' split
  all_goals simp [refuse]

@[simp] theorem setDeskArea_frame (h : Header) (a b c : Nat) (s : State) :
    ((setDeskArea h a b c s).1).model = s.model ∧ ((setDeskArea h a b c s).1).stopCount = s.stopCount ∧
      ((setDeskArea h a b c s).1).segments = s.segments ∧ ((setDeskArea h a b c s).1).valves = s.valves ∧
      ((setDeskArea h a b c s).1).points = s.points ∧ ((setDeskArea h a b c s).1).profiles = s.profiles ∧
      ((setDeskArea h a b c s).1).concentrators = s.concentrators ∧ ((setDeskArea h a b c s).1).incidents = s.incidents ∧
      ((setDeskArea h a b c s).1).plans = s.plans ∧ ((setDeskArea h a b c s).1).outages = s.outages ∧
      ((setDeskArea h a b c s).1).orders = s.orders ∧ ((setDeskArea h a b c s).1).intake = s.intake ∧
      ((setDeskArea h a b c s).1).tracer = s.tracer ∧ ((setDeskArea h a b c s).1).register = s.register ∧
      ((setDeskArea h a b c s).1).dispatch = s.dispatch ∧ ((setDeskArea h a b c s).1).orderUnit = s.orderUnit ∧
      ((setDeskArea h a b c s).1).clock = s.clock ∧ ((setDeskArea h a b c s).1).notices = s.notices ∧
      ((setDeskArea h a b c s).1).port = s.port ∧ ((setDeskArea h a b c s).1).pending = s.pending := by
  unfold setDeskArea tested
  dsimp only
  repeat' split
  all_goals simp [refuse]

end Sys2Proof.Machine
end

