-- ==== Sys2Proof/Laws/Tables.lean ====
section
/-! SUPPORT. What the operations over tables and lists of numbers do: reading after writing, and that each of
them keeps the canonical form of a table. -/

namespace Sys2Proof.Machine

variable {α : Type}

/-! ## Reading after writing -/

@[simp] theorem Table.at?_put_self (t : Table α) (n : Nat) (a : α) : Table.at? (Table.put t n a) n = some a := by
  induction t with
  | nil => simp [Table.put, Table.at?]
  | cons r t ih =>
    obtain ⟨k, b⟩ := r
    simp only [Table.put]
    split
    · simp [Table.at?]
    · split
      · simp [Table.at?]
      · rename_i h
        simp [Table.at?, ih, Ne.symm h]

theorem Table.at?_put_ne (t : Table α) {n m : Nat} (a : α) (h : m ≠ n) :
    Table.at? (Table.put t n a) m = Table.at? t m := by
  induction t with
  | nil => simp [Table.put, Table.at?, Ne.symm h]
  | cons r t ih =>
    obtain ⟨k, b⟩ := r
    simp only [Table.put]
    split
    · simp [Table.at?, Ne.symm h]
    · split
      · rename_i e
        simp [Table.at?, ← e, Ne.symm h]
      · simp [Table.at?, ih]

theorem Table.at?_put (t : Table α) (n m : Nat) (a : α) :
    Table.at? (Table.put t n a) m = if m = n then some a else Table.at? t m := by
  split
  · subst_vars; simp
  · exact Table.at?_put_ne t a ‹_›

theorem Table.at?_upd (t : Table α) (n m : Nat) (f : α → α) :
    Table.at? (Table.upd t n f) m = if m = n then (Table.at? t m).map f else Table.at? t m := by
  induction t with
  | nil => simp [Table.upd, Table.at?]
  | cons r t ih =>
    obtain ⟨k, b⟩ := r
    simp only [Table.upd, List.map_cons, Table.at?] at ih ⊢
    by_cases hk : k = m
    · subst hk; by_cases hn : k = n <;> simp [hn]
    · by_cases hn : k = n
      · subst hn; simp [hk, ih]
      · simp [hk, hn, ih]

theorem Table.at?_del (t : Table α) (n m : Nat) :
    Table.at? (Table.del t n) m = if m = n then none else Table.at? t m := by
  induction t with
  | nil => simp [Table.del, Table.at?]
  | cons r t ih =>
    obtain ⟨k, b⟩ := r
    simp only [Table.del, List.filter_cons, Table.at?] at ih ⊢
    by_cases hk : k = n
    · subst hk
      by_cases hm : m = k
      · subst hm; simpa using ih
      · simpa [hm, Ne.symm hm] using ih
    · by_cases hm : k = m
      · subst hm; simp [hk, Table.at?]
      · simpa [hk, hm, Table.at?] using ih

theorem Table.has_iff (t : Table α) (n : Nat) : Table.has t n = true ↔ ∃ a, Table.at? t n = some a := by
  simp [Table.has, Option.isSome_iff_exists]

theorem Table.test_iff (t : Table α) (n : Nat) (p : α → Bool) :
    Table.test t n p = true ↔ ∃ a, Table.at? t n = some a ∧ p a = true := by
  simp only [Table.test]
  cases Table.at? t n <;> simp

theorem Table.test_some {t : Table α} {n : Nat} {a : α} (h : Table.at? t n = some a) (p : α → Bool) :
    Table.test t n p = p a := by
  simp [Table.test, h]

theorem Table.has_some {t : Table α} {n : Nat} {a : α} (h : Table.at? t n = some a) : Table.has t n = true := by
  simp [Table.has, h]

theorem Table.mem_of_at? {t : Table α} {n : Nat} {a : α} (h : Table.at? t n = some a) : (n, a) ∈ t := by
  induction t with
  | nil => simp [Table.at?] at h
  | cons r t ih =>
    obtain ⟨k, b⟩ := r
    simp only [Table.at?] at h
    split at h
    · simp_all
    · exact List.mem_cons_of_mem _ (ih h)

theorem Table.mem_keys_of_at? {t : Table α} {n : Nat} {a : α} (h : Table.at? t n = some a) : n ∈ Table.keys t :=
  List.mem_map.2 ⟨(n, a), Table.mem_of_at? h, rfl⟩

/-! ## Canonical form -/

@[simp] theorem Table.keys_upd (t : Table α) (n : Nat) (f : α → α) : Table.keys (Table.upd t n f) = Table.keys t := by
  simp only [Table.keys, Table.upd, List.map_map]
  apply List.map_congr_left
  intro r _
  simp only [Function.comp]
  split <;> rfl

theorem Table.keys_put (t : Table α) (n : Nat) (a : α) :
    Table.keys (Table.put t n a) = insertNat n (Table.keys t) := by
  induction t with
  | nil => simp [Table.put, Table.keys, insertNat]
  | cons r t ih =>
    obtain ⟨k, b⟩ := r
    simp only [Table.put, Table.keys, List.map_cons, insertNat] at ih ⊢
    split
    · simp
    · split
      · simp_all
      · simp [ih]

theorem mem_insertNat (n m : Nat) (l : List Nat) : m ∈ insertNat n l ↔ m = n ∨ m ∈ l := by
  induction l with
  | nil => simp [insertNat]
  | cons k l ih =>
    simp only [insertNat]
    split
    · simp
    · split
      · simp_all
      · simp only [List.mem_cons, ih]; tauto

theorem pairwise_insertNat (n : Nat) {l : List Nat} (h : l.Pairwise (· < ·)) : (insertNat n l).Pairwise (· < ·) := by
  induction l with
  | nil => simp [insertNat]
  | cons k l ih =>
    simp only [List.pairwise_cons] at h
    simp only [insertNat]
    split
    · rename_i hk
      simp only [List.pairwise_cons, List.mem_cons]
      refine ⟨?_, h.1, h.2⟩
      rintro m (rfl | hm)
      · exact hk
      · exact lt_trans hk (h.1 m hm)
    · split
      · exact List.pairwise_cons.2 h
      · simp only [List.pairwise_cons, mem_insertNat]
        refine ⟨?_, ih h.2⟩
        rintro m (rfl | hm)
        · omega
        · exact h.1 m hm

theorem Table.wf_put {t : Table α} {cap n : Nat} (h : Table.wf t cap) (hn : n < cap) (a : α) :
    Table.wf (Table.put t n a) cap := by
  refine ⟨?_, ?_⟩
  · rw [Table.keys_put]; exact pairwise_insertNat n h.1
  · intro m hm
    rw [Table.keys_put, mem_insertNat] at hm
    rcases hm with rfl | hm
    · exact hn
    · exact h.2 m hm

theorem Table.wf_put_of_at? {t : Table α} {cap n : Nat} {b : α} (h : Table.wf t cap)
    (hn : Table.at? t n = some b) (a : α) : Table.wf (Table.put t n a) cap :=
  Table.wf_put h (h.2 n (Table.mem_keys_of_at? hn)) a

theorem Table.wf_upd {t : Table α} {cap : Nat} (h : Table.wf t cap) (n : Nat) (f : α → α) :
    Table.wf (Table.upd t n f) cap := by
  simpa [Table.wf] using h

theorem Table.wf_filter {t : Table α} {cap : Nat} (h : Table.wf t cap) (p : Nat × α → Bool) :
    Table.wf (t.filter p) cap := by
  refine ⟨?_, ?_⟩
  · exact List.Pairwise.sublist (List.Sublist.map _ List.filter_sublist) h.1
  · intro m hm
    exact h.2 m (List.Sublist.subset (List.Sublist.map _ List.filter_sublist) hm)

theorem Table.wf_del {t : Table α} {cap : Nat} (h : Table.wf t cap) (n : Nat) : Table.wf (Table.del t n) cap :=
  Table.wf_filter h _

theorem Table.wf_map {t : Table α} {cap : Nat} (h : Table.wf t cap) (f : Nat → α → α) :
    Table.wf (t.map (fun r => (r.1, f r.1 r.2))) cap := by
  have : Table.keys (t.map (fun r => (r.1, f r.1 r.2))) = Table.keys t := by simp [Table.keys, Function.comp_def]
  simpa [Table.wf, this] using h

theorem Table.wf_nil (cap : Nat) : Table.wf ([] : Table α) cap := by simp [Table.wf, Table.keys]

/-! ## Free slots and choices -/

theorem Table.at?_none_iff (t : Table α) (n : Nat) : Table.at? t n = none ↔ Table.has t n = false := by
  simp [Table.has]

/-- The lowest free slot is free, lies in the table, and every slot below it is in use. -/
theorem Table.lowestFree_some {t : Table α} {cap n : Nat} (h : Table.lowestFree t cap = some n) :
    n < cap ∧ Table.at? t n = none ∧ ∀ m < n, Table.has t m = true := by
  unfold Table.lowestFree at h
  rw [Option.filter_eq_some_iff] at h
  obtain ⟨hf, hc⟩ := h
  rw [List.find?_range_eq_some] at hf
  refine ⟨by simpa using hc, ?_, ?_⟩
  · rw [Table.at?_none_iff]; simpa using hf.1
  · intro m hm; simpa using hf.2.2 m hm

/-- What `leastBy` answers is one of the elements. -/
theorem mem_of_leastBy {lt : α → α → Bool} {l : List α} {a : α} (h : leastBy lt l = some a) : a ∈ l := by
  induction l generalizing a with
  | nil => simp [leastBy] at h
  | cons b l ih =>
    simp only [leastBy] at h
    split at h
    · simp_all
    · rename_i c hc
      split at h
      · simp only [Option.some.injEq] at h; subst h; exact List.mem_cons_of_mem _ (ih hc)
      · simp_all

/-- `leastBy` answers nothing only of an empty list. -/
theorem leastBy_none {lt : α → α → Bool} {l : List α} : leastBy lt l = none ↔ l = [] := by
  cases l with
  | nil => simp [leastBy]
  | cons b l =>
    simp only [leastBy]
    split
    · simp
    · split <;> simp

end Sys2Proof.Machine
end

