-- ==== Sys2Proof/Tests/Slice0.lean ====
section
/-! SUPPORT. Tests of the model. Every expected value is the manual's: a worked example, a table of codes or a
figure worked by hand from a rule, named beside the test. -/

namespace Sys2Proof.Tests

open Sys2Proof Sys2Proof.Machine

/-! ## Helpers -/

/-- The state a command leaves. -/
def nx (c : Instr) (s : State) : State :=
  match exec c s with
  | .next t => t
  | _ => s

/-- The reply the port holds in ACTING. -/
def reply (s : State) : Option Reply :=
  match s.port.state with
  | .acting _ r => some r
  | _ => none

/-- The reply to a command. -/
def said (c : Instr) (s : State) : Option Reply := reply (nx c s)

/-- The result of a command. -/
def result (c : Instr) (s : State) : Option Result := (said c s).map Reply.result

/-- Place the answer and read it out. -/
def taken (s : State) : State := nx (.readTransaction 2000) (nx .answerPlaced s)

/-- A command, with its answer read out where it has one. -/
def did (c : Instr) (s : State) : State := taken (nx c s)

def desk (n : Nat) : Header := { desk := n, tag := 7 }

/-- A RUNNING part at a network second, with nothing in its tables. -/
def bare (second : Nat) : State :=
  { State.reset with model := .running, clock := { second := second, dayClass := 0, due := [] } }

/-- A segment with its valve and point lists. -/
def segment (tier : Tier) (zone customers : Nat) (valves points : List Nat) : Segment :=
  { tier := tier, zone := zone, customers := customers, valveList := valves, pointList := points,
    supply := .supplied, outage := none, relit := 0, openIncidents := 0 }

/-- A MANUAL valve that stands OPEN. -/
def valve (k : ValveKind) (a : Option Nat) (b : Nat) : Valve :=
  { kind := k, endA := a, endB := b, normal := .opened, operation := .manual, tag := none, reported := .opened,
    unconfirmed := false, inoperable := false, orderState := .none, orderSerial := none, followUp := false,
    waitingSince := none, hold := 0, lastReport := 0 }

/-- A point of the LP transducer of section 3.3, in NORMAL with no candidate. -/
def point (tag : Tag) (seg : Nat) : Point :=
  { tag := tag, segment := seg, zero := 13107, gain := 195, group := 3, persistence := 3, hysteresis := 100,
    staleLimit := 10, lastRaw := none, lastPressure := none, valid := false, lastContact := 0,
    condition := .ok, band := .normal, candidate := none, count := 0, selected := none }

/-- An UNASSIGNED incident. -/
def incident (seg : Nat) (g : Grade) (overdue : Bool) (deadline : Nat) : Incident :=
  { kind := .escape, segment := seg, firstReport := 0, deadline := deadline, score := 0, grade := g,
    overdue := overdue, indoor := false, damage := false, callCount := 1, entries := [],
    attendance := .unassigned, offerDesk := none, offerExpiry := none, safety := .opened, plan := none,
    adjustment := 0 }

/-- An IDLE plan with an empty draft. -/
def plan (target : Nat) : Plan :=
  { incident := none, target := target, mode := .replace, window := 30, rise := 200, keep := 64,
    draftState := .empty, editor := none, draft := [], activeState := .idle, active := [], verdict := .none,
    orderFailed := false, needsRevision := false, test := .none }

/-! ## WellFormed: each field out of its width, each capacity exceeded -/

theorem test_wellFormed_header :
    ([.openModel { desk := 16, tag := 0 }, .readTrace { desk := 0, tag := 256 }, .fetchOrder { desk := 255, tag := 1 },
      .getNotices { desk := 16, tag := 0 }, .peekNotices { desk := 0, tag := 256 },
      .linkReset { desk := 16, tag := 0 }] : List Instr).all (fun c => !wellFormed c) = true := by decide

theorem test_wellFormed_network :
    ([.defineSegment (desk 0) 65536 0 0 0, .defineSegment (desk 0) 0 256 0 0, .defineSegment (desk 0) 0 0 256 0,
      .defineSegment (desk 0) 0 0 0 4294967296, .defineValve (desk 0) 65536 0 none none 0 0 none 0,
      .defineValve (desk 0) 0 256 none none 0 0 none 0, .defineValve (desk 0) 0 0 (some 65536) none 0 0 none 0,
      .defineValve (desk 0) 0 0 none (some 65536) 0 0 none 0, .defineValve (desk 0) 0 0 none none 256 0 none 0,
      .defineValve (desk 0) 0 0 none none 0 256 none 0,
      .defineValve (desk 0) 0 0 none none 0 0 (some { concentrator := 256, channel := 0 }) 0,
      .defineValve (desk 0) 0 0 none none 0 0 (some { concentrator := 0, channel := 256 }) 0,
      .defineValve (desk 0) 0 0 none none 0 0 none 256, .alterSegment (desk 0) 65536 none none,
      .alterSegment (desk 0) 0 (some 256) none, .alterSegment (desk 0) 0 none (some 4294967296),
      .splitSegment (desk 0) 65536 [] [] 0, .splitSegment (desk 0) 0 (List.replicate 13 0) [] 0,
      .splitSegment (desk 0) 0 [65536] [] 0, .splitSegment (desk 0) 0 [] (List.replicate 5 0) 0,
      .splitSegment (desk 0) 0 [] [65536] 0, .splitSegment (desk 0) 0 [] [] 4294967296,
      .mergeAtStop (desk 0) 65536, .readSegment (desk 0) 65536, .readValve (desk 0) 65536] : List Instr).all
      (fun c => !wellFormed c) = true := by decide

theorem test_wellFormed_field :
    ([.readStrays (desk 0) (some 256), .definePoint (desk 0) 65536 ⟨0, 0⟩ 0 0 0 0 0 0 0,
      .definePoint (desk 0) 0 ⟨256, 0⟩ 0 0 0 0 0 0 0, .definePoint (desk 0) 0 ⟨0, 0⟩ 65536 0 0 0 0 0 0,
      .definePoint (desk 0) 0 ⟨0, 0⟩ 0 65536 0 0 0 0 0, .definePoint (desk 0) 0 ⟨0, 0⟩ 0 0 65536 0 0 0 0,
      .definePoint (desk 0) 0 ⟨0, 0⟩ 0 0 0 256 0 0 0, .definePoint (desk 0) 0 ⟨0, 0⟩ 0 0 0 0 256 0 0,
      .definePoint (desk 0) 0 ⟨0, 0⟩ 0 0 0 0 0 65536 0, .definePoint (desk 0) 0 ⟨0, 0⟩ 0 0 0 0 0 0 256,
      .alterPoint (desk 0) 65536 none none none none none none,
      .alterPoint (desk 0) 0 (some 65536) none none none none none,
      .alterPoint (desk 0) 0 none (some 65536) none none none none,
      .alterPoint (desk 0) 0 none none (some 256) none none none,
      .alterPoint (desk 0) 0 none none none (some 256) none none,
      .alterPoint (desk 0) 0 none none none none (some 65536) none,
      .alterPoint (desk 0) 0 none none none none none (some 256),
      .setProfile (desk 0) 256 0 0 0 0 0 0 0 true, .setProfile (desk 0) 0 256 0 0 0 0 0 0 true,
      .setProfile (desk 0) 0 0 256 0 0 0 0 0 true, .setProfile (desk 0) 0 0 0 256 0 0 0 0 true,
      .setProfile (desk 0) 0 0 0 0 4294967296 0 0 0 true, .setProfile (desk 0) 0 0 0 0 0 4294967296 0 0 true,
      .setProfile (desk 0) 0 0 0 0 0 0 4294967296 0 true, .setProfile (desk 0) 0 0 0 0 0 0 0 4294967296 true,
      .readOutage (desk 0) 256 0, .readOutage (desk 0) 0 65536, .reportRelit (desk 0) 65536 0,
      .reportRelit (desk 0) 0 65536, .telemetryByte [], .telemetryByte (List.replicate 7 ⟨true, true⟩),
      .telemetryByte (List.replicate 9 ⟨true, true⟩)] : List Instr).all (fun c => !wellFormed c) = true := by decide

theorem test_wellFormed_incident :
    ([.reportCall (desk 0) 4294967296 0 true true true none, .reportCall (desk 0) 0 65536 true true true none,
      .reportCall (desk 0) 0 0 true true true (some 65536), .regrade (desk 0) 65536 0, .regrade (desk 0) 0 128,
      .regrade (desk 0) 0 (-129), .setAllowances (desk 0) 65536 0 0, .setAllowances (desk 0) 0 65536 0,
      .setAllowances (desk 0) 0 0 65536, .declareControlled (desk 0) 65536, .closeIncident (desk 0) 65536,
      .readIncident (desk 0) 65536, .offerNext (desk 0) 256 0, .offerNext (desk 0) 0 256,
      .acceptOffer (desk 0) 65536, .declineOffer (desk 0) 65536, .dispatchDirect (desk 0) 65536,
      .reportAttended (desk 0) 65536, .setOfferTime (desk 0) 65536] : List Instr).all
      (fun c => !wellFormed c) = true := by decide

theorem test_wellFormed_plan :
    ([.createPlan (desk 0) (some 65536) none 0 none none none, .createPlan (desk 0) none (some 65536) 0 none none none,
      .createPlan (desk 0) none none 256 none none none, .createPlan (desk 0) none none 0 (some 256) none none,
      .createPlan (desk 0) none none 0 none (some 65536) none, .createPlan (desk 0) none none 0 none none (some 256),
      .deletePlan (desk 0) 256, .lockDraft (desk 0) 256 true, .addValve (desk 0) 256 0, .addValve (desk 0) 0 65536,
      .removeValve (desk 0) 256 0, .removeValve (desk 0) 0 65536, .commitDraft (desk 0) 256,
      .unlockDraft (desk 0) 256, .releasePlan (desk 0) 256, .readPlan (desk 0) 256] : List Instr).all
      (fun c => !wellFormed c) = true := by decide

theorem test_wellFormed_order :
    ([.reportValve (desk 0) 65536 0, .reportValve (desk 0) 0 256, .withdrawOrder (desk 0) 65536,
      .reissueValve (desk 0) 65536, .declareInoperable (desk 0) 65536, .restoreOperable (desk 0) 65536,
      .setOrderTimes (desk 0) 256 0, .setOrderTimes (desk 0) 0 256, .readOrders (desk 0) 256 0,
      .readOrders (desk 0) 0 256, .setClock (desk 0) 4294967296, .setDayClass (desk 0) 256,
      .setNoticeEnables { desk := 16, tag := 0 } 0, .listChanged (desk 0) 256 0, .listChanged (desk 0) 0 256,
      .setDeskArea (desk 0) 256 0 0, .setDeskArea (desk 0) 0 65536 0, .setDeskArea (desk 0) 0 0 65536] :
      List Instr).all (fun c => !wellFormed c) = true := by decide

/-! ## The opcode table gives no bits -/

theorem test_no_word_spells_a_command : decodeTableWord 0 0 = none ∧ decodeTableWord 8 165 = none := by decide

/-! ## Request frames, written out from the layouts of R186 and R187 -/

/-- DEFINE SEGMENT is request 1: segment 812, tier LP, zone 40, 1,850 customers. -/
theorem test_frame_defineSegment :
    parseFrame [165, 0, 1, 7, 8, 3, 44, 0, 40, 0, 0, 7, 58] = .passed (.defineSegment (desk 0) 812 0 40 1850) := by
  decide

/-- REPORT CALL is request 17; "any other value" than 0 is yes, and absent value bytes are not examined. -/
theorem test_frame_reportCall :
    parseFrame [165, 5, 17, 7, 12, 0, 1, 17, 123, 4, 180, 0, 9, 0, 0, 99, 98] =
      .passed (.reportCall (desk 5) 70011 1204 false true false none) := by decide

/-- REGRADE is request 18; its adjustment is a signed byte, and 216 is -40. -/
theorem test_frame_regrade : parseFrame [165, 5, 18, 7, 3, 0, 52, 216] = .passed (.regrade (desk 5) 52 (-40)) := by
  decide

/-- SPLIT SEGMENT is request 5: segment 812, one valve 2210, one point 78, 700 customers. -/
theorem test_frame_splitSegment :
    parseFrame [165, 3, 5, 7, 12, 3, 44, 1, 8, 162, 1, 0, 78, 0, 0, 2, 188] =
      .passed (.splitSegment (desk 3) 812 [2210] [78] 700) := by decide

/-- SET DESK AREA is request 52, the last of the catalogue. -/
theorem test_frame_setDeskArea :
    parseFrame [165, 0, 52, 7, 5, 3, 2, 188, 3, 231] = .passed (.setDeskArea (desk 0) 3 700 999) := by decide

/-- FETCH ORDER is request 39, READ STRAYS 9, LIST CHANGED 51. -/
theorem test_frame_codes :
    parseFrame [165, 2, 39, 7, 0] = .passed (.fetchOrder (desk 2)) ∧
      parseFrame [165, 4, 9, 7, 2, 1, 17] = .passed (.readStrays (desk 4) (some 17)) ∧
      parseFrame [165, 0, 51, 7, 2, 2, 8] = .passed (.listChanged (desk 0) 2 8) := by decide

/-- The port tests of R188, in order. -/
theorem test_frame_refusals :
    parseFrame [165, 0, 1] = .refused 0 .badField ∧ parseFrame [164, 0, 3, 9, 0] = .refused 0 .badField ∧
      parseFrame [165, 0, 3, 9] = .refused 9 .badField ∧ parseFrame [165, 0, 3, 9, 1] = .refused 9 .badField ∧
      parseFrame [165, 16, 60, 9, 0] = .refused 9 .badField ∧
      parseFrame [165, 0, 0, 9, 0] = .refused 9 .unknownRequest ∧
      parseFrame [165, 0, 53, 9, 0] = .refused 9 .unknownRequest ∧
      parseFrame [165, 0, 7, 9, 1, 0] = .refused 9 .badField := by decide

/-- The list of moved valves holds 12 at most (R188). -/
theorem test_frame_list_capacity :
    parseFrame ([165, 0, 5, 9, 34, 0, 0, 13] ++ List.replicate 26 0 ++ [0, 0, 0, 0, 0]) = .refused 9 .badField := by
  decide

/-- The answer to SET OFFER TIME 10 (R109): DONE, CLAMPED, a body of two bytes that hold 30. -/
theorem test_answer_bytes :
    ({ tag := 9, reply := { result := .done, clamped := true, body := [.u16 30] }, discarded := false,
       number := 0 } : AnswerFrame).bytes = [9, 1, 1, 0, 2, 0, 30] := by decide

/-! ## The Network Model -/

/-- A number outside 0-4095 is BAD FIELD (R8); customers above 65,535 are taken as 65,535 with CLAMPED. -/
theorem test_defineSegment :
    result (.defineSegment (desk 0) 4096 0 0 0) State.reset = some .badField ∧
      (said (.defineSegment (desk 0) 1 0 0 65536) State.reset).map Reply.clamped = some true ∧
      (Table.at? (nx (.defineSegment (desk 0) 1 0 0 65536) State.reset).segments 1).map Segment.customers =
        some 65535 := by decide

/-- R9: a MANUAL valve carries no tag, a MOVING initial report is refused, and STOP cannot be defined. -/
theorem test_defineValve :
    result (.defineValve (desk 0) 1 0 (some 1) (some 2) 0 1 (some ⟨1, 1⟩) 0) State.reset = some .badField ∧
      result (.defineValve (desk 0) 1 0 (some 1) (some 2) 0 1 none 2) State.reset = some .badField ∧
      result (.defineValve (desk 0) 1 3 (some 1) (some 2) 0 1 none 0) State.reset = some .badField ∧
      result (.defineValve (desk 0) 1 0 (some 1) (some 2) 0 1 none 3) State.reset = some .done := by decide

/-- R11: an OFFTAKE with an end A is the fault of check 1, and the answer names it; record kind VALVE is 1. -/
theorem test_openModel_fault :
    said (.openModel (desk 0)) { State.reset with
        segments := [(1, segment .ip 0 0 [] []), (2, segment .lp 0 9 [] [])]
        valves := [(3, valve .offtake none 1), (4, valve .offtake (some 1) 2)] } =
      some { result := .badField, clamped := false, body := [.u8 1, .u8 1, .u16 4] } := by decide

/-- R14: an empty model opens, and the definitions are then locked (R6). -/
theorem test_openModel_empty :
    (nx (.openModel (desk 0)) State.reset).model = .running ∧
      result (.openModel (desk 0)) (did (.openModel (desk 0)) State.reset) = some .modelLocked := by decide

/-- The corner of section 1.9, before the split. -/
def stopCorner : State :=
  { bare 40000 with
    stopCount := 11
    segments := [(140, segment .mp 40 0 [301] []), (812, segment .lp 40 1850 [301, 2207, 2210] [77, 78]),
      (813, segment .lp 40 9 [2207] []), (905, segment .lp 40 9 [2210] [])]
    valves := [(301, valve .governor (some 140) 812), (2207, valve .line (some 812) 813),
      (2210, valve .line (some 812) 905)]
    points := [(77, point ⟨40, 1⟩ 812), (78, point ⟨40, 2⟩ 812)]
    windows := [(3, { base := 700, limit := 999 })] }

/-- The split of section 1.9; the lowest free slots here are 0 and 0. -/
theorem test_splitSegment :
    let s := nx (.splitSegment (desk 3) 812 [2210] [78] 700) stopCorner
    reply s = some { result := .done, clamped := false, body := [.u16 0, .u16 0] } ∧
      (Table.at? s.segments 812).map (fun g => (g.customers, g.valveList, g.pointList)) =
        some (1150, [0, 301, 2207], [77]) ∧
      (Table.at? s.segments 0).map (fun g => (g.customers, g.valveList, g.pointList)) = some (700, [0, 2210], [78]) ∧
      (Table.at? s.valves 2210).map (fun a => (a.endA, a.endB)) = some (some 0, 905) ∧ s.stopCount = 12 := by decide

/-- Segment 0 lies outside desk 3's window, so desk 3 may not merge the stop, and desk 0 may (section 1.9). -/
theorem test_mergeAtStop :
    let s := did (.splitSegment (desk 3) 812 [2210] [78] 700) stopCorner
    result (.mergeAtStop (desk 3) 0) s = some .outOfArea ∧
      (Table.at? (nx (.mergeAtStop (desk 0) 0) s).segments 812).map Segment.customers = some 1850 ∧
      Table.at? (nx (.mergeAtStop (desk 0) 0) s).segments 0 = none := by decide

/-- R15: a customers count is refused for a segment that is not SUPPLIED, and the zone is then not written. -/
theorem test_alterSegment :
    let s := { bare 0 with segments := [(5, { segment .lp 1 10 [] [] with supply := .relight })] }
    said (.alterSegment (desk 0) 5 (some 9) (some 20)) s =
        some { result := .wrongState, clamped := false, body := [] } ∧
      (nx (.alterSegment (desk 0) 5 (some 9) (some 20)) s).segments = s.segments := by decide

/-! ## The Telemetry Intake: the example of section 2.7 -/

def concentrator17 : State :=
  { bare 43200 with
    points := [(40, point ⟨17, 2⟩ 1), (41, point ⟨17, 3⟩ 1)]
    valves := [(3120, { valve .line (some 1) 2 with operation := .remote, tag := some ⟨17, 9⟩ })]
    concentrators := [(17, { state := .up, lastChange := 40100 })]
    intake := { State.reset.intake with
      queue := [{ kind := 5, tag := ⟨17, 0⟩, value := 0 }, { kind := 1, tag := ⟨30, 1⟩, value := 500 },
        { kind := 4, tag := ⟨17, 0⟩, value := 0 }]
      report := { IntakeReport.clear with strays := [⟨22, 5⟩] } } }

theorem test_linkDown :
    let s := nx .linkDownItem concentrator17
    concentrator s 17 = { state := .down, lastChange := 43200 } ∧
      (s.points.map (fun r => r.2.condition)) = [.stale, .stale] ∧
      (s.valves.map (fun r => (r.2.reported, r.2.unconfirmed))) = [(.opened, true)] ∧
      s.notices.raised &&& 0x40 = 0x40 := by decide

theorem test_stray_and_linkUp :
    let s := nx .readingItem (nx .linkDownItem concentrator17)
    s.intake.report.strays = [⟨22, 5⟩, ⟨30, 1⟩] ∧ (nx .linkUpItem s).intake.queue = [] ∧
      (concentrator (nx .linkUpItem s) 17).state = .up ∧
      ((nx .linkUpItem s).points.map (fun r => r.2.condition)) = [.stale, .stale] := by decide

/-- The answer to READ STRAYS lists the tags and clears them when it is placed (R38). -/
theorem test_readStrays :
    let s := nx (.readStrays (desk 4) (some 17)) concentrator17
    (reply s).map Reply.body = some [.u8 1, .u8 22, .u8 5, .u8 0, .u8 0, .u8 0, .u8 0, .u8 3, .u8 1, .u32 40100] ∧
      (nx .answerPlaced s).intake.report.strays = [] := by decide

/-- R31: a HOLD of 256 is a bad item. -/
theorem test_badItem :
    (({ kind := 2, tag := ⟨0, 0⟩, value := 256 } : Item).sort, ({ kind := 2, tag := ⟨0, 0⟩, value := 255 } : Item).sort,
      ({ kind := 3, tag := ⟨0, 0⟩, value := 4 } : Item).sort, ({ kind := 6, tag := ⟨0, 0⟩, value := 0 } : Item).sort) =
      (.bad, .hold, .bad, .bad) := by decide

/-- The samples of a byte, most significant bit first, with the mark on the first (R194). -/
def samples (mark : Bool) (b : List Bool) : List BitSample := b.map (fun d => ⟨d, mark⟩)

/-- A marked byte 1 begins an item in SEEKING; an unmarked byte in IDLE is a loss of framing (R26, R30). -/
theorem test_telemetryByte :
    (nx (.telemetryByte (samples true [false, false, false, false, false, false, false, true]))
        State.reset).intake.receiver = .receiving [1] ∧
      (nx (.telemetryByte (samples false (List.replicate 8 true)))
        { State.reset with intake := { State.reset.intake with receiver := .idle } }).intake.report.framing = true := by
  decide

/-- LINK RESET answers the number of items it discards, and only desk 0 may send it (R29). -/
theorem test_linkReset :
    (said (.linkReset (desk 0)) concentrator17).map Reply.body = some [.u8 3] ∧
      result (.linkReset (desk 1)) concentrator17 = some .outOfArea := by decide

/-! ## The Pressure Supervisor -/

/-- The worked conversions of section 3.3; the last is 1,441,133 Pa, taken as 1,048,575. -/
theorem test_conversions :
    convert 13107 195 36000 = (4360, false) ∧ convert 13107 195 65534 = (9984, false) ∧
      convert 13107 195 13000 = (0, false) ∧ convert 13107 40000 50000 = (1048575, true) := by decide

/-- The entry of the worked band sequence of section 3.4. -/
def entry : Profile :=
  { group := 3, periodValue := 0, periodMask := 0, ll := 1500, l := 2000, h := 6500, hh := 7500, enabled := true }

/-- Steps 1, 3, 4, 9, 11 and 12 of the worked band sequence, with hysteresis 100. -/
theorem test_target_bands :
    targetBand entry 100 .normal 1950 = .low ∧ targetBand entry 100 .low 2050 = .low ∧
      targetBand entry 100 .low 2150 = .normal ∧ targetBand entry 100 .normal 1200 = .lowLow ∧
      targetBand entry 100 .lowLow 1550 = .lowLow ∧ targetBand entry 100 .lowLow 1650 = .low := by decide

/-- A point whose zero offset is 0 and gain 1,024 reads its raw value in pascals. -/
def plainPoint (seg : Nat) : Point := { point ⟨1, 1⟩ seg with zero := 0, gain := 1024, selected := some 12 }

/-- A part with one such point, and one item in the queue. -/
def oneItem (kind value : Nat) (p : Point) : State :=
  { bare 100 with
    segments := [(1, segment .lp 0 5 [] [9])]
    points := [(9, p)]
    profiles := [(12, entry)]
    intake := { State.reset.intake with queue := [{ kind := kind, tag := ⟨1, 1⟩, value := value }] } }

/-- Band, candidate and count of the point. -/
def bandOf (s : State) : Option (Band × Option Band × Nat) :=
  (Table.at? s.points 9).map (fun p => (p.band, p.candidate, p.count))

/-- Steps 1 and 5 of the worked band sequence. -/
theorem test_reading :
    bandOf (nx .readingItem (oneItem 1 1950 (plainPoint 1))) = some (.normal, some .low, 1) ∧
      bandOf (nx .readingItem (oneItem 1 2080
        { plainPoint 1 with band := .low, candidate := some .normal, count := 1 })) = some (.low, none, 0) := by
  decide

/-- Steps 2 and 8 of the worked band sequence: a HOLD of n counts n + 1 times. -/
theorem test_hold :
    bandOf (nx .holdItem (oneItem 2 4
        { plainPoint 1 with lastRaw := some 1950, valid := true, candidate := some .low, count := 1 })) =
        some (.low, none, 0) ∧
      bandOf (nx .holdItem (oneItem 2 0
        { plainPoint 1 with
          lastRaw := some 2300, valid := true, band := .low, candidate := some .normal, count := 2 })) =
        some (.normal, none, 0) := by decide

/-- A point that enters LOWLOW on a SUPPLIED segment makes a PRESSURE incident (R60, R93): 10 + 25 + 50 = 85 is
grade A, due an hour later. -/
theorem test_pressure_incident :
    (Table.at? (nx .readingItem (oneItem 1 1200
      { plainPoint 1 with persistence := 1 })).incidents 0).map
        (fun i => (i.kind, i.score, i.grade, i.deadline, i.callCount)) = some (.pressure, 85, .a, 3700, 0) := by
  decide

/-- R173: an item that reaches the Register acts after the Register's own work for the latest second event. -/
theorem test_items_follow_owed_work :
    let owing (kind value : Nat) : State := { oneItem kind value { plainPoint 1 with valid := true, lastRaw := some 2080 }
      with incidents := [(0, incident 1 .c false 90)], clock := { second := 100, dayClass := 0, due := [.overdue] } }
    let overdue (s : State) : Option Bool := (Table.at? s.incidents 0).map Incident.overdue
    overdue (nx .readingItem (owing 1 2080)) = some true ∧ overdue (nx .holdItem (owing 2 0)) = some true ∧
      overdue (nx .positionItem { owing 3 1 with
        points := [], valves := [(7, { valve .line (some 1) 2 with operation := .remote, tag := some ⟨1, 1⟩ })] }) =
        some true := by decide

/-- The entries of group 3 in section 3.4. -/
def group3 : Table Profile :=
  [(10, { entry with periodValue := 32, periodMask := 224 }), (11, { entry with periodValue := 8, periodMask := 24 }),
    (12, entry)]

/-- The table of selections of section 3.4, by day class and hour. -/
theorem test_selections :
    let at' (d hour : Nat) := selection
      { State.reset with profiles := group3, clock := { second := hour * 3600, dayClass := d, due := [] } } 3
    (at' 0 7, at' 0 8, at' 0 16, at' 1 8) = (some 12, some 11, some 12, some 10) := by decide

/-- Thresholds out of order are BAD FIELD (R49); a gain of 0 is BAD FIELD (R40). -/
theorem test_thresholds_and_gain :
    result (.setProfile (desk 0) 1 3 0 0 100 90 500 600 true) State.reset = some .badField ∧
      result (.setProfile (desk 0) 1 3 0 0 90 100 500 600 true) State.reset = some .done ∧
      result (.definePoint (desk 0) 1 ⟨1, 1⟩ 1 0 0 3 3 100 10) State.reset = some .badField := by decide

/-- R42: a persistence of 20 is taken as 15 with CLAMPED. -/
theorem test_alterPoint :
    let s := nx (.alterPoint (desk 0) 9 none none none (some 20) none none) (oneItem 1 0 (plainPoint 1))
    (reply s).map Reply.clamped = some true ∧ (Table.at? s.points 9).map Point.persistence = some 15 := by decide

/-- R56: 10 minutes are 600 seconds; a point goes STALE when more than that has passed. -/
theorem test_pointStale :
    let s (n : Nat) := { bare n with
      points := [(9, plainPoint 1)], clock := { second := n, dayClass := 0, due := [.staleness] } }
    ((nx .pointStale (s 600)).points.map (fun r => r.2.condition),
      (nx .pointStale (s 601)).points.map (fun r => r.2.condition)) = ([.ok], [.stale]) := by decide

/-! ## The Supply Tracer: the district of section 4.6 -/

def district : State :=
  { bare 30005 with
    segments := [(10, segment .ip 0 0 [1, 20] []), (30, segment .mp 0 40 [20, 40, 41] []),
      (50, segment .lp 0 900 [40, 60] []), (51, segment .lp 0 600 [41, 61] []),
      (52, segment .lp 0 400 [60, 62] []), (53, segment .lp 0 300 [61, 62] [])]
    valves := [(1, valve .offtake none 10), (20, valve .governor (some 10) 30), (40, valve .governor (some 30) 50),
      (41, valve .governor (some 30) 51), (60, { valve .line (some 50) 52 with reported := .closed }),
      (61, valve .line (some 51) 53), (62, { valve .line (some 52) 53 with reported := .closed })] }

/-- The publication at 30,005: segment 52 alone is cut off, and takes record 0. -/
theorem test_publication :
    let s := nx .publication { district with
      tracer := { State.reset.tracer with pass := .running (takeInputs district), generation := 41 } }
    (s.segments.map (fun r => (r.1, r.2.supply, r.2.outage))) =
        [(10, .supplied, none), (30, .supplied, none), (50, .supplied, none), (51, .supplied, none),
          (52, .unsupplied, some 0), (53, .supplied, none)] ∧
      (Table.at? s.outages 0).map (fun o => (o.state, o.start, o.members, o.customersOff, o.customersRelit)) =
        some (.active, 30005, 1, 400, 0) ∧ s.tracer.generation = 42 ∧ s.tracer.pass = .idle := by decide

/-- The islands with governor 41 closed as well (30,403): 51 and 53 are one island, 52 another. -/
theorem test_islands :
    islands (takeInputs { district with
      valves := Table.upd district.valves 41 (fun a => { a with reported := .closed }) }) = [[51, 53], [52]] := by
  decide

/-- The relight reports of 32,500 and 32,900: 250, then 400 more, which is taken as 600 with CLAMPED. -/
theorem test_reportRelit :
    let s0 := { bare 32500 with
      segments := [(51, { segment .lp 0 600 [] [] with supply := .relight, outage := some 0 })]
      outages := [(0,
        { state := .restoring, start := 30005, restoring := some 32003, members := 1, customersOff := 600,
          customersRelit := 0 })] }
    let s1 := did (.reportRelit (desk 0) 51 250) s0
    let s2 := nx (.reportRelit (desk 0) 51 400) s1
    (Table.at? s1.segments 51).map Segment.relit = some 250 ∧
      (Table.at? s1.outages 0).map Outage.customersRelit = some 250 ∧
      (Table.at? s2.segments 51).map (fun g => (g.supply, g.outage, g.relit)) = some (.supplied, none, 0) ∧
      s2.outages = [] ∧ (reply s2).map Reply.clamped = some true := by decide

/-- The run of triggers of section 4.1: after the fourth the restart count is 3, the fifth sets rerun. -/
theorem test_triggers :
    let s4 := trigger (trigger (trigger (trigger district)))
    (s4.tracer.restarts, s4.tracer.rerun, (trigger s4).tracer.restarts, (trigger s4).tracer.rerun) =
      (3, false, 3, true) := by decide

/-! ## The Incident Register: the escape of section 5.9 -/

def escape : State := { bare 29640 with segments := [(1204, segment .lp 22 9 [] [])] }

/-- Score, grade, deadline and call count of incident 0. -/
def graded0 (s : State) : Option (Nat × Grade × Nat × Nat) :=
  (Table.at? s.incidents 0).map (fun i => (i.score, i.grade, i.deadline, i.callCount))

/-- The call at 29,640, outdoor: 22, grade C, deadline 116,040. A first call that is indoor: 62, grade B, 36,840. At
the last second the deadline is that second, so the incident is overdue as it is made (R98). -/
theorem test_reportCall_new :
    graded0 (nx (.reportCall (desk 0) 70011 1204 false false false none) escape) = some (22, .c, 116040, 1) ∧
      graded0 (nx (.reportCall (desk 0) 70011 1204 true false false none) escape) = some (62, .b, 36840, 1) ∧
      let s := { escape with clock := { second := 4294967295, dayClass := 0, due := [] } }
      (Table.at? (nx (.reportCall (desk 0) 70011 1204 false false false none) s).incidents 0).map Incident.overdue =
        some true := by decide

/-- The indoor call that joins: 74, grade B, 36,840. The same reference again is DUPLICATE. -/
theorem test_reportCall_joins :
    let s := did (.reportCall (desk 0) 70014 1204 true false false none)
      (did (.reportCall (desk 0) 70011 1204 false false false none) escape)
    graded0 s = some (74, .b, 36840, 2) ∧
      result (.reportCall (desk 0) 70014 1204 true false false none) s = some .duplicate := by decide

/-- REGRADE by -40 of an incident of score 111 gives 71, grade B, and leaves the earlier deadline (30,000). -/
theorem test_regrade :
    let i : Incident := { incident 1204 .a false 33240 with
      firstReport := 29640, callCount := 3, indoor := true, score := 111 }
    let s := { escape with
      segments := [(1204, segment .lp 22 9 [] [310])]
      points := [(310, { plainPoint 1204 with band := .low })]
      incidents := [(0, i)] }
    graded0 (nx (.regrade (desk 0) 0 (-40)) s) = some (71, .b, 33240, 3) ∧
      (said (.regrade (desk 0) 0 (-65)) s).map Reply.clamped = some true := by decide

/-- The second event of 33,240 makes a DISPATCHED incident overdue, and leaves an ATTENDED one. -/
theorem test_incidentOverdue :
    let s (a : Attendance) := { bare 33240 with
      incidents := [(0, { incident 1204 .a false 33240 with attendance := a })]
      clock := { second := 33240, dayClass := 0, due := [.overdue] } }
    ((nx .incidentOverdue (s .dispatched)).incidents.map (fun r => r.2.overdue),
      (nx .incidentOverdue (s .attended)).incidents.map (fun r => r.2.overdue)) = ([true], [false]) := by decide

/-- R97: allowances outside their ranges are taken at the nearest limits. -/
theorem test_setAllowances :
    said (.setAllowances (desk 0) 14 120 2881) State.reset =
      some { result := .done, clamped := true, body := [.u16 15, .u16 120, .u16 2880] } := by decide

/-- R104: an incident whose plan is not IDLE is WRONG STATE; with an IDLE plan it is retired. -/
theorem test_closeIncident :
    let s (a : ActiveState) := { escape with
      incidents := [(0, { incident 1204 .a false 33240 with plan := some 2 })]
      plans := [(2, { plan 1204 with incident := some 0, activeState := a })] }
    result (.closeIncident (desk 0) 0) (s .issuing) = some .wrongState ∧
      (nx (.closeIncident (desk 0) 0) (s .idle)).incidents = [] ∧
      (nx (.closeIncident (desk 0) 0) (s .idle)).plans.map (fun r => r.2.incident) = [none] := by decide

/-- R103: the answer gives CONTROLLED, the third of the safeties. -/
theorem test_declareControlled :
    (said (.declareControlled (desk 0) 0) { escape with incidents := [(0, incident 1204 .a false 9)] }).map
      Reply.body = some [.u8 2] := by decide

/-! ## The Dispatch Selector: the cold morning of section 6.6 -/

def coldMorning : State :=
  { bare 32000 with
    segments := [(1204, segment .lp 22 9 [] []), (1205, segment .lp 22 9 [] []), (1310, segment .lp 23 9 [] []),
      (1400, segment .lp 40 9 [] [])]
    incidents := [(52, incident 1204 .a false 33240), (58, incident 1310 .b false 34000),
      (61, incident 1400 .a false 32900), (63, incident 1205 .c true 31000)]
    windows := [(5, { base := 1200, limit := 1499 }), (6, { base := 1200, limit := 1499 })] }

/-- Candidates found and incident chosen. -/
def offered (c : Instr) (s : State) : Option (List Field) := (said c s).map (fun r => r.body.take 3)

/-- The rows at 32,000: 3 candidates and 52 for zones 22 and 23; for every zone, 61 has the earlier deadline. -/
theorem test_offerNext :
    offered (.offerNext (desk 5) 22 254) coldMorning = some [.u16 3, .u8 1, .u16 52] ∧
      offered (.offerNext (desk 6) 0 0) coldMorning = some [.u16 4, .u8 1, .u16 61] := by decide

/-- Score, grade, overdue flag, deadline second, safety and call count stand in the order of R111. -/
theorem test_offerNext_body :
    (said (.offerNext (desk 5) 23 255) { coldMorning with
      incidents := [(58, { incident 1310 .b true 31000 with score := 60, safety := .makingSafe, callCount := 3 })] }).map
        (fun r => r.body.drop 5) =
      some [.u8 60, .u8 1, .u8 1, .u32 31000, .u8 1, .u8 3, .u32 32120] := by decide

/-- The rows at 32,010 to 32,100: desk 6 is offered 61, may not dispatch 52, and desk 5 accepts 52. -/
theorem test_offers_and_accept :
    let s := did (.offerNext (desk 5) 22 254) coldMorning
    offered (.offerNext (desk 6) 0 0) s = some [.u16 3, .u8 1, .u16 61] ∧
      result (.dispatchDirect (desk 6) 52) s = some .busy ∧
      (Table.at? (nx (.acceptOffer (desk 5) 52) s).incidents 52).map Incident.attendance = some .dispatched ∧
      (nx (.acceptOffer (desk 5) 52) s).dispatch.offers = [] := by decide

/-- The second event of 32,120 ends desk 5's offer; its accept is then TOO LATE. -/
theorem test_offerExpiry :
    let s0 := did (.offerNext (desk 5) 22 254) coldMorning
    let s := nx .offerExpiry { s0 with clock := { second := 32120, dayClass := 0, due := [.expiry] } }
    s.dispatch.offers = [] ∧ (Table.at? s.incidents 52).map Incident.attendance = some .unassigned ∧
      result (.acceptOffer (desk 5) 52) s = some .tooLate := by decide

/-- DECLINE OFFER returns the incident to UNASSIGNED (R114); SET OFFER TIME takes 29 as 30 (R109). -/
theorem test_declineOffer_and_time :
    let s := did (.offerNext (desk 5) 22 254) coldMorning
    (Table.at? (nx (.declineOffer (desk 5) 52) s).incidents 52).map Incident.attendance = some .unassigned ∧
      said (.setOfferTime (desk 0) 29) s = some { result := .done, clamped := true, body := [.u16 30] } := by decide

/-- REPORT ATTENDED ends an offer, whichever desk holds it (R116). -/
theorem test_reportAttended :
    let s := nx (.reportAttended (desk 6) 52) (did (.offerNext (desk 5) 22 254) coldMorning)
    (Table.at? s.incidents 52).map Incident.attendance = some .attended ∧ s.dispatch.offers = [] := by decide

/-! ## The Plan Engine, the Order Unit and the Verification Unit -/

/-- The last three valves of section 8.10, with the list empty and the next serial 4,120. -/
def coldEvening : State :=
  { bare 50000 with
    segments := [(1, segment .lp 0 9 [4410, 4411, 4412] []), (2, segment .lp 0 9 [4410, 4411, 4412] [])]
    valves := [(4410, valve .line (some 1) 2),
      (4411, { valve .line (some 1) 2 with operation := .remote, tag := some ⟨30, 6⟩ }),
      (4412, valve .line (some 1) 2)]
    plans := [(20, { plan 1 with draftState := .edit, editor := some 2, draft := [4410, 4411, 4412] })]
    orderUnit := { State.reset.orderUnit with nextSerial := 4120 }
    windows := [(2, { base := 1, limit := 1 })]
    concentrators := [(30, { state := .up, lastChange := 0 })] }

/-- The transfer at 50,000: each hold goes to 1, and each valve is given an order in ascending number. -/
theorem test_commitDraft :
    let s := nx (.commitDraft (desk 2) 20) coldEvening
    (s.valves.map (fun r => (r.1, r.2.hold, r.2.orderState, r.2.orderSerial))) =
        [(4410, 1, .queued, some 4120), (4411, 1, .queued, some 4121), (4412, 1, .queued, some 4122)] ∧
      s.orderUnit.nextSerial = 4123 ∧
      (Table.at? s.plans 20).map (fun q => (q.activeState, q.active, q.draftState)) =
        some (.issuing, [4410, 4411, 4412], .empty) := by decide

/-- The fetches of section 8.10: a CREW order expires 90 minutes later, a REMOTE order 3 minutes later. -/
theorem test_fetchOrder :
    let s := did (.commitDraft (desk 2) 20) coldEvening
    let s1 := did (.fetchOrder (desk 2)) s
    (Table.at? s1.orders 4120).map Order.expiry = some (some 55400) ∧
      (Table.at? (nx (.fetchOrder (desk 2)) s1).orders 4121).map Order.expiry = some (some 50180) := by decide

/-- The second event at the expiry: the valve is STALLED and the plan has ORDER FAILED; REISSUE VALVE clears it. -/
theorem test_orderTimeout :
    let s := did (.fetchOrder (desk 2)) (did (.commitDraft (desk 2) 20) coldEvening)
    let s1 := nx .orderTimeout { s with clock := { second := 55400, dayClass := 0, due := [.timeout] } }
    let s2 := nx (.reissueValve (desk 2) 4410) s1
    (Table.at? s1.valves 4410).map Valve.orderState = some .stalled ∧
      s1.orderUnit.timeout = { set := true, valve := some 4410 } ∧
      (Table.at? s1.plans 20).map Plan.orderFailed = some true ∧
      (Table.at? s2.plans 20).map Plan.orderFailed = some false ∧
      (Table.at? s2.valves 4410).map Valve.orderSerial = some (some 4123) := by decide

/-- The report that completes an order (R151); WITHDRAW ORDER leaves the valve STALLED without a notice (R156). -/
theorem test_reportValve_and_withdraw :
    let s := did (.commitDraft (desk 2) 20) coldEvening
    let s1 := nx (.reportValve (desk 2) 4410 1) s
    let s2 := nx (.withdrawOrder (desk 2) 4120) { s with notices := State.reset.notices }
    Table.keys s1.orders = [4121, 4122] ∧ (Table.at? s1.valves 4410).map Valve.orderState = some .none ∧
      (Table.at? s2.valves 4410).map Valve.orderState = some .stalled ∧ s2.notices = State.reset.notices := by decide

/-- R150: a valve that should be OPEN is reported CLOSED; it is given an OPEN order. Code 3, FAULT, is UNKNOWN. -/
theorem test_unplanned_change :
    let s := nx (.reportValve (desk 0) 4412 1) coldEvening
    s.orderUnit.unplanned = { set := true, valve := some 4412 } ∧
      (Table.at? s.orders 4120).map (fun o => (o.valve, o.action)) = some (4412, .opening) ∧
      positionOfCode 3 = .unknown := by decide

/-- R158: a QUEUED order is withdrawn from an inoperable valve; R159: restored, it is given its order again. -/
theorem test_inoperable :
    let s := did (.declareInoperable (desk 2) 4410) (did (.commitDraft (desk 2) 20) coldEvening)
    Table.keys s.orders = [4121, 4122] ∧ (Table.at? s.plans 20).map Plan.needsRevision = some true ∧
      Table.keys (nx (.restoreOperable (desk 2) 4410) s).orders = [4121, 4122, 4123] := by decide

/-- R153: a REMOTE order whose concentrator is DOWN is passed over. -/
theorem test_fetch_passes_over :
    let s := did (.fetchOrder (desk 2)) (did (.commitDraft (desk 2) 20) coldEvening)
    ((said (.fetchOrder (desk 2)) { s with concentrators := [(30, { state := .down, lastChange := 9 })] }).map
      (fun r => r.body.take 2)) = some [.u16 4122, .u16 4412] := by decide

/-- R155: the order times are taken at the nearest limits. -/
theorem test_setOrderTimes :
    said (.setOrderTimes (desk 0) 0 241) State.reset =
      some { result := .done, clamped := true, body := [.u8 1, .u8 240] } := by decide

/-- R120: the window of 4 minutes is taken as 5, and the defaults are rise 200 and keep 64. -/
theorem test_createPlan :
    said (.createPlan (desk 0) none (some 1) 0 (some 4) none none) coldEvening =
        some { result := .done, clamped := true, body := [.u8 0, .u16 1, .u8 5, .u16 200, .u8 64] } ∧
      result (.createPlan (desk 0) none none 0 none none none) coldEvening = some .badField := by decide

/-- R122: a plan with a list in its draft is not deleted; R124: a draft in EDIT is BUSY to another desk. -/
theorem test_deletePlan_and_lockDraft :
    result (.deletePlan (desk 0) 20) coldEvening = some .wrongState ∧
      result (.lockDraft (desk 0) 20 false) coldEvening = some .busy ∧
      result (.lockDraft (desk 2) 20 true) coldEvening = some .done := by decide

/-- R125, R126, R128: the draft requests of the editor. -/
theorem test_draft :
    result (.addValve (desk 2) 20 4410) coldEvening = some .duplicate ∧
      (said (.removeValve (desk 2) 20 4411) coldEvening).map Reply.body = some [.u8 2, .u16 4410, .u16 4412] ∧
      (Table.at? (nx (.unlockDraft (desk 2) 20) coldEvening).plans 20).map (fun q => (q.draftState, q.draft)) =
        some (.empty, [4410, 4411, 4412]) := by decide

/-- R137, R138: released before anything closed, the plan is IDLE at once, for every valve stands OPEN. -/
theorem test_releasePlan :
    let s := nx (.releasePlan (desk 2) 20) (did (.commitDraft (desk 2) 20) coldEvening)
    (Table.at? s.plans 20).map (fun q => (q.activeState, q.active)) = some (.idle, []) ∧
      s.valves.map (fun r => (r.2.hold, r.2.orderState)) = [(0, .none), (0, .none), (0, .none)] ∧ s.orders = [] := by
  decide

/-- The keep thresholds of section 9.7. -/
theorem test_keepThreshold : keepThreshold 2100 64 = 525 ∧ keepThreshold 1980 64 = 495 := by decide

/-- The window end of section 9.7: 410 lies at or below 525, so the plan is TIGHT and its incident CONTROLLED. -/
theorem test_windowEnd :
    let d : TestData := { t0 := 31900, windowEnd := 33700, entries :=
      [{ point := 512, p0 := 2100, latest := 410, state := .testing },
        { point := 513, p0 := 1980, latest := 1300, state := .dropped }] }
    let s := nx .windowEnd { bare 33700 with
      segments := [(2405, segment .lp 0 9 [] [])]
      incidents := [(88, { incident 2405 .c false 99999 with plan := some 12 })]
      plans := [(12, { plan 2405 with incident := some 88, activeState := .secured, test := .running d })]
      clock := { second := 33700, dayClass := 0, due := [.windowEnd] } }
    (Table.at? s.plans 12).map (fun q => (q.activeState, q.verdict, q.test)) = some (.tight, .tight, .ended d) ∧
      (Table.at? s.incidents 88).map Incident.safety = some .controlled := by decide

/-! ## Time and notices -/

/-- R174: hour 8 of day class 1 is code 40; R172: the count wraps to 0. -/
theorem test_secondEvent :
    periodCode { second := 29640, dayClass := 1, due := [] } = 40 ∧
      (nx .secondEvent { State.reset with clock := { second := 4294967295, dayClass := 0, due := [] } }).clock.second =
        0 ∧ (nx .secondEvent State.reset).clock.second = 1 := by decide

/-- R175: the answer gives the count before and after, and the period code after. R174: a class above 7. -/
theorem test_setClock_and_dayClass :
    (said (.setClock (desk 0) 28800) (bare 28799)).map Reply.body = some [.u32 28799, .u32 28800, .u8 8] ∧
      result (.setClock (desk 1) 0) (bare 9) = some .outOfArea ∧
      result (.setDayClass (desk 0) 8) (bare 9) = some .badField ∧
      (said (.setDayClass (desk 0) 7) (bare 28800)).map Reply.body = some [.u8 7, .u8 232] := by decide

/-- The requests at 28,900 to 28,920 of section 10.5: TELEMETRY, PRESSURE and INCIDENT are bits 6, 0 and 1. -/
theorem test_notices :
    let s := { bare 28900 with
      points := [(77, plainPoint 1)]
      notices := { raised := 67, enabled := 11,
                   flags := { State.reset.notices.flags with points := [77], incidents := [37] } } }
    (said (.peekNotices (desk 0)) s).map Reply.body = some [.u8 67, .u8 11, .u32 28900, .u8 0, .u8 8] ∧
      noticePin s = true ∧ noticePin (did (.getNotices (desk 0)) s) = false ∧
      (said (.listChanged (desk 0) 2 8) s).map Reply.body = some [.u8 2, .u8 1, .u16 77, .u8 1, .u16 0] ∧
      (did (.listChanged (desk 0) 2 8) s).notices.flags.points = [] := by decide

/-- R177: a pending class that becomes enabled drives NOTICE at once. -/
theorem test_setNoticeEnables :
    noticePin (nx (.setNoticeEnables (desk 0) 255)
      { bare 0 with notices := { State.reset.notices with raised := 64 } }) = true := by decide

/-! ## The request port -/

/-- The lost frame of section 11.3: the early frame is discarded, and the answer to tag 7 says so. -/
theorem test_lost_frame :
    let s1 := nx .requestDiscarded (nx (.readTrace (desk 0)) State.reset)
    let s2 := nx .answerPlaced s1
    let s3 := nx (.readTransaction 3) s2
    let s4 := nx (.readTransaction 400) s3
    s1.port.discarded = true ∧ answerPin s2 = true ∧ s3.port.sent = [7, 1, 2] ∧ answerPin s3 = true ∧
      answerPin s4 = false ∧ s4.port.discarded = false ∧
      (nx (.readTransaction 5) s4).port.sent = [0, 0, 0, 0, 0] := by decide

/-- A malformed frame is answered BAD FIELD with tag 0, and the bytes of SET CLOCK set the clock. -/
theorem test_malformedRequestFrame :
    result (.malformedRequestFrame [7]) State.reset = some .badField ∧
      (nx (.malformedRequestFrame [165, 0, 46, 9, 4, 0, 0, 0, 5]) State.reset).clock.second = 5 := by decide

/-- R190, R191: desk 3 has no authority until desk 0 gives it a window. -/
theorem test_setDeskArea :
    inWindow State.reset 3 1 = false ∧
      inWindow (nx (.setDeskArea (desk 0) 3 700 999) State.reset) 3 999 = true ∧
      inWindow (nx (.setDeskArea (desk 0) 3 700 999) State.reset) 3 1000 = false ∧
      result (.setDeskArea (desk 0) 0 1 2) State.reset = some .badField := by decide

/-- R193: RESET held low, SECOND is not counted; after it rises the part is as after cold reset. -/
theorem test_coldReset :
    let s := nx (.coldReset .falls) (bare 77)
    (nx .secondEvent s).clock.second = 0 ∧ nx (.coldReset (.rises false)) s = State.reset := by decide

/-- The reads of free slots are NO RECORD, and give the figures of their chapters (R23, R24, R106, R142). -/
theorem test_reads :
    said (.readSegment (desk 1) 0) (bare 0) =
        some { result := .noRecord, clamped := false, body := [.u8 1, .u16 0] } ∧
      result (.readValve (desk 1) 6144) (bare 0) = some .badField ∧
      result (.readOutage (desk 1) 0 0) (bare 0) = some .noRecord ∧
      result (.readIncident (desk 1) 0) State.reset = some .notRunning ∧
      result (.readPlan (desk 1) 0) (bare 0) = some .noRecord ∧
      result (.readOrders (desk 1) 0 3) (bare 0) = some .badField := by decide

end Sys2Proof.Tests
end

