-- ==== Sys2Proof/Tests/Witnesses.lean ====
section
/-! SUPPORT. For every statement of Certificates/Slice0/Obligations.lean that has hypotheses, a state and operands
that meet them together, with the clauses at the ends of their ranges. -/

namespace Sys2Proof.Tests

open Sys2Proof Sys2Proof.Machine

/-- What a list of records shows of each record in use. -/
theorem of_all {α : Type} {t : Table α} {p : Nat → α → Bool} (h : t.all (fun r => p r.1 r.2) = true) (n : Nat)
    (a : α) (hn : Table.at? t n = some a) : p n a = true := by
  simpa using List.all_eq_true.mp h (n, a) (Table.mem_of_at? hn)

/-- What a list of records shows of each of its pairs. -/
theorem of_all_mem {α : Type} {t : Table α} {p : Nat → α → Bool} (h : t.all (fun r => p r.1 r.2) = true) (n : Nat)
    (a : α) (hn : (n, a) ∈ t) : p n a = true := by
  simpa using List.all_eq_true.mp h (n, a) hn

/-- A record of a slot as a test finds it. -/
theorem exists_of_test {α : Type} {t : Table α} {n : Nat} {p : α → Bool} (h : Table.test t n p = true) :
    ∃ a, Table.at? t n = some a ∧ p a = true := by
  cases ha : Table.at? t n with
  | none => simp [Table.test, ha] at h
  | some a => exact ⟨a, rfl, by simpa [Table.test, ha] using h⟩

/-! ### The laws, by a check of every record -/

theorem plansLegal_of {s : State} (h : s.plans.all (fun r => decide (r.2.draft.Nodup ∧
      r.2.draft.length ≤ Config.draftCapacity ∧ (∀ v ∈ r.2.draft, Table.has s.valves v = true) ∧
      r.2.active.Nodup ∧ r.2.active.length ≤ Config.draftCapacity ∧
      (∀ v ∈ r.2.active, Table.has s.valves v = true) ∧ (r.2.draftState = .edit ↔ r.2.editor ≠ none) ∧
      (r.2.activeState = .idle ↔ r.2.active = [])) && (match r.2.test with
        | .none => decide ((r.2.activeState = .idle ∨ r.2.activeState = .issuing ∨ r.2.activeState = .releasing) ∧
            r.2.verdict = .none)
        | .running d => decide (r.2.activeState = .secured ∧ r.2.verdict = .none ∧ ∃ e ∈ d.entries, e.state = .testing)
        | .ended _ => decide ((r.2.activeState = .secured ∧ r.2.verdict = .untested) ∨
            (r.2.activeState = .tight ∧ r.2.verdict = .tight) ∨
            (r.2.activeState = .passing ∧ r.2.verdict = .passing)))) = true) : s.plansLegal := by
  intro p q hq
  have h1 := List.all_eq_true.mp h (p, q) (Table.mem_of_at? hq)
  simp only [Bool.and_eq_true, decide_eq_true_eq] at h1
  obtain ⟨⟨a, b, c, d, e, f, g, i⟩, k⟩ := h1
  refine ⟨a, b, c, d, e, f, g, i, ?_⟩
  unfold Plan.testLegal
  split <;> rename_i ht <;> rw [ht] at k <;> exact of_decide_eq_true k

theorem orderLaws_of {s : State}
    (h1 : s.orders.all (fun r => Table.test s.valves r.2.valve (fun a => decide (a.orderSerial = some r.1 ∧
      r.2.channel = a.operation.channel ∧
      (r.2.state = .queued → a.orderState = .queued ∧ r.2.action = a.wanted.action ∧ a.inoperable = false ∧
        r.2.fetched = none ∧ r.2.expiry = none) ∧
      (r.2.state = .fetched → a.orderState = .fetched ∧ r.2.fetched ≠ none ∧ r.2.expiry ≠ none)))) = true)
    (h2 : s.orders.all (fun r => s.orders.all (fun x => decide (r.2.valve = x.2.valve → r.1 = x.1))) = true)
    (h3 : s.valves.all (fun r => decide ((r.2.orderState = .queued ∨ r.2.orderState = .fetched →
        (r.2.orderSerial.any (fun n => Table.test s.orders n (fun o => decide (o.valve = r.1)))) = true) ∧
      (r.2.orderState ≠ .queued → r.2.orderState ≠ .fetched → r.2.orderSerial = none) ∧
      (r.2.orderState = .waiting ↔ r.2.waitingSince ≠ none) ∧ (r.2.followUp = true → r.2.orderState = .fetched) ∧
      (r.2.inoperable = true → r.2.orderState = .none ∨ r.2.orderState = .fetched ∨ r.2.orderState = .stalled) ∧
      (r.2.orderState = .waiting → s.orders.length = Config.orderCapacity))) = true) : s.orderLaws := by
  refine ⟨fun n o h => ?_, fun n m o x hn hm hv => ?_, fun v a h => ?_⟩
  · obtain ⟨a, ha, hp⟩ := exists_of_test (List.all_eq_true.mp h1 (n, o) (Table.mem_of_at? h))
    exact ⟨a, ha, of_decide_eq_true hp⟩
  · have := List.all_eq_true.mp (List.all_eq_true.mp h2 (n, o) (Table.mem_of_at? hn)) (m, x) (Table.mem_of_at? hm)
    exact of_decide_eq_true this hv
  · obtain ⟨h4, h5⟩ := of_decide_eq_true (List.all_eq_true.mp h3 (v, a) (Table.mem_of_at? h))
    refine ⟨fun hs => ?_, h5⟩
    have := h4 hs
    cases hn : a.orderSerial with
    | none => simp [hn] at this
    | some n =>
      obtain ⟨o, ho, hv⟩ := exists_of_test (by simpa [hn] using this)
      exact ⟨n, o, rfl, ho, of_decide_eq_true hv⟩

theorem ordersLegal_of {s : State} (h1 : Table.wf s.orders 65536) (h2 : s.orders.length ≤ Config.orderCapacity)
    (h3 : s.orders.all (fun r => decide (1 ≤ r.1)) = true) (h4 : 1 ≤ s.orderUnit.nextSerial)
    (h5 : s.orderUnit.nextSerial ≤ 65535) (h6 : Table.has s.orders s.orderUnit.nextSerial = false) : s.ordersLegal :=
  ⟨h1, h2, fun n o h => of_decide_eq_true (of_all (p := fun n _ => decide (1 ≤ n)) h3 n o h), h4, h5, h6⟩

theorem outagesLegal_of {s : State}
    (h1 : s.segments.all (fun r => decide ((r.2.supply = .supplied → r.2.outage = none ∧ r.2.relit = 0) ∧
      r.2.relit ≤ r.2.customers) && r.2.outage.all (fun o => Table.has s.outages o)) = true)
    (h2 : s.outages.all (fun r =>
      let m := Sys2Proof.Machine.members s r.1
      decide (m ≠ [] ∧ r.2.members = m.length ∧ r.2.customersOff = (m.map (fun x => x.2.customers)).sum ∧
        r.2.customersRelit = (m.map (fun x => x.2.relit)).sum ∧ r.2.customersRelit ≤ r.2.customersOff ∧
        (r.2.state = .active ↔ ∃ x ∈ m, x.2.supply = .unsupplied) ∧
        (r.2.state = .restoring → r.2.restoring ≠ none))) = true) : s.outagesLegal := by
  refine ⟨fun n g h => ?_, fun n o h => ?_⟩
  · have := List.all_eq_true.mp h1 (n, g) (Table.mem_of_at? h)
    simp only [Bool.and_eq_true, decide_eq_true_eq] at this
    refine ⟨this.1.1, this.1.2, fun o ho => ?_⟩
    simpa [ho] using this.2
  · unfold Outage.legal
    exact of_decide_eq_true (List.all_eq_true.mp h2 (n, o) (Table.mem_of_at? h))

/-! ## The machine as a whole -/

theorem witness_RefusedRequestChangesNothing :
    (requestHeader (.openModel (desk 1)) = some (desk 1) ∧ State.reset.ready ∧
      exec (.openModel (desk 1)) State.reset = .next (nx (.openModel (desk 1)) State.reset) ∧
      (nx (.openModel (desk 1)) State.reset).replying 7 (.refusal .outOfArea) ∧ Result.outOfArea ≠ .done) ∧
    (bare 0).ready ∧ ∃ r, (nx (.readIncident (desk 1) 0) (bare 0)).replying 7 r ∧ r.result = .noRecord :=
  ⟨⟨rfl, ⟨⟨rfl, rfl, rfl⟩, rfl⟩, rfl, rfl, by decide⟩, ⟨⟨rfl, rfl, rfl⟩, rfl⟩, _, rfl, rfl⟩

theorem witness_OnlyDeskZeroMovesWindowsAndCount :
    (nx (.setDeskArea (desk 0) 3 700 999) State.reset).windows ≠ State.reset.windows ∧
      (nx (.malformedRequestFrame [165, 0, 52, 7, 5, 3, 2, 188, 3, 231]) State.reset).windows ≠ State.reset.windows ∧
      (nx (.coldReset .falls) stopCorner).windows ≠ stopCorner.windows ∧
      (nx .secondEvent State.reset).clock.second ≠ State.reset.clock.second ∧
      (nx (.setClock (desk 0) 5) State.reset).clock.second ≠ State.reset.clock.second ∧
      (nx (.malformedRequestFrame [165, 0, 46, 9, 4, 0, 0, 0, 5]) State.reset).clock.second ≠
        State.reset.clock.second ∧
      (nx (.coldReset .falls) (bare 5)).clock.second ≠ (bare 5).clock.second := by decide

/-! ## Laws that every step keeps: a working state, with a command that reaches the law in front -/

def lastSecond : State := { stopCorner with
  clock := { second := 4294967295, dayClass := 7, due := [] }
  pending := [.secondEvent] }

theorem settingsLegal_lastSecond :
    lastSecond.clockLegal ∧ lastSecond.parametersLegal ∧ lastSecond.windowsLegal ∧
      step lastSecond = .next (nx .secondEvent { lastSecond with pending := [] }) := by
  refine ⟨by unfold State.clockLegal; decide, by unfold State.parametersLegal; decide,
    ⟨by unfold Table.wf; decide, fun d w h => ?_⟩, rfl⟩
  have := of_all (p := fun d w => 1 ≤ d && w.base < Config.segmentSlots && w.limit < Config.segmentSlots)
    (by decide) d w h
  simp_all

/-- The receiver holds five bytes and the queue has one place left. -/
def fullIntake : State := { bare 0 with
  intake := { receiver := .receiving [1, 2, 3, 4, 5], queue := List.replicate 63 ⟨255, ⟨255, 255⟩, 65535⟩,
              report := { IntakeReport.clear with strays := [⟨0, 0⟩, ⟨0, 1⟩] }, next := some .clear }
  pending := [.telemetryByte (samples false (List.replicate 8 true))] }

theorem intakeLegal_fullIntake : fullIntake.intakeLegal ∧ ∃ t, step fullIntake = .next t := by
  refine ⟨⟨by decide, fun i h => ?_, ⟨by decide, by decide, by decide⟩, by unfold IntakeReport.legal; decide,
    fun r h => ?_⟩, _, rfl⟩
  · rw [List.eq_of_mem_replicate h]; unfold Item.legal; decide
  · cases h; unfold IntakeReport.legal; decide

theorem witness_SettingsAndIntakeStayLegal :
    (lastSecond.clockLegal ∧ lastSecond.parametersLegal ∧ lastSecond.windowsLegal ∧
      step lastSecond = .next (nx .secondEvent { lastSecond with pending := [] })) ∧
      fullIntake.intakeLegal ∧ ∃ t, step fullIntake = .next t := ⟨settingsLegal_lastSecond, intakeLegal_fullIntake⟩

/-- A forced pass with a rerun set (R68). -/
def forcedPass : State := { district with
  tracer := { State.reset.tracer with pass := .running (takeInputs district), restarts := 3, rerun := true,
                                      generation := 65535 }
  pending := [.publication] }

theorem tracerLegal_forcedPass : forcedPass.tracerLegal := by
  refine ⟨by decide, by decide, by decide, by decide, ?_⟩
  intro inp h; cases h; decide

/-- Segment 52 has been cut off, in record 0, and the rerun has begun. -/
def afterPass : State := nx .publication forcedPass

theorem tracerLegal_afterPass : afterPass.tracerLegal := by
  refine ⟨by decide, by decide, by decide, by decide, ?_⟩
  intro inp h; cases h; decide

theorem outagesLegal_forcedPass : forcedPass.outagesLegal := outagesLegal_of (by decide) (by decide)

theorem outagesLegal_afterPass : afterPass.outagesLegal := outagesLegal_of (by decide) (by decide)

theorem witness_TablesAndPassesStayLegal :
    (forcedPass.tablesLegal ∧ forcedPass.tracerLegal ∧ ∃ t, step forcedPass = .next t) ∧
      let s := { stopCorner with pending := [.splitSegment (desk 3) 812 [2210] [78] 700] }
      s.tablesLegal ∧ ∃ t, step s = .next t :=
  ⟨⟨by unfold State.tablesLegal Table.wf; decide, tracerLegal_forcedPass, _, rfl⟩,
    by unfold State.tablesLegal Table.wf; decide, _, rfl⟩

/-- An order QUEUED, one FETCHED, an inoperable valve, and the last serial before the wrap next. -/
def heldOrders : State := { coldEvening with
  valves := [(4410, { valve .line (some 1) 2 with reported := .closed, orderState := .queued, orderSerial := some 1 }),
    (4411, { valve .line (some 1) 2 with operation := .remote, tag := some ⟨30, 6⟩, reported := .closed,
                                         orderState := .fetched, orderSerial := some 2 }),
    (4412, valve .line (some 1) 2), (4413, { valve .line (some 1) 2 with inoperable := true })]
  plans := [(20, { plan 1 with draftState := .edit, editor := some 2, draft := [4410, 4411, 4412, 4413] })]
  orders := [(1, { valve := 4410, action := .opening, channel := .crew, state := .queued, queued := 5,
                   fetched := none, expiry := none }),
    (2, { valve := 4411, action := .opening, channel := .remote, state := .fetched, queued := 4,
          fetched := some 6, expiry := some 50180 })]
  orderUnit := { State.reset.orderUnit with nextSerial := 65535 }
  pending := [.commitDraft (desk 2) 20] }

theorem ordersLegal_heldOrders : heldOrders.ordersLegal :=
  ordersLegal_of (by unfold Table.wf; decide) (by decide) (by decide) (by decide) (by decide) (by decide)

theorem orderLaws_heldOrders : heldOrders.orderLaws := orderLaws_of (by decide) (by decide) (by decide)

theorem witness_OrderListStaysLegal :
    heldOrders.ordersLegal ∧ heldOrders.tablesLegal ∧ heldOrders.loadingLegal ∧ heldOrders.orderLaws ∧
      ∃ t, step heldOrders = .next t :=
  ⟨ordersLegal_heldOrders, by unfold State.tablesLegal Table.wf; decide, fun h => (by cases h), orderLaws_heldOrders,
    _, rfl⟩

/-- Desk 5 has been offered incident 52 (section 6.6). -/
def offerMade : State := { coldMorning with
  incidents := Table.upd coldMorning.incidents 52 (fun i => i.offeredTo 5 32120)
  dispatch := { offers := [(5, 52)], offerTime := 120 } }

theorem offersAgree_offerMade : offerMade.offersAgree := by
  constructor
  · intro d n h
    have := of_all (p := fun d n => decide (d = 5 ∧ n = 52)) (by decide) d n h
    obtain ⟨rfl, rfl⟩ : d = 5 ∧ n = 52 := by simpa using this
    exact ⟨_, rfl, rfl, rfl⟩
  · intro n i h ho
    have := of_all (p := fun n i => decide (i.attendance = .offered → n = 52 ∧ i.offerDesk = some 5))
      (t := offerMade.incidents) (by decide) n i h
    obtain ⟨rfl, hd⟩ := (of_decide_eq_true this) ho
    exact ⟨5, hd, rfl⟩

theorem witness_OffersAndAttendanceAgree :
    let s := { offerMade with pending := [.reportAttended (desk 6) 52] }
    s.tablesLegal ∧ s.offersAgree ∧ ∃ t, step s = .next t :=
  ⟨by unfold State.tablesLegal Table.wf; decide, offersAgree_offerMade, _, rfl⟩

/-! ## Cold reset and the request port -/

theorem witness_ColdResetClearsAndHoldIsDeaf :
    (let s := nx (.coldReset (.rises true)) State.reset;
      s.port.held = false ∧ s.port.skip = true ∧ isRequest (.readTrace (desk 0)) = true ∧ (165 : Byte) ≠ 90) ∧
    ((nx (.coldReset .falls) State.reset).port.held = true ∧ (∀ e, Instr.secondEvent ≠ .coldReset e) ∧
      (∀ n, Instr.secondEvent ≠ .readTransaction n) ∧
      (∀ rest : List Byte, Instr.secondEvent ≠ .malformedRequestFrame (90 :: rest)) ∧
      (∀ e, Instr.readTransaction 2 ≠ .coldReset e) ∧ ∀ e, Instr.malformedRequestFrame [90, 0] ≠ .coldReset e) ∧
    let l : List Instr := [.secondEvent, .telemetryByte (samples true (List.replicate 8 true)), .getNotices (desk 0)]
    (∀ c ∈ l, ∀ e, c ≠ .coldReset e) ∧
      ∃ t, Host.Core.run Sys2Proof.core (l.length + 1) (lastSecond.setPending (.coldReset .falls :: l)) = .next t := by
  refine ⟨⟨rfl, rfl, rfl, by decide⟩, ⟨rfl, by simp, by simp, by simp, by simp, by simp⟩, ?_, _, rfl⟩
  simp

theorem witness_PortTestsRefuse :
    State.reset.listening ∧
      (∀ l ∈ ([[165, 0, 3], [164, 0, 3, 9, 0], [165, 0, 3, 9], [165, 0, 3, 9, 1], [165, 16, 3, 9, 0],
        [165, 15, 0, 9, 0], [165, 0, 53, 9, 0], [165, 15, 3, 9, 1, 0], [165, 0, 52, 9, 4, 1, 0, 0, 0],
        [165, 0, 5, 9, 4, 0, 1, 13, 0], [165, 0, 5, 9, 4, 0, 1, 0, 5], [165, 0, 5, 9, 7, 0, 1, 0, 0, 0, 0, 0]] :
        List (List Byte)), l ≠ [] ∧ l.head? ≠ some 90) ∧
      (16 ≤ (16 : Byte).toNat ∧ (15 : Byte).toNat < 16 ∧ 52 < (53 : Byte).toNat ∧ ¬ (13 : Byte).toNat ≤ 12 ∧
        ¬ (5 : Byte).toNat ≤ 4 ∧ (7 : Byte).toNat ≠ 8 + 2 * (0 : Byte).toNat + 2 * (0 : Byte).toNat) :=
  ⟨⟨rfl, rfl, rfl⟩, by decide, by decide⟩

theorem witness_RequestFramesReadBack :
    ([.defineSegment (desk 15) 65535 255 255 4294967295, .defineValve (desk 0) 0 0 none (some 65535) 1 1 none 3,
      .splitSegment (desk 0) 1 (List.replicate 12 65535) (List.replicate 4 0) 0, .regrade (desk 0) 1 (-128),
      .regrade (desk 0) 1 127, .setNoticeEnables (desk 0) 255, .readStrays (desk 0) none] : List Instr).all
      (fun c => isRequest c && wellFormed c) = true ∧
    parseFrame [165, 2, 39, 7, 0] = .passed (.fetchOrder (desk 2)) := by decide

theorem witness_FramesActOrAreDiscarded :
    (isRequest (.setClock (desk 0) 4294967295) = true ∧ wellFormed (.setClock (desk 0) 4294967295) = true) ∧
    let a := nx (.readTrace (desk 0)) State.reset
    let b := nx .answerPlaced a
    (a.port.held = false ∧ a.port.skip = false ∧ a.port.state ≠ .idle) ∧
      (b.port.held = false ∧ b.port.skip = false ∧ b.port.state ≠ .idle) ∧
      isRequest (.readTrace (desk 0)) = true ∧ (165 : Byte) ≠ 90 ∧
      (State.reset.port.held = false ∧ State.reset.port.skip = false ∧ State.reset.port.state = .idle) := by decide

theorem witness_AnswerIsPlaced :
    let s := nx (.getNotices (desk 0)) lastSecond
    s.port.held = false ∧ ∃ r, s.port.state = .acting 7 r := ⟨rfl, _, rfl⟩

theorem witness_ReadTransactionSends :
    let s := nx .answerPlaced (nx (.setOfferTime (desk 0) 29) State.reset)
    s.port.held = false ∧ s.port.skip = false ∧
      ∃ f : AnswerFrame, s.port.state = .answered f ∧ f.bytes.length = 7 ∧ 6 < 7 ∧ 7 ≤ 7 :=
  ⟨rfl, rfl, _, rfl, rfl, by decide, by decide⟩

theorem witness_SetDeskAreaWritesOneWindow :
    State.reset.listening ∧
      ([.setDeskArea (desk 0) 1 0 4095, .setDeskArea (desk 0) 15 4095 0, .setDeskArea (desk 1) 1 0 0,
        .setDeskArea (desk 0) 0 0 0, .setDeskArea (desk 0) 16 0 0, .setDeskArea (desk 0) 1 4096 0,
        .setDeskArea (desk 0) 1 0 4096] : List Instr).all wellFormed = true := ⟨⟨rfl, rfl, rfl⟩, by decide⟩

/-! ## The Network Model -/

theorem witness_DefinitionsWriteRecords :
    State.reset.listening ∧ State.reset.model = .loading ∧
      ([.defineSegment (desk 0) 0 2 255 65536, .defineSegment (desk 0) 4095 0 0 0,
        .defineValve (desk 0) 6143 2 none (some 4095) 1 0 (some ⟨255, 0⟩) 3,
        .defineValve (desk 0) 0 0 (some 4095) (some 0) 0 1 none 0,
        .definePoint (desk 0) 1023 ⟨0, 255⟩ 4095 65535 65535 31 0 65535 61,
        .definePoint (desk 0) 0 ⟨0, 0⟩ 0 0 1 0 16 0 0] : List Instr).all wellFormed = true ∧
      Tier.ofCode? 2 = some .ip ∧ ValveKind.ofCode? 2 = some .offtake ∧ ValveKind.ofCode? 0 = some .line ∧
      Position.ofCode? 1 = some .closed ∧ Operation.ofCode? 0 = some .remote ∧
      Operation.ofCode? 1 = some .manual ∧ Reported.ofCode? 3 = some .unknown ∧ Reported.ofCode? 0 = some .opened :=
  ⟨⟨rfl, rfl, rfl⟩, rfl, by decide, rfl, rfl, rfl, rfl, rfl, rfl, rfl, rfl⟩

/-- A loaded model of one offtake and a point; and the same without the point's segment. -/
def loaded : State := { State.reset with
  segments := [(1, segment .lp 0 9 [] [])]
  valves := [(0, valve .offtake none 1)]
  points := [(1023, point ⟨1, 1⟩ 1)] }

/-- The loaded model with records put in, one state for each fault of R11 to R14. -/
def faulty : List State :=
  [{ loaded with valves := [(0, valve .offtake none 1), (5, valve .line (some 1) 1), (6, valve .line none 1)] },
    { loaded with valves := [(0, valve .offtake none 2)] },
    { loaded with valves := (List.range 13).map (fun n => (n, valve .offtake none 1)) },
    { loaded with points := (List.range 5).map (fun n => (n, point ⟨1, n⟩ 1)) },
    { loaded with points := [(3, point ⟨1, 1⟩ 1), (1023, point ⟨1, 2⟩ 2)] },
    { loaded with points := [(3, point ⟨1, 1⟩ 1), (1023, point ⟨1, 1⟩ 1)] },
    { loaded with valves := [(6143, { valve .offtake none 1 with operation := .remote })] },
    { loaded with valves := [(6143, { valve .offtake none 1 with operation := .remote, tag := some ⟨1, 1⟩ })] },
    { loaded with valves := (List.range 2).map (fun n =>
        (n, { valve .offtake none 1 with operation := .remote, tag := some ⟨9, 9⟩ })) }]

theorem witness_OpenModelOpens :
    (∀ s ∈ loaded :: faulty, s.listening ∧ s.tablesLegal ∧ s.model = .loading) ∧
      wellFormed (.openModel (desk 0)) = true ∧ openFault loaded = none ∧
      faulty.map openFault = [some (1, .valve, 5), some (1, .valve, 0), some (2, .segment, 1), some (2, .segment, 1),
        some (3, .point, 1023), some (4, .point, 1023), some (4, .valve, 6143), some (4, .valve, 6143),
        some (4, .valve, 1)] := by
  refine ⟨?_, rfl, by decide, by decide⟩
  unfold State.tablesLegal Table.wf State.listening; decide

theorem witness_AlterSegmentWrites :
    stopCorner.listening ∧ State.reset.listening ∧ State.reset.model = .loading ∧ stopCorner.model = .running ∧
      ([.alterSegment (desk 3) 812 (some 255) (some 65536), .alterSegment (desk 3) 4096 none none] :
        List Instr).all wellFormed = true ∧
      inWindow stopCorner 3 812 = true ∧ inWindow stopCorner 3 1000 = false ∧ inWindow stopCorner 3 999 = true ∧
      Table.at? stopCorner.segments 999 = none ∧ (∃ g, Table.at? stopCorner.segments 812 = some g ∧
        g.supply = .supplied) ∧
      Supply.relight ≠ .supplied := by
  refine ⟨⟨rfl, rfl, rfl⟩, ⟨rfl, rfl, rfl⟩, rfl, rfl, by decide, by decide, by decide, by decide, by decide,
    ⟨_, rfl, rfl⟩, by decide⟩

theorem witness_SplitSegmentDivides :
    ∃ g, stopCorner.ready ∧ wellFormed (.splitSegment (desk 3) 812 [2210] [78] 700) = true ∧
      stopCorner.model = .running ∧ (∀ x ∈ [2210], x < 6144) ∧ (∀ x ∈ [78], x < 1024) ∧ [2210].Nodup ∧ [78].Nodup ∧
      inWindow stopCorner 3 812 = true ∧ Table.at? stopCorner.segments 812 = some g ∧
      (∀ x ∈ [2210], x ∈ g.valveList) ∧ (∀ x ∈ [78], x ∈ g.pointList) ∧ g.supply = .supplied ∧
      (∀ p q, (p, q) ∈ stopCorner.plans → q.target = 812 → q.activeState = .idle) ∧
      (∀ x ∈ [2210], ∀ p q, (p, q) ∈ stopCorner.plans → x ∉ q.active) ∧
      Table.lowestFree stopCorner.segments 4096 = some 0 ∧ Table.lowestFree stopCorner.valves 6144 = some 0 ∧
      stopCorner.stopCount < 256 ∧ g.valveList.length - [2210].length + 1 ≤ 12 ∧ [2210].length + 1 ≤ 12 :=
  ⟨_, ⟨⟨rfl, rfl, rfl⟩, rfl⟩, by decide, rfl, by decide, by decide, by decide, by decide, by decide, rfl, by decide,
    by decide, rfl, by simp [stopCorner, bare, State.reset], by simp [stopCorner, bare, State.reset], by decide,
    by decide, by decide, by decide, by decide⟩

/-- The corner of section 1.9 after its split. A pass is RUNNING. -/
def splitCorner : State := did (.splitSegment (desk 3) 812 [2210] [78] 700) stopCorner

theorem witness_MergeAtStopJoins :
    ∃ x ga gb, splitCorner.ready ∧ splitCorner.tablesLegal ∧ wellFormed (.mergeAtStop (desk 0) 0) = true ∧
      splitCorner.model = .running ∧ Table.at? splitCorner.valves 0 = some x ∧ x.kind = .stop ∧ x.endA = some 812 ∧
      x.endB = 0 ∧ inWindow splitCorner 0 812 = true ∧ inWindow splitCorner 0 0 = true ∧ x.reported = .opened ∧
      x.hold = 0 ∧ x.orderState = .none ∧ (∀ p q, (p, q) ∈ splitCorner.plans → 0 ∉ q.active) ∧
      Table.at? splitCorner.segments 812 = some ga ∧ Table.at? splitCorner.segments 0 = some gb ∧
      ga.supply = .supplied ∧ gb.supply = .supplied ∧
      (∀ p q, (p, q) ∈ splitCorner.plans → q.target = 812 ∨ q.target = 0 → q.activeState = .idle) ∧
      (∀ w y, (w, y) ∈ splitCorner.valves → w ≠ 0 → ¬(y.ends 812 = true ∧ y.ends 0 = true)) ∧
      (mergedValves 0 ga gb).length ≤ 12 ∧ ga.pointList.length + gb.pointList.length ≤ 4 ∧
      splitCorner.tracer.restarts < 3 ∧ ∃ inp, splitCorner.tracer.pass = .running inp := by
  refine ⟨_, _, _, ⟨⟨rfl, rfl, rfl⟩, rfl⟩, by unfold State.tablesLegal Table.wf; decide, by decide, rfl, rfl, rfl,
    rfl, rfl, by decide, by decide, rfl, rfl, rfl, (fun p q h => by cases h), rfl, rfl, rfl, rfl,
    (fun p q h => by cases h), ?_, by decide, by decide, by decide, _, rfl⟩
  intro w y h hw
  have := of_all_mem (p := fun w y => decide (w ≠ 0 → ¬(y.ends 812 = true ∧ y.ends 0 = true)))
    (t := splitCorner.valves) (by decide) w y h
  exact of_decide_eq_true this hw

/-- A record in the last slot of each table that is read. -/
def lastSlots : State := { bare 0 with
  segments := [(4095, { segment .lp 0 600 [] [] with supply := .relight, outage := some 127, relit := 250 })]
  valves := [(6143, valve .offtake none 4095)]
  points := [(1023, plainPoint 4095)]
  plans := [(63, plan 4095)]
  outages := [(127, { state := .restoring, start := 0, restoring := some 0, members := 1, customersOff := 600,
                      customersRelit := 250 })] }

theorem witness_ReadsChangeNothing :
    lastSlots.ready ∧ lastSlots.model = .running ∧ Table.has lastSlots.segments 4095 = true ∧
      Table.has lastSlots.valves 6143 = true ∧ Table.has lastSlots.points 1023 = true ∧
      Table.has lastSlots.outages 127 = true ∧ Table.has lastSlots.plans 63 = true ∧ lastSlots.segments.length = 1 ∧
      ([.readSegment (desk 15) 4095, .readSegment (desk 15) 4096, .readSegment (desk 0) 0, .readValve (desk 0) 6143,
        .readValve (desk 0) 6144, .readValve (desk 0) 0, .alterPoint (desk 1) 1023 none none none none none none,
        .alterPoint (desk 1) 0 none none none none none none, .readTrace (desk 0), .readOutage (desk 0) 127 4095,
        .readOutage (desk 0) 0 0, .readPlan (desk 0) 63, .readPlan (desk 0) 0, .peekNotices (desk 0)] :
        List Instr).all wellFormed = true :=
  ⟨⟨⟨rfl, rfl, rfl⟩, rfl⟩, rfl, by decide, by decide, by decide, by decide, by decide, by decide, by decide⟩

theorem witness_ClearingReadsNoteWhatTheyReport :
    coldMorning.ready ∧ coldMorning.model = .running ∧ coldMorning.ordersLegal ∧
      Table.has coldMorning.incidents 63 = true ∧ Table.has coldMorning.incidents 511 = false ∧
      OrderSelection.ofCode? 2 = some .fetched ∧ RecordClass.ofCode? 5 = some .outage ∧
      ([.readStrays (desk 0) none, .readStrays (desk 0) (some 255), .readIncident (desk 0) 63,
        .readIncident (desk 0) 511, .readOrders (desk 0) 255 2, .getNotices (desk 0), .listChanged (desk 0) 5 33,
        .listChanged (desk 0) 0 0] : List Instr).all wellFormed = true :=
  ⟨⟨⟨rfl, rfl, rfl⟩, rfl⟩, rfl,
    ordersLegal_of (by unfold Table.wf; decide) (by decide) (by decide) (by decide) (by decide) (by decide), by decide,
    by decide, rfl, rfl, by decide⟩

theorem witness_SupervisorSettingsAreWritten :
    State.reset.listening ∧ (desk 0).desk = 0 ∧ (desk 1).desk ≠ 0 ∧
      ([.setAllowances (desk 0) 14 481 60, .setOfferTime (desk 0) 601, .setOrderTimes (desk 0) 31 9,
        .setNoticeEnables (desk 0) 255, .linkReset (desk 0), .setAllowances (desk 1) 15 30 60,
        .setOfferTime (desk 1) 30, .setOrderTimes (desk 1) 1 10, .setNoticeEnables (desk 1) 0, .linkReset (desk 1)] :
        List Instr).all wellFormed = true := ⟨⟨rfl, rfl, rfl⟩, rfl, by decide, by decide⟩

/-! ## The Telemetry Intake -/

theorem witness_TelemetryByteIsReceived :
    let l := samples true (List.replicate 8 true)
    let m := samples false (List.replicate 8 true)
    let at' (r : Receiver) := { fullIntake with intake := { fullIntake.intake with receiver := r } }
    l.length = 8 ∧ l.head? = some ⟨true, true⟩ ∧ m.length = 8 ∧ m.head? = some ⟨true, false⟩ ∧
      fullIntake.port.held = false ∧ State.reset.intake.receiver = .seeking ∧
      fullIntake.intake.receiver = .receiving [1, 2, 3, 4, 5] ∧
      (at' (.receiving [1, 2, 3, 4])).intake.receiver = .receiving [1, 2, 3, 4] ∧
      (at' (.discarding 5)).intake.receiver = .discarding 5 ∧ (at' .idle).intake.receiver = .idle ∧
      (at' .idle).intake.queue.length = 63 := by decide

theorem strays_concentrator17 :
    let one (i : Item) := { concentrator17 with intake := { concentrator17.intake with queue := [i] } }
    (one ⟨0, ⟨0, 0⟩, 0⟩).awake ∧ (⟨0, ⟨0, 0⟩, 0⟩ : Item).sort = .bad ∧ (⟨1, ⟨17, 9⟩, 0⟩ : Item).sort = .reading ∧
      pointByTag concentrator17 ⟨17, 9⟩ = none ∧ valveByTag concentrator17 ⟨17, 9⟩ = some 3120 ∧
      (⟨2, ⟨30, 1⟩, 255⟩ : Item).sort = .hold ∧ pointByTag concentrator17 ⟨30, 1⟩ = none ∧
      valveByTag concentrator17 ⟨30, 1⟩ = none ∧ (⟨3, ⟨17, 2⟩, 3⟩ : Item).sort = .position ∧
      pointByTag concentrator17 ⟨17, 2⟩ = some 40 ∧ (⟨22, 5⟩ : Tag) ∈ (currentReport concentrator17).strays ∧
      (⟨30, 1⟩ : Tag) ∉ (currentReport concentrator17).strays ∧
      (currentReport concentrator17).strays.length < 8 :=
  ⟨⟨rfl, rfl⟩, rfl, rfl, by decide, by decide, rfl, by decide, by decide, rfl, by decide, by decide, by decide,
    by decide⟩

theorem links_concentrator17 :
    concentrator17.awake ∧ concentrator17.tablesLegal ∧
      (∃ i rest, concentrator17.intake.queue = i :: rest ∧ i.sort = .linkDown) ∧
      ∃ i rest, ({ concentrator17.intake with queue := concentrator17.intake.queue.drop 2 } : Intake).queue =
        i :: rest ∧ i.sort = .linkUp :=
  ⟨⟨rfl, rfl⟩, by unfold State.tablesLegal Table.wf; decide, ⟨_, _, rfl, rfl⟩, _, _, rfl, rfl⟩

theorem witness_StraysBadItemsAndLinks :
    ((State.reset.intake.queue = []) ∧ ∀ i rest, concentrator17.intake.queue = i :: rest → i.sort ≠ .reading) ∧
    (let one (i : Item) := { concentrator17 with intake := { concentrator17.intake with queue := [i] } };
      (one ⟨0, ⟨0, 0⟩, 0⟩).awake ∧ (⟨0, ⟨0, 0⟩, 0⟩ : Item).sort = .bad ∧ (⟨1, ⟨17, 9⟩, 0⟩ : Item).sort = .reading ∧
        pointByTag concentrator17 ⟨17, 9⟩ = none ∧ valveByTag concentrator17 ⟨17, 9⟩ = some 3120 ∧
        (⟨2, ⟨30, 1⟩, 255⟩ : Item).sort = .hold ∧ pointByTag concentrator17 ⟨30, 1⟩ = none ∧
        valveByTag concentrator17 ⟨30, 1⟩ = none ∧ (⟨3, ⟨17, 2⟩, 3⟩ : Item).sort = .position ∧
        pointByTag concentrator17 ⟨17, 2⟩ = some 40 ∧ (⟨22, 5⟩ : Tag) ∈ (currentReport concentrator17).strays ∧
        (⟨30, 1⟩ : Tag) ∉ (currentReport concentrator17).strays ∧
        (currentReport concentrator17).strays.length < 8) ∧
    concentrator17.awake ∧ concentrator17.tablesLegal ∧
      (∃ i rest, concentrator17.intake.queue = i :: rest ∧ i.sort = .linkDown) ∧
      ∃ i rest, ({ concentrator17.intake with queue := concentrator17.intake.queue.drop 2 } : Intake).queue =
        i :: rest ∧ i.sort = .linkUp :=
  ⟨⟨rfl, fun i rest h => by cases h; decide⟩, strays_concentrator17, links_concentrator17⟩

/-! ## The Pressure Supervisor -/

theorem witness_ReadingsAndHoldsReachTheirPoint :
    ((∀ v ∈ [0, 1, 65534, 65535], let s := oneItem 1 v (plainPoint 1)
      s.port.held = false ∧ s.clock.due = [] ∧ s.intake.queue = [⟨1, ⟨1, 1⟩, v⟩] ∧
        (⟨1, ⟨1, 1⟩, v⟩ : Item).sort = .reading ∧ pointByTag s ⟨1, 1⟩ = some 9 ∧
        Table.at? s.points 9 = some (plainPoint 1)) ∧
      (plainPoint 1).selected = some 12 ∧ (point ⟨1, 1⟩ 1).selected = none ∧
      Table.at? (oneItem 1 1 (plainPoint 1)).profiles 12 = some entry) ∧
    let p (r : Nat) : Point := { plainPoint 1 with lastRaw := some r, valid := true }
    (∀ r ∈ [0, 1, 65534, 65535], let s := oneItem 2 255 (p r)
      s.port.held = false ∧ s.clock.due = [] ∧ s.intake.queue = [⟨2, ⟨1, 1⟩, 255⟩] ∧
        (⟨2, ⟨1, 1⟩, 255⟩ : Item).sort = .hold ∧ pointByTag s ⟨1, 1⟩ = some 9 ∧
        Table.at? s.points 9 = some (p r) ∧ (p r).valid = true ∧ (p r).lastRaw = some r) ∧
      (plainPoint 1).valid = false := by decide

theorem witness_TargetBandWidensThePresentBand :
    entry.ll ≤ entry.l ∧ entry.l < entry.h ∧ entry.h ≤ entry.hh ∧ 1499 < entry.ll ∧ entry.hh < 7501 ∧
      targetBand entry 100 .low 2100 = .normal ∧ targetBand entry 100 .high 6400 = .normal ∧
      targetBand entry 100 .lowLow 1600 = .low := by decide

theorem witness_AlterPointWrites :
    let s := oneItem 1 0 (plainPoint 1)
    s.ready ∧ wellFormed (.alterPoint (desk 0) 9 (some 65535) (some 1) (some 31) (some 16) (some 0) (some 0)) = true ∧
      wellFormed (.alterPoint (desk 0) 9 none none none none none (some 60)) = true ∧ s.model = .running ∧
      Table.at? s.points 9 = some (plainPoint 1) ∧ inWindow s 0 1 = true ∧ underTest s 9 = false :=
  ⟨⟨⟨rfl, rfl, rfl⟩, rfl⟩, by decide, by decide, rfl, rfl, by decide, by decide⟩

theorem witness_SetProfileWritesAndReselects :
    let s := oneItem 1 0 (plainPoint 1)
    s.ready ∧ s.tablesLegal ∧ wellFormed (.setProfile (desk 0) 12 31 255 255 0 0 1 1048576 true) = true ∧
      min 1048575 0 ≤ min 1048575 0 ∧ min 1048575 0 < min 1048575 1 ∧ min 1048575 1 ≤ min 1048575 1048576 ∧
      s.model = .running ∧ (∃ e, Table.at? s.profiles 12 = some e ∧ (plainPoint 1).group = e.group) ∧
      Table.at? s.points 9 = some (plainPoint 1) ∧ selection s 3 = some 12 :=
  ⟨⟨⟨rfl, rfl, rfl⟩, rfl⟩, by unfold State.tablesLegal Table.wf; decide, by decide, by decide, by decide, by decide,
    rfl, ⟨_, rfl, rfl⟩, rfl, by decide⟩

/-! ## The Supply Tracer -/

theorem witness_PassFindsReachAndIslands :
    52 ∈ unreached (takeInputs district) ∧ 53 ∉ unreached (takeInputs district) := by decide

theorem witness_PublicationWritesSupply :
    (forcedPass.port.held = false ∧ forcedPass.tablesLegal ∧ forcedPass.tracerLegal ∧
      forcedPass.tracer.pass = .running (takeInputs district) ∧ forcedPass.tracer.rerun = true) ∧
      (∃ g, Table.at? forcedPass.segments 52 = some g ∧ 52 ∈ (takeInputs district).segments ∧
        52 ∉ (takeInputs district).freed) ∧
      district.tracer.pass = .idle ∧ district.tracerLegal := by
  refine ⟨⟨rfl, by unfold State.tablesLegal Table.wf; decide, ⟨by decide, by decide, by decide, by decide, ?_⟩, rfl,
    rfl⟩, ⟨_, rfl, by decide, by decide⟩, rfl, ⟨by decide, by decide, by decide, by decide, ?_⟩⟩
  · intro inp h; cases h; decide
  · intro inp h; cases h

theorem witness_PublicationAssignsOutages :
    (forcedPass.port.held = false ∧ forcedPass.tablesLegal ∧ forcedPass.tracerLegal ∧ forcedPass.outagesLegal ∧
      forcedPass.tracer.pass = .running (takeInputs district) ∧ 52 ∈ unreached (takeInputs district) ∧
      forcedPass.outages = []) ∧
    (afterPass.port.held = false ∧ afterPass.tablesLegal ∧ afterPass.tracerLegal ∧ afterPass.outagesLegal ∧
      (∃ inp, afterPass.tracer.pass = .running inp ∧ 52 ∈ unreached inp) ∧
      ∃ g, Table.at? afterPass.segments 52 = some g ∧ g.supply = .unsupplied ∧ g.outage = some 0) :=
  ⟨⟨rfl, by unfold State.tablesLegal Table.wf; decide, tracerLegal_forcedPass, outagesLegal_forcedPass, rfl,
    by decide, rfl⟩, rfl, by unfold State.tablesLegal Table.wf; decide, tracerLegal_afterPass, outagesLegal_afterPass,
    ⟨_, rfl, by decide⟩, _, rfl, by decide, by decide⟩

theorem witness_ReportRelitCounts :
    lastSlots.ready ∧ lastSlots.tablesLegal ∧ lastSlots.outagesLegal ∧ lastSlots.model = .running ∧
      inWindow lastSlots 0 4095 = true ∧
      (∃ g o, Table.at? lastSlots.segments 4095 = some g ∧ g.supply = .relight ∧ g.relit + 349 < g.customers ∧
        g.customers ≤ g.relit + 350 ∧ g.outage = some 127 ∧ Table.at? lastSlots.outages 127 = some o) ∧
      ([.reportRelit (desk 0) 4095 0, .reportRelit (desk 0) 4095 349, .reportRelit (desk 0) 4095 350] :
        List Instr).all wellFormed = true :=
  ⟨⟨⟨rfl, rfl, rfl⟩, rfl⟩, by unfold State.tablesLegal Table.wf; decide, outagesLegal_of (by decide) (by decide), rfl,
    by decide, ⟨_, _, rfl, rfl, by decide, by decide, rfl, rfl⟩, by decide⟩

/-! ## The Incident Register -/

/-- Two open incidents of a segment of two, the older in the higher slot, and a plan. -/
def register : State := { bare 30000 with
  segments := [(1204, { segment .lp 22 9 [] [310] with openIncidents := 2 }), (1205, segment .lp 22 9 [] [])]
  points := [(310, { plainPoint 1204 with band := .low })]
  incidents := [(3, { incident 1204 .c false 116040 with firstReport := 29700 }),
    (7, { incident 1204 .c false 116040 with firstReport := 29640, plan := some 2 })]
  plans := [(2, { plan 1204 with incident := some 7 })] }

theorem witness_ReportCallJoinsOrMakes :
    register.ready ∧ register.tablesLegal ∧
      ([.reportCall (desk 0) 5 1204 true true false none, .reportCall (desk 0) 5 1205 true true false (some 3),
        .reportCall (desk 0) 5 1205 false false false none, .reportCall (desk 0) 5 1204 false true true none] :
        List Instr).all wellFormed = true ∧ register.model = .running ∧ inWindow register 0 1204 = true ∧
      inWindow register 0 1205 = true ∧
      (∃ g, Table.at? register.segments 1204 = some g) ∧ (∃ g, Table.at? register.segments 1205 = some g) ∧
      (∃ i, Table.at? register.incidents 7 = some i ∧ i.segment = 1204 ∧ (∀ x ∈ i.entries, x.ref ≠ 5) ∧
        ∀ m j, Table.at? register.incidents m = some j → j.segment = 1204 →
          i.firstReport < j.firstReport ∨ (i.firstReport = j.firstReport ∧ 7 ≤ m)) ∧
      (∃ i, Table.at? register.incidents 3 = some i ∧ ∀ x ∈ i.entries, x.ref ≠ 5) ∧
      (∀ m j, Table.at? register.incidents m = some j → j.segment ≠ 1205) ∧
      Table.lowestFree register.incidents 512 = some 0 := by
  refine ⟨⟨⟨rfl, rfl, rfl⟩, rfl⟩, by unfold State.tablesLegal Table.wf; decide, by decide, rfl, by decide, by decide,
    ⟨_, rfl⟩, ⟨_, rfl⟩, ⟨_, rfl, rfl, by decide, fun m j h _ => ?_⟩, ⟨_, rfl, by decide⟩, fun m j h => ?_, by decide⟩
  · exact of_decide_eq_true (of_all (p := fun m j => decide (29640 < j.firstReport ∨ (29640 = j.firstReport ∧ 7 ≤ m)))
      (by decide) m j h)
  · exact of_decide_eq_true (of_all (p := fun _ j => decide (j.segment ≠ 1205)) (by decide) m j h)

theorem witness_RegradeAndDeclareControlled :
    register.ready ∧ register.model = .running ∧
      (∃ i g, Table.at? register.incidents 7 = some i ∧ Table.at? register.segments i.segment = some g ∧
        inWindow register 0 i.segment = true) ∧
      ([.regrade (desk 0) 7 (-64), .regrade (desk 0) 7 (-65), .regrade (desk 0) 7 63, .regrade (desk 0) 7 64,
        .declareControlled (desk 0) 7] : List Instr).all wellFormed = true :=
  ⟨⟨⟨rfl, rfl, rfl⟩, rfl⟩, rfl, ⟨_, _, rfl, rfl, by decide⟩, by decide⟩

theorem witness_CloseIncidentRetires :
    register.ready ∧ wellFormed (.closeIncident (desk 0) 7) = true ∧ register.model = .running ∧
      (∃ i, Table.at? register.incidents 7 = some i ∧ inWindow register 0 i.segment = true ∧
        ∀ p, i.plan = some p → ∃ q, Table.at? register.plans p = some q ∧ q.activeState = .idle) := by
  refine ⟨⟨⟨rfl, rfl, rfl⟩, rfl⟩, by decide, rfl, _, rfl, by decide, fun p h => ?_⟩
  cases h; exact ⟨_, rfl, rfl⟩

theorem witness_TimedWorkReachesDeadlines :
    let s := { offerMade with
      points := [(9, { plainPoint 1 with staleLimit := 1, lastContact := 32119 })]
      clock := { second := 32180, dayClass := 0, due := allWork } }
    s.port.held = false ∧ s.tablesLegal ∧ s.offersAgree ∧ .staleness ∈ s.clock.due ∧ .overdue ∈ s.clock.due ∧
      .expiry ∈ s.clock.due ∧ .overdue ∉ offerMade.clock.due :=
  ⟨rfl, by unfold State.tablesLegal Table.wf; decide, offersAgree_offerMade, by decide, by decide, by decide,
    by decide⟩

/-- Incident 7 of the register is at its deadline, and every block owes its work; a reading of point 310 waits. -/
def owing : State := { register with
  clock := { second := 116040, dayClass := 0, due := allWork }
  intake := { register.intake with queue := [⟨1, ⟨1, 1⟩, 2080⟩] } }

/-- What the timed commands of the blocks that a command reaches lead to. -/
def worked (c : Instr) (s : State) : State := ((workReached c).map timedCommand).foldl (fun s c => nx c s) s

theorem witness_OwedWorkComesFirst :
    owing.port.held = false ∧ owing.listening ∧
      (isRequest (.regrade (desk 0) 7 5) = true ∧ wellFormed (.regrade (desk 0) 7 5) = true) ∧
      (∃ i rest, owing.intake.queue = i :: rest ∧ i.sort = .reading) ∧
      (∀ c ∈ [Instr.regrade (desk 0) 7 5, .readingItem, .secondEvent],
        leadsTo ((workReached c).map timedCommand) owing (worked c owing)) ∧
      (∃ w ∈ workReached (.regrade (desk 0) 7 5), w ∈ owing.clock.due) ∧
      (∃ i, Table.at? owing.incidents 7 = some i ∧ i.overdue = false) ∧
      ∃ i, Table.at? (worked .readingItem owing).incidents 7 = some i ∧ i.overdue = true := by
  refine ⟨rfl, ⟨rfl, rfl, rfl⟩, by decide, ⟨_, _, rfl, rfl⟩, fun c hc => ?_, ⟨.overdue, by decide, by decide⟩,
    ⟨_, rfl, rfl⟩, _, rfl, rfl⟩
  simp only [List.mem_cons, List.not_mem_nil, or_false] at hc
  rcases hc with rfl | rfl | rfl
  · exact ⟨_, rfl, rfl⟩
  · exact ⟨_, rfl, _, rfl, _, rfl, rfl⟩
  · exact ⟨_, rfl, _, rfl, _, rfl, _, rfl, _, rfl, rfl⟩

/-! ## The Dispatch Selector -/

theorem witness_OfferNextOffersTheMostUrgent :
    coldMorning.ready ∧ coldMorning.tablesLegal ∧ wellFormed (.offerNext (desk 5) 22 254) = true ∧
      wellFormed (.offerNext (desk 5) 255 255) = true ∧ coldMorning.model = .running ∧
      candidates coldMorning 5 255 255 = [] ∧
      (∃ i, (52, i) ∈ candidates coldMorning 5 22 254 ∧
        ∀ r ∈ candidates coldMorning 5 22 254, priorityGroup i < priorityGroup r.2 ∨ r.1 = 52) ∧
      offerOf coldMorning 5 = none ∧ offerOf offerMade 5 = some 52 :=
  ⟨⟨⟨rfl, rfl, rfl⟩, rfl⟩, by unfold State.tablesLegal Table.wf; decide, by decide, by decide, rfl, by decide,
    ⟨incident 1204 .a false 33240, by decide, by decide⟩, rfl, rfl⟩

theorem witness_AcceptAndDeclineEndTheOffer :
    offerMade.ready ∧ offerMade.model = .running ∧ State.reset.ready ∧ State.reset.model = .loading ∧
      offerOf offerMade 5 = some 52 ∧ offerOf offerMade 6 ≠ some 52 ∧
      (∃ i, Table.at? offerMade.incidents 52 = some i) ∧
      ([.acceptOffer (desk 5) 52, .declineOffer (desk 5) 52, .acceptOffer (desk 5) 512, .declineOffer (desk 5) 511] :
        List Instr).all wellFormed = true :=
  ⟨⟨⟨rfl, rfl, rfl⟩, rfl⟩, rfl, ⟨⟨rfl, rfl, rfl⟩, rfl⟩, rfl, rfl, by decide, ⟨_, rfl⟩, by decide⟩

theorem witness_DispatchAndAttendance :
    offerMade.ready ∧ offerMade.offersAgree ∧ offerMade.model = .running ∧
      (∃ i, Table.at? offerMade.incidents 52 = some i ∧ inWindow offerMade 6 i.segment = true ∧
        i.attendance = .offered ∧ i.offerDesk = some 5) ∧
      (∃ i, Table.at? offerMade.incidents 63 = some i ∧ inWindow offerMade 6 i.segment = true ∧
        i.attendance = .unassigned) ∧
      ([.dispatchDirect (desk 5) 52, .dispatchDirect (desk 6) 52, .reportAttended (desk 6) 52] :
        List Instr).all wellFormed = true :=
  ⟨⟨⟨rfl, rfl, rfl⟩, rfl⟩, offersAgree_offerMade, rfl, ⟨_, rfl, by decide, rfl, rfl⟩, ⟨_, rfl, by decide, rfl⟩,
    by decide⟩

/-! ## The Plan Engine and the Verification Unit -/

/-- The draft of section 8.10 without its last valve. -/
def shortDraft : State := { coldEvening with
  plans := Table.upd coldEvening.plans 20 (fun q => { q with draft := [4410, 4411] }) }

theorem plans_created_and_deleted :
    (register.ready ∧ register.model = .running ∧ wellFormed (.createPlan (desk 0) (some 3) none 1 (some 121) none none) ∧
      (∃ i, Table.at? register.incidents 3 = some i ∧ i.plan = none ∧ i.segment = 1204) ∧
      PlanMode.ofCode? 1 = some .replace ∧ Table.has register.segments 1204 = true ∧ inWindow register 0 1204 = true ∧
      Table.lowestFree register.plans 64 = some 0) ∧
    ∃ q, Table.at? register.plans 2 = some q ∧ wellFormed (.deletePlan (desk 0) 2) = true ∧
      inWindow register 0 q.target = true ∧ q.activeState = .idle ∧ q.draftState = .empty ∧ q.draft = [] :=
  ⟨⟨⟨⟨rfl, rfl, rfl⟩, rfl⟩, rfl, by decide, ⟨_, rfl, rfl, rfl⟩, rfl, by decide, by decide, by decide⟩, _, rfl,
    by decide, by decide, rfl, rfl, rfl⟩

theorem drafts_edited :
    shortDraft.ready ∧ shortDraft.model = .running ∧ register.ready ∧
      (∃ q, Table.at? shortDraft.plans 20 = some q ∧ inWindow shortDraft 2 q.target = true ∧ q.draftState = .edit ∧
        q.editor = some 2 ∧ 4412 ∉ q.draft ∧ 4410 ∈ q.draft ∧ q.draft.length < 24 ∧ q.editor ≠ some 0) ∧
      (∃ a, Table.at? shortDraft.valves 4412 = some a ∧ a.inWindow shortDraft 2 = true ∧ a.inoperable = false) ∧
      (∃ q, Table.at? register.plans 2 = some q ∧ q.draftState ≠ .edit) ∧
      ([.lockDraft (desk 2) 20 true, .lockDraft (desk 0) 20 true, .addValve (desk 2) 20 4412,
        .removeValve (desk 2) 20 4410, .unlockDraft (desk 2) 20, .addValve (desk 0) 20 6143] :
        List Instr).all wellFormed = true :=
  ⟨⟨⟨rfl, rfl, rfl⟩, rfl⟩, rfl, ⟨⟨rfl, rfl, rfl⟩, rfl⟩,
    ⟨_, rfl, by decide, rfl, rfl, by decide, by decide, by decide, by decide⟩, ⟨_, rfl, by decide, rfl⟩,
    ⟨_, rfl, by decide⟩, by decide⟩

theorem witness_PlansAndDraftsAreEdited :
    ((register.ready ∧ register.model = .running ∧ wellFormed (.createPlan (desk 0) (some 3) none 1 (some 121) none none) ∧
      (∃ i, Table.at? register.incidents 3 = some i ∧ i.plan = none ∧ i.segment = 1204) ∧
      PlanMode.ofCode? 1 = some .replace ∧ Table.has register.segments 1204 = true ∧ inWindow register 0 1204 = true ∧
      Table.lowestFree register.plans 64 = some 0) ∧
    ∃ q, Table.at? register.plans 2 = some q ∧ wellFormed (.deletePlan (desk 0) 2) = true ∧
      inWindow register 0 q.target = true ∧ q.activeState = .idle ∧ q.draftState = .empty ∧ q.draft = []) ∧
    shortDraft.ready ∧ shortDraft.model = .running ∧ register.ready ∧
      (∃ q, Table.at? shortDraft.plans 20 = some q ∧ inWindow shortDraft 2 q.target = true ∧ q.draftState = .edit ∧
        q.editor = some 2 ∧ 4412 ∉ q.draft ∧ 4410 ∈ q.draft ∧ q.draft.length < 24 ∧ q.editor ≠ some 0) ∧
      (∃ a, Table.at? shortDraft.valves 4412 = some a ∧ a.inWindow shortDraft 2 = true ∧ a.inoperable = false) ∧
      (∃ q, Table.at? register.plans 2 = some q ∧ q.draftState ≠ .edit) ∧
      ([.lockDraft (desk 2) 20 true, .lockDraft (desk 0) 20 true, .addValve (desk 2) 20 4412,
        .removeValve (desk 2) 20 4410, .unlockDraft (desk 2) 20, .addValve (desk 0) 20 6143] :
        List Instr).all wellFormed = true :=
  ⟨plans_created_and_deleted, drafts_edited⟩

theorem witness_CommitDraftWaitsOrTransfers :
    coldEvening.ready ∧ wellFormed (.commitDraft (desk 2) 20) = true ∧ coldEvening.model = .running ∧
      (∃ q, Table.at? coldEvening.plans 20 = some q ∧ inWindow coldEvening 2 q.target = true ∧
        q.draftState = .edit ∧ q.editor = some 2 ∧ q.draft ≠ [] ∧ q.mode.accepts q.activeState = true ∧
        PlanMode.cumulative.accepts .issuing = false ∧ q.draft.Nodup ∧ q.active.Nodup) ∧
      (allClosed coldEvening [4410] = false ∧ allClosed heldOrders [4410, 4411] = true) ∧
      ∀ m r, Table.at? coldEvening.plans m = some r → m ≠ 20 → r.activeState ≠ .releasing := by
  refine ⟨⟨⟨rfl, rfl, rfl⟩, rfl⟩, by decide, rfl, ⟨_, rfl, by decide, rfl, rfl, by decide, by decide, by decide,
    by decide, by decide⟩, by decide, fun m r h hm => ?_⟩
  have := of_all (p := fun m _ => decide (m = 20)) (t := coldEvening.plans) (by decide) m r h
  simp_all

theorem witness_ReleasePlanGivesUpTheHolds :
    let s := did (.commitDraft (desk 2) 20) coldEvening
    s.ready ∧ wellFormed (.releasePlan (desk 2) 20) = true ∧ s.model = .running ∧
      (∃ q, Table.at? s.plans 20 = some q ∧ inWindow s 2 q.target = true ∧ q.activeState = .issuing ∧
        q.active.Nodup ∧ q.draftState ≠ .committed) ∧
      ∀ m r, Table.at? s.plans m = some r → m ≠ 20 → r.activeState ≠ .releasing := by
  refine ⟨⟨⟨rfl, rfl, rfl⟩, rfl⟩, by decide, rfl, ⟨_, rfl, by decide, rfl, by decide, by decide⟩, fun m r h hm => ?_⟩
  have := of_all (p := fun m _ => decide (m = 20)) (by decide) m r h
  simp_all

theorem witness_WindowEndGivesTheVerdict :
    let d (e : Nat) : TestData := { t0 := 31900, windowEnd := e, entries :=
      [{ point := 512, p0 := 2100, latest := 525, state := .testing }] }
    let s := { bare 33700 with
      plans := [(12, { plan 2405 with incident := some 511, activeState := .secured, test := .running (d 33700) }),
        (13, { plan 2405 with activeState := .issuing, test := .running (d 33701) }), (14, plan 2405)]
      incidents := [(511, { incident 2405 .c false 116040 with plan := some 12 })]
      clock := { second := 33700, dayClass := 0, due := [.windowEnd] } }
    s.port.held = false ∧ s.tablesLegal ∧ .windowEnd ∈ s.clock.due ∧ .windowEnd ∉ (bare 33700).clock.due ∧
      (∃ q i, Table.at? s.plans 12 = some q ∧ q.test = .running (d 33700) ∧ (d 33700).windowEnd ≤ s.clock.second ∧
        q.activeState = .secured ∧ q.incident = some 511 ∧ Table.at? s.incidents 511 = some i ∧ i.plan = some 12) ∧
      (∀ m r, Table.at? s.plans m = some r → r.incident = some 511 → m = 12) ∧
      (∃ q, Table.at? s.plans 13 = some q ∧ q.test = .running (d 33701) ∧ s.clock.second < (d 33701).windowEnd) ∧
      ∃ q, Table.at? s.plans 14 = some q ∧ ∀ d, q.test ≠ .running d := by
  refine ⟨rfl, by unfold State.tablesLegal Table.wf; decide, by decide, by decide,
    ⟨_, _, rfl, rfl, by decide, rfl, rfl, rfl, rfl⟩, fun m r h hr => ?_, ⟨_, rfl, rfl, by decide⟩, _, rfl,
    by intro d h; cases h⟩
  exact of_decide_eq_true (of_all (p := fun m r => decide (r.incident = some 511 → m = 12)) (by decide) m r h) hr

/-! ## The Order Unit -/

/-- The orders of section 8.10, made but not fetched, with the plan's list given up. -/
def ordered : State := did (.commitDraft (desk 2) 20) coldEvening

/-- The same without the plan, so that no active list names a valve. -/
def unlisted : State := { ordered with plans := [] }

theorem witness_PositionReportIsActedOn :
    (unlisted.ready ∧ wellFormed (.reportValve (desk 2) 4410 1) = true ∧ unlisted.model = .running ∧
      Reported.ofCode? 1 = some .closed ∧ waitingValves unlisted = [] ∧
      (∀ p q, Table.at? unlisted.plans p = some q → 4410 ∉ q.active) ∧
      ∃ a o, Table.at? unlisted.valves 4410 = some a ∧ a.inWindow unlisted 2 = true ∧ a.orderSerial = some 4120 ∧
        Table.at? unlisted.orders 4120 = some o ∧ o.action.target = .closed ∧ o.state = .queued ∧
        a.passesGas ≠ (Reported.closed != .closed)) ∧
    (∃ a, Table.at? coldEvening.valves 4412 = some a ∧ a.orderSerial = none ∧ a.orderState = .none ∧
      a.inoperable = false ∧ a.atWanted = true ∧ Reported.closed = a.wanted.other.reported ∧
      coldEvening.orders.length < 256 ∧ waitingValves coldEvening = [] ∧
      ∀ p q, Table.at? coldEvening.plans p = some q → 4412 ∉ q.active) ∧
    (let s := { unlisted with
        valves := Table.upd unlisted.valves 4410 (fun a =>
          { a with orderState := .fetched, followUp := true, hold := 0 })
        orders := Table.upd unlisted.orders 4120 (fun o =>
          { o with state := .fetched, fetched := some 6, expiry := some 55400 }) };
      s.ready ∧ s.model = .running ∧ waitingValves s = [] ∧ s.orders.length ≤ 256 ∧
        ∃ a o, Table.at? s.valves 4410 = some a ∧ a.inWindow s 2 = true ∧ a.orderSerial = some 4120 ∧
          Table.at? s.orders 4120 = some o ∧ o.action.target = .closed ∧ o.state = .fetched ∧ a.followUp = true ∧
          a.inoperable = false ∧ Reported.closed ≠ a.wanted.reported) ∧
    (let s := { coldEvening with
        intake := { coldEvening.intake with queue := [⟨3, ⟨30, 6⟩, 2⟩] }
        port := { coldEvening.port with state := .acting 7 (.refusal .busy) } };
      s.awake ∧ ¬ s.listening ∧ (⟨3, ⟨30, 6⟩, 2⟩ : Item).sort = .position ∧ pointByTag s ⟨30, 6⟩ = none ∧
        valveByTag s ⟨30, 6⟩ = some 4411 ∧ positionOfCode 2 = .moving) := by
  refine ⟨⟨⟨⟨rfl, rfl, rfl⟩, rfl⟩, by decide, rfl, rfl, by decide, fun p q h => (by cases h),
    _, _, rfl, by decide, rfl, rfl, rfl, rfl, by decide⟩, ⟨_, rfl, rfl, rfl, rfl, by decide, by decide, by decide,
    by decide, fun p q h => ?_⟩, ⟨⟨⟨rfl, rfl, rfl⟩, rfl⟩, rfl, by decide, by decide, _, _, rfl, by decide, rfl, rfl,
    rfl, rfl, rfl, rfl, by decide⟩, ⟨rfl, rfl⟩, fun h => (by cases h.1), rfl, by decide, by decide, rfl⟩
  have := of_all (p := fun _ q => decide (4412 ∉ q.active)) (t := coldEvening.plans) (by decide) p q h
  simpa using this

theorem ordersLegal_ordered : ordered.ordersLegal := by
  refine ⟨by unfold Table.wf; decide, by decide, fun n o h => ?_, by decide, by decide, by decide⟩
  have := of_all (p := fun n _ => decide (1 ≤ n)) (t := ordered.orders) (by decide) n o h
  simpa using this

theorem witness_FetchOrderTakesTheFirst :
    ordered.ready ∧ ordered.ordersLegal ∧ wellFormed (.fetchOrder (desk 2)) = true ∧ ordered.model = .running ∧
      (∃ o, Table.at? ordered.orders 4120 = some o ∧ fetchable ordered 2 o = true ∧
        ∀ n' o', (n', o') ∈ ordered.orders → o.action = o'.action ∧ o.queued = o'.queued ∧ 4120 ≤ n') ∧
      ∀ o ∈ ordered.orders, fetchable ordered 3 o.2 = false := by
  refine ⟨⟨⟨rfl, rfl, rfl⟩, rfl⟩, ordersLegal_ordered, by decide, rfl, ⟨_, rfl, by decide, fun n o h => ?_⟩, by decide⟩
  have := of_all_mem (p := fun n o => decide (OrderAction.close = o.action ∧ 50000 = o.queued ∧ 4120 ≤ n))
    (t := ordered.orders) (by decide) n o h
  exact of_decide_eq_true this

theorem witness_WithdrawAndReissue :
    ordered.ready ∧ ordered.model = .running ∧ waitingValves ordered = [] ∧
      ([.withdrawOrder (desk 2) 4120, .reissueValve (desk 2) 4410] : List Instr).all wellFormed = true ∧
      (∃ o a, Table.at? ordered.orders 4120 = some o ∧ Table.at? ordered.valves o.valve = some a ∧
        a.inWindow ordered 2 = true ∧ a.orderState = .queued) ∧
      let s := did (.withdrawOrder (desk 2) 4120) ordered
      s.ready ∧ s.tablesLegal ∧ waitingValves s = [] ∧ (∃ a, Table.at? s.valves 4410 = some a ∧
        a.orderState = .stalled ∧ a.inoperable = false ∧ a.atWanted = false ∧ s.orders.length < 256) ∧
      (let f := { s with plans := Table.upd s.plans 20 (fun q => { q with orderFailed := true }) };
        f.ready ∧ f.tablesLegal ∧ ∃ q, Table.at? f.plans 20 = some q ∧ 4410 ∈ q.active ∧ q.orderFailed = true) ∧
      ∃ a, Table.at? coldEvening.valves 4410 = some a ∧ a.orderState = .none ∧ a.atWanted = true :=
  ⟨⟨⟨rfl, rfl, rfl⟩, rfl⟩, rfl, by decide, by decide, ⟨_, _, rfl, rfl, by decide, rfl⟩, ⟨⟨rfl, rfl, rfl⟩, rfl⟩,
    by unfold State.tablesLegal Table.wf; decide, by decide, ⟨_, rfl, rfl, rfl, by decide, by decide⟩,
    ⟨⟨⟨rfl, rfl, rfl⟩, rfl⟩, by unfold State.tablesLegal Table.wf; decide, _, rfl, by decide, by decide⟩, _, rfl,
    rfl, by decide⟩

theorem witness_InoperableIsDeclaredAndRestored :
    (let s := { ordered with plans := [(20, { plan 1 with activeState := .releasing, active := [4410] })] };
      s.ready ∧ s.tablesLegal ∧ waitingValves s = [] ∧ ∀ p q, Table.at? s.plans p = some q → 4410 ∈ q.active →
        q.activeState = .releasing → q.draftState ≠ .committed) ∧
    unlisted.ready ∧ unlisted.tablesLegal ∧ unlisted.model = .running ∧ waitingValves unlisted = [] ∧
      (∀ p q, Table.at? unlisted.plans p = some q → 4410 ∈ q.active → q.activeState = .releasing →
        q.draftState ≠ .committed) ∧
      ([.declareInoperable (desk 2) 4410, .restoreOperable (desk 2) 4410] : List Instr).all wellFormed = true ∧
      (∃ a, Table.at? unlisted.valves 4410 = some a ∧ a.inWindow unlisted 2 = true ∧ a.inoperable = false ∧
        a.orderState = .queued ∧ a.orderSerial = some 4120) ∧
      let s := did (.declareInoperable (desk 2) 4410) unlisted
      s.ready ∧ waitingValves s = [] ∧ ∃ a, Table.at? s.valves 4410 = some a ∧ a.inoperable = true ∧
        a.orderState = .none ∧ a.atWanted = false ∧ s.orders.length < 256 :=
  ⟨⟨⟨⟨rfl, rfl, rfl⟩, rfl⟩, by unfold State.tablesLegal Table.wf; decide, by decide, fun p q h _ _ =>
    of_decide_eq_true (of_all (p := fun _ q => decide (q.draftState ≠ .committed)) (by decide) p q h)⟩,
    ⟨⟨rfl, rfl, rfl⟩, rfl⟩, by unfold State.tablesLegal Table.wf; decide, rfl, by decide,
    fun p q h => (by cases h), by decide,
    ⟨_, rfl, by decide, rfl, rfl, rfl⟩, ⟨⟨rfl, rfl, rfl⟩, rfl⟩, by decide, _, rfl, rfl, rfl, by decide, by decide⟩

theorem witness_FetchedOrdersTimeOut :
    let s := { did (.fetchOrder (desk 2)) ordered with clock := { second := 55400, dayClass := 0, due := [.timeout] } }
    s.port.held = false ∧ s.tablesLegal ∧ s.ordersLegal ∧ waitingValves s = [] ∧ .timeout ∈ s.clock.due ∧
      .timeout ∉ ordered.clock.due ∧ (∃ o, Table.at? s.orders 4120 = some o ∧ o.state = .fetched ∧
        o.expiry = some 55400 ∧ 55400 ≤ s.clock.second) ∧ ∃ o, Table.at? s.orders 4121 = some o ∧ o.state = .queued := by
  refine ⟨rfl, by unfold State.tablesLegal Table.wf; decide, ⟨by unfold Table.wf; decide, by decide, fun n o h => ?_,
    by decide, by decide, by decide⟩, by decide, by decide, by decide, ⟨_, rfl, rfl, rfl, by decide⟩, _, rfl, rfl⟩
  have := of_all (p := fun n _ => decide (1 ≤ n)) (t := (did (.fetchOrder (desk 2)) ordered).orders) (by decide) n o h
  simpa using this

/-! ## The Timebase -/

theorem witness_CountAndDayClassMove :
    let s (n : Nat) := { bare n with points := [(9, plainPoint 1)], profiles := group3 }
    { s 28799 with port := { (s 28799).port with state := .acting 7 (.refusal .busy) } }.awake ∧
      (s 28799).ready ∧ (s 28799).tablesLegal ∧ (s 28799).model = .running ∧ State.reset.ready ∧
      State.reset.tablesLegal ∧ State.reset.model = .loading ∧
      28799 % 86400 / 3600 ≠ 28800 % 86400 / 3600 ∧ 28800 % 86400 / 3600 = 28801 % 86400 / 3600 ∧
      (∃ p, Table.at? (s 28799).points 9 = some p ∧ p.selected = some 12) ∧
      ([.setClock (desk 0) 4294967295, .setDayClass (desk 0) 7] : List Instr).all wellFormed = true :=
  ⟨⟨rfl, rfl⟩, ⟨⟨rfl, rfl, rfl⟩, rfl⟩, by unfold State.tablesLegal Table.wf; decide, rfl, ⟨⟨rfl, rfl, rfl⟩, rfl⟩,
    by unfold State.tablesLegal Table.wf; decide, rfl, by decide, by decide, ⟨_, rfl, rfl⟩, by decide⟩

/-! ## The laws of incidents and plans -/

theorem witness_IncidentsKeepTheirDeadlines :
    exec (.regrade (desk 0) 7 63) register = .next (nx (.regrade (desk 0) 7 63) register) ∧
      (∃ i, Table.at? register.incidents 7 = some i) ∧
      ∃ j, Table.at? (nx (.regrade (desk 0) 7 63) register).incidents 7 = some j :=
  ⟨rfl, ⟨_, rfl⟩, _, rfl⟩

/-- A SECURED plan of one CLOSED valve, with a RUNNING test, its incident, and a reading that rises beyond the
allowance. -/
def securedPlan : State := { coldEvening with
  segments := [(1, segment .lp 0 9 [4410] [9]), (2, segment .lp 0 9 [4410] [])]
  valves := [(4410, { valve .line (some 1) 2 with reported := .closed, hold := 1 })]
  points := [(9, plainPoint 1)]
  profiles := [(12, entry)]
  incidents := [(511, { incident 1 .c false 116040 with plan := some 20 })]
  plans := [(20, { plan 1 with
    incident := some 511, activeState := .secured, active := [4410]
    test := .running { t0 := 49000, windowEnd := 50800, entries :=
      [{ point := 9, p0 := 2100, latest := 2100, state := .testing }] } })]
  intake := { State.reset.intake with queue := [{ kind := 1, tag := ⟨1, 1⟩, value := 2301 }] }
  pending := [.readingItem] }

/-- The commit of section 8.10, the release of the plan it made, and the reading of a test. -/
def planWork : List State :=
  [{ coldEvening with pending := [.commitDraft (desk 2) 20] },
    { ordered with pending := [.releasePlan (desk 2) 20] }, securedPlan]

theorem tablesLegal_planWork : ∀ s ∈ planWork, s.tablesLegal := by
  unfold State.tablesLegal Table.wf; decide

theorem plansLegal_planWork : ∀ s ∈ planWork, s.plansLegal := by
  simp only [planWork, List.mem_cons, List.not_mem_nil, or_false]
  rintro s (rfl | rfl | rfl) <;> exact plansLegal_of (by decide)

theorem witness_PlanLawsHold :
    ∀ s ∈ planWork, s.tablesLegal ∧ s.loadingLegal ∧ s.plansLegal ∧ s.holdsLegal ∧ s.closedLegal ∧ s.entriesLegal ∧
      ∃ t, step s = .next t := by
  intro s hs
  have h : planWork.all (fun s => s.model = .running && s.valves.all (fun r => decide (r.2.hold =
      (s.plans.filter (fun x => x.2.holds && x.2.active.contains r.1)).length)) &&
      s.plans.all (fun r => decide (r.2.activeState = .secured ∨ r.2.activeState = .tight ∨
        r.2.activeState = .passing → allClosed s r.2.active = true)) &&
      s.points.all (fun r => decide (r.2.condition = .ok))) = true := by decide
  have h1 := List.all_eq_true.mp h s hs
  simp only [Bool.and_eq_true, decide_eq_true_eq] at h1
  obtain ⟨⟨⟨hm, hv⟩, hp⟩, hc⟩ := h1
  refine ⟨tablesLegal_planWork s hs, fun hl => by simp [hm] at hl, plansLegal_planWork s hs, fun v a ha => ?_,
    fun p q hq => ?_, fun p q d hq hd e he ht n hn => ?_, ?_⟩
  · exact of_decide_eq_true (of_all (p := fun v a => decide (a.hold =
      (s.plans.filter (fun x => x.2.holds && x.2.active.contains v)).length)) hv v a ha)
  · exact of_decide_eq_true (of_all (p := fun _ q => decide (q.activeState = .secured ∨ q.activeState = .tight ∨
      q.activeState = .passing → allClosed s q.active = true)) hp p q hq)
  · simp [of_decide_eq_true (of_all (p := fun _ n => decide (n.condition = .ok)) hc _ n hn)]
  · simp only [planWork, List.mem_cons, List.not_mem_nil, or_false] at hs
    rcases hs with rfl | rfl | rfl <;> exact ⟨_, rfl⟩

/-- A publication with a record in use, and a close where two incidents are open. -/
def recordWork : List State := [afterPass, { register with pending := [.closeIncident (desk 0) 7] }]

theorem witness_RecordLawsHold :
    ∀ s ∈ recordWork, s.tablesLegal ∧ s.loadingLegal ∧ s.endsLegal ∧ s.listsLegal ∧ s.countsLegal ∧ s.tracerLegal ∧
      s.outagesLegal ∧ ∃ t, step s = .next t := by
  intro s hs
  have ht : ∀ s ∈ recordWork, s.tablesLegal := by unfold State.tablesLegal Table.wf; decide
  have h : recordWork.all (fun s => s.model = .running && s.valves.all (fun r => Table.has s.segments r.2.endB &&
        r.2.endA.all (fun x => Table.has s.segments x && x != r.2.endB)) &&
      decide (s.stopCount = Table.count s.valves (fun a => a.kind = .stop) ∧ s.stopCount ≤ Config.stopCapacity) &&
      s.incidents.all (fun r => Table.has s.segments r.2.segment) &&
      s.segments.all (fun r => decide (r.2.openIncidents = min 255 (openIncidents s r.1).length)) &&
      s.points.all (fun r => decide (r.2.valid = true ↔ r.2.lastPressure ≠ none)) &&
      s.segments.all (fun r => decide (r.2.valveList = Table.which s.valves (fun a => a.ends r.1) ∧
        r.2.pointList = Table.which s.points (fun p => p.segment = r.1) ∧
        r.2.valveList.length ≤ Config.segmentValveCapacity ∧ r.2.pointList.length ≤ Config.segmentPointCapacity)) &&
      s.points.all (fun r => Table.has s.segments r.2.segment)) = true := by decide
  have h1 := List.all_eq_true.mp h s hs
  simp only [Bool.and_eq_true, decide_eq_true_eq] at h1
  obtain ⟨⟨⟨⟨⟨⟨⟨hm, hv⟩, hc⟩, hi⟩, hg⟩, hp⟩, hl⟩, hx⟩ := h1
  refine ⟨ht s hs, fun hl => by simp [hm] at hl, fun _ v a ha => ?_,
    ⟨fun hl => by simp [hm] at hl, fun _ => ⟨fun n g hn => of_decide_eq_true (of_all (p := fun n g => decide
      (g.valveList = Table.which s.valves (fun a => a.ends n) ∧
        g.pointList = Table.which s.points (fun p => p.segment = n) ∧
        g.valveList.length ≤ Config.segmentValveCapacity ∧ g.pointList.length ≤ Config.segmentPointCapacity))
      hl n g hn), fun n p hn => of_all (p := fun _ p => Table.has s.segments p.segment) hx n p hn⟩⟩,
    ⟨hc.1, hc.2, fun n i hn => ?_, fun n g hn => ?_, fun n p hn => ?_⟩, ?_⟩
  · have := of_all (p := fun _ a => Table.has s.segments a.endB &&
        a.endA.all (fun x => Table.has s.segments x && x != a.endB)) hv v a ha
    simp only [Bool.and_eq_true] at this
    exact ⟨this.1, fun x hx => by simpa [hx] using this.2⟩
  · exact of_all (p := fun _ i => Table.has s.segments i.segment) hi n i hn
  · exact of_decide_eq_true (of_all (p := fun n g => decide (g.openIncidents = min 255 (openIncidents s n).length)) hg
      n g hn)
  · exact of_decide_eq_true (of_all (p := fun _ p => decide (p.valid = true ↔ p.lastPressure ≠ none)) hp n p hn)
  · simp only [recordWork, List.mem_cons, List.not_mem_nil, or_false] at hs
    rcases hs with rfl | rfl
    · exact ⟨tracerLegal_afterPass, outagesLegal_afterPass, _, rfl⟩
    · exact ⟨⟨by decide, by decide, by decide, by decide, fun inp h => (by cases h)⟩,
        outagesLegal_of (by decide) (by decide), _, rfl⟩

/-! ## What a reading, a report and a hold change hand on -/

theorem witness_ReadingsReachTheRegisterAndTheTests :
    (let s := oneItem 1 1499 { plainPoint 1 with persistence := 1 };
      s.awake ∧ s.tablesLegal ∧ pointByTag s ⟨1, 1⟩ = some 9 ∧ underTest s 9 = false ∧
        (⟨1, ⟨1, 1⟩, 1499⟩ : Item).sort = .reading ∧ Table.lowestFree s.incidents 512 = some 0 ∧
        Table.test s.segments 1 (fun g => g.supply = .supplied) = true ∧ s.incidents = [] ∧
        (∃ q, Table.at? (nx .readingItem s).points 9 = some q ∧ q.band = .lowLow)) ∧
    (let s := oneItem 2 255 { plainPoint 1 with valid := true, lastRaw := some 65535 };
      s.awake ∧ s.tablesLegal ∧ pointByTag s ⟨1, 1⟩ = some 9 ∧ (⟨2, ⟨1, 1⟩, 255⟩ : Item).sort = .hold) ∧
    securedPlan.awake ∧ securedPlan.tablesLegal ∧ pointByTag securedPlan ⟨1, 1⟩ = some 9 ∧
      (∃ r d e, Table.at? securedPlan.plans 20 = some r ∧ r.test = .running d ∧ r.activeState = .secured ∧
        (d.entries.map (fun y => y.point)).Nodup ∧ e ∈ d.entries ∧ e.point = 9 ∧ e.state = .testing ∧
        e.p0 + r.rise = 2300) ∧
      (∃ p, Table.at? securedPlan.points 9 = some p ∧ p.condition = .ok) := by
  refine ⟨⟨⟨rfl, rfl⟩, by unfold State.tablesLegal Table.wf; decide, by decide, by decide, rfl, by decide, by decide,
    rfl, _, rfl, by decide⟩, ⟨⟨rfl, rfl⟩, by unfold State.tablesLegal Table.wf; decide, by decide, rfl⟩, ⟨rfl, rfl⟩,
    by unfold State.tablesLegal Table.wf; decide, by decide, ⟨_, _, _, rfl, rfl, rfl, by decide, List.mem_singleton.2 rfl,
    rfl, rfl, rfl⟩, _, rfl, rfl⟩

theorem witness_WantedChangesAreOrdered :
    (heldOrders.ready ∧ heldOrders.tablesLegal ∧ heldOrders.plansLegal ∧ heldOrders.ordersLegal ∧
      heldOrders.orderLaws ∧ waitingValves heldOrders = [] ∧ heldOrders.orders.length + 48 ≤ 256 ∧
      wellFormed (.commitDraft (desk 2) 20) = true ∧ heldOrders.model = .running ∧
      ∃ q, Table.at? heldOrders.plans 20 = some q ∧ inWindow heldOrders 2 q.target = true ∧ q.editor = some 2 ∧
        q.draft ≠ [] ∧ q.mode.accepts q.activeState = true) ∧
    (ordered.ready ∧ ordered.tablesLegal ∧ ordered.plansLegal ∧ ordered.ordersLegal ∧ ordered.orderLaws ∧
      waitingValves ordered = [] ∧ ordered.orders.length + 48 ≤ 256 ∧ wellFormed (.releasePlan (desk 2) 20) = true ∧
      ordered.model = .running ∧ ∃ q, Table.at? ordered.plans 20 = some q ∧ inWindow ordered 2 q.target = true ∧
        q.draftState ≠ .committed ∧ q.activeState = .issuing) ∧
    ∀ s ∈ [heldOrders, ordered], ∀ m r, Table.at? s.plans m = some r → m ≠ 20 → r.activeState ≠ .releasing := by
  refine ⟨⟨⟨⟨rfl, rfl, rfl⟩, rfl⟩, by unfold State.tablesLegal Table.wf; decide, plansLegal_of (by decide),
    ordersLegal_heldOrders, orderLaws_heldOrders, by decide, by decide, by decide, rfl, _, rfl, by decide, rfl,
    by decide, by decide⟩, ⟨⟨⟨rfl, rfl, rfl⟩, rfl⟩, by unfold State.tablesLegal Table.wf; decide,
    plansLegal_of (by decide), ordersLegal_ordered, orderLaws_of (by decide) (by decide) (by decide), by decide,
    by decide, by decide, rfl, _, rfl, by decide, by decide, by decide⟩, fun s hs m r h hm => ?_⟩
  have h1 : [heldOrders, ordered].all (fun s => s.plans.all (fun r => decide (r.1 = 20))) = true := by decide
  exact absurd (of_decide_eq_true (of_all (p := fun m _ => decide (m = 20)) (List.all_eq_true.mp h1 s hs) m r h)) hm

theorem witness_PlansFollowReports :
    let lastOpen := { securedPlan with
      valves := Table.upd securedPlan.valves 4410 (fun a => { a with reported := .opened })
      plans := [(20, { plan 1 with activeState := .issuing, active := [4410] })] }
    (∀ s ∈ [securedPlan, lastOpen], s.ready ∧ s.tablesLegal ∧ s.plansLegal ∧ s.model = .running ∧
      ∀ p q, Table.at? s.plans p = some q → 4410 ∈ q.active →
        q.activeState ≠ .releasing ∧ q.draftState ≠ .committed) ∧
      (∃ a, Table.at? securedPlan.valves 4410 = some a ∧ a.reported ≠ .opened ∧
        a.inWindow securedPlan 2 = true) ∧
      (∃ a, Table.at? lastOpen.valves 4410 = some a ∧ a.reported ≠ .closed ∧ a.inWindow lastOpen 2 = true) ∧
      ([.reportValve (desk 2) 4410 0, .reportValve (desk 2) 4410 1] : List Instr).all wellFormed = true ∧
      Reported.ofCode? 0 = some .opened ∧ Reported.ofCode? 1 = some .closed ∧
      (∀ m r, Table.at? securedPlan.plans m = some r → r.incident = some 511 → m = 20) := by
  refine ⟨?_, ⟨_, rfl, by decide, by decide⟩, ⟨_, rfl, by decide, by decide⟩, by decide, rfl, rfl, fun m r h hr => ?_⟩
  · simp only [List.mem_cons, List.not_mem_nil, or_false]
    rintro s (rfl | rfl)
    all_goals
      refine ⟨⟨⟨rfl, rfl, rfl⟩, rfl⟩, by unfold State.tablesLegal Table.wf; decide, plansLegal_of (by decide), rfl,
        fun p q hq hv => ?_⟩
      exact of_decide_eq_true (of_all (p := fun _ q => decide (q.activeState ≠ .releasing ∧
        q.draftState ≠ .committed)) (by decide) p q hq)
  · exact of_decide_eq_true (of_all (p := fun m r => decide (r.incident = some 511 → m = 20)) (by decide) m r h) hr

/-- A plan RELEASING with a draft that waits, and beside it one with a valve of that draft. -/
def settling : State := { coldEvening with
  valves := [(4410, { valve .line (some 1) 2 with reported := .closed }),
    (4411, { valve .line (some 1) 2 with operation := .remote, tag := some ⟨30, 6⟩ }),
    (4412, { valve .line (some 1) 2 with reported := .closed })]
  plans := [(20, { plan 1 with draftState := .committed, draft := [4412], activeState := .releasing,
                               active := [4410] }),
    (21, { plan 1 with activeState := .releasing, active := [4412] })] }

/-- A plan ISSUING with a draft that waits. -/
def giveUp : State := { coldEvening with
  valves := Table.upd coldEvening.valves 4410 (fun a => { a with hold := 1 })
  plans := [(20, { plan 1 with draftState := .committed, draft := [4412], activeState := .issuing,
                               active := [4410] })] }

theorem witness_ReleaseEndsWithTheWaitingDraft :
    (settling.ready ∧ settling.tablesLegal ∧ settling.plansLegal ∧ settling.model = .running ∧
      wellFormed (.reportValve (desk 2) 4410 0) = true ∧ Reported.ofCode? 0 = some .opened ∧
      (∃ q, Table.at? settling.plans 20 = some q ∧ q.draftState = .committed ∧ q.draft ≠ [] ∧ q.active = [4410] ∧
        q.activeState = .releasing) ∧
      (∃ a, Table.at? settling.valves 4410 = some a ∧ .opened ≠ a.reported ∧ a.inWindow settling 2 = true ∧
        Reported.opened = a.normal.reported) ∧
      ∀ m r, Table.at? settling.plans m = some r → m ≠ 20 →
        (r.activeState = .releasing → r.draftState ≠ .committed) ∧ 4410 ∉ r.active) ∧
    giveUp.ready ∧ giveUp.tablesLegal ∧ giveUp.plansLegal ∧ giveUp.model = .running ∧
      wellFormed (.releasePlan (desk 2) 20) = true ∧
      (∃ q, Table.at? giveUp.plans 20 = some q ∧ q.draftState = .committed ∧ q.draft ≠ [] ∧ q.active = [4410] ∧
        q.activeState = .issuing ∧ inWindow giveUp 2 q.target = true) ∧
      (∃ a, Table.at? giveUp.valves 4410 = some a ∧ a.reported = a.normal.reported) ∧
      ∀ m r, Table.at? giveUp.plans m = some r → m ≠ 20 → r.activeState ≠ .releasing := by
  refine ⟨⟨⟨⟨rfl, rfl, rfl⟩, rfl⟩, by unfold State.tablesLegal Table.wf; decide, plansLegal_of (by decide), rfl,
    by decide, rfl, ⟨_, rfl, rfl, by decide, rfl, rfl⟩, ⟨_, rfl, by decide, by decide, rfl⟩, fun m r h hm => ?_⟩,
    ⟨⟨rfl, rfl, rfl⟩, rfl⟩, by unfold State.tablesLegal Table.wf; decide, plansLegal_of (by decide), rfl, by decide,
    ⟨_, rfl, rfl, by decide, rfl, rfl, by decide⟩, ⟨_, rfl, rfl⟩, fun m r h hm => ?_⟩
  · exact of_decide_eq_true (of_all (p := fun m r => decide (m ≠ 20 →
      (r.activeState = .releasing → r.draftState ≠ .committed) ∧ 4410 ∉ r.active)) (by decide) m r h) hm
  · exact of_decide_eq_true (of_all (p := fun m r => decide (m ≠ 20 → r.activeState ≠ .releasing)) (by decide) m r h) hm

/-! ## A full order list -/

/-- A list of records by their numbers. -/
def rows {α : Type} (f : Nat → α) (a k : Nat) : Table α := (List.range' a k).map (fun n => (n, f n))

theorem keys_rows {α : Type} (f : Nat → α) (a k : Nat) : Table.keys (rows f a k) = List.range' a k := by
  simp [rows, Table.keys, List.map_map, Function.comp_def]

theorem wf_rows {α : Type} (f : Nat → α) {a k cap : Nat} (h : a + k ≤ cap) : Table.wf (rows f a k) cap := by
  rw [Table.wf, keys_rows]
  refine ⟨List.pairwise_lt_range', fun n hn => ?_⟩
  have := List.mem_range'_1.mp hn
  omega

theorem at?_rows {α : Type} (f : Nat → α) (a k n : Nat) :
    Table.at? (rows f a k) n = if a ≤ n ∧ n < a + k then some (f n) else none := by
  induction k generalizing a with
  | zero => simp only [rows, List.range'_zero, List.map_nil, Table.at?]; rw [if_neg (by omega)]
  | succ k ih =>
    have hc : rows f a (k + 1) = (a, f a) :: rows f (a + 1) k := by simp [rows, List.range'_succ]
    rw [hc, Table.at?, ih]
    by_cases h : a = n
    · subst h; simp
    · rw [if_neg h]
      by_cases h2 : a + 1 ≤ n ∧ n < a + 1 + k
      · rw [if_pos h2, if_pos (by omega)]
      · rw [if_neg h2, if_neg (by omega)]

/-- Valve 1 has an order FETCHED, 2 to 256 have one QUEUED, 257 and 258 wait, 257 already where it is wanted, and 259
has none. -/
def fullValve (n : Nat) : Valve :=
  let a := { valve .line (some 1) 2 with hold := 1 }
  if n = 1 then { a with orderState := .fetched, orderSerial := some 1 }
  else if n ≤ 256 then { a with orderState := .queued, orderSerial := some n }
  else if n = 257 then { a with orderState := .waiting, waitingSince := some 100, reported := .closed }
  else if n = 258 then { a with orderState := .waiting, waitingSince := some 100 }
  else a

def fullOrder (n : Nat) : Order :=
  let o : Order := { valve := n, action := .close, channel := .crew, state := .queued, queued := 5, fetched := none,
                     expiry := none }
  if n = 1 then { o with state := .fetched, fetched := some 6, expiry := some 5406 } else o

def fullList (due : List TimedWork) : State := { coldEvening with
  clock := { second := 50000, dayClass := 0, due := due }
  valves := rows fullValve 1 259
  orders := rows fullOrder 1 256
  orderUnit := { State.reset.orderUnit with nextSerial := 257 }
  plans := [] }

theorem order_fullList {due : List TimedWork} {n : Nat} {o : Order} (h : Table.at? (fullList due).orders n = some o) :
    1 ≤ n ∧ n ≤ 256 ∧ o = fullOrder n := by
  have : Table.at? (rows fullOrder 1 256) n = some o := h
  rw [at?_rows] at this
  split at this <;> rename_i hn
  · exact ⟨hn.1, by omega, by injection this with e; exact e.symm⟩
  · cases this

theorem valve_fullList {due : List TimedWork} {v : Nat} {a : Valve} (h : Table.at? (fullList due).valves v = some a) :
    1 ≤ v ∧ v ≤ 259 ∧ a = fullValve v := by
  have : Table.at? (rows fullValve 1 259) v = some a := h
  rw [at?_rows] at this
  split at this <;> rename_i hn
  · exact ⟨hn.1, by omega, by injection this with e; exact e.symm⟩
  · cases this

theorem length_orders_fullList (due : List TimedWork) : (fullList due).orders.length = 256 := by
  simp [fullList, rows]

theorem tablesLegal_fullList (due : List TimedWork) : (fullList due).tablesLegal := by
  refine ⟨?_, wf_rows _ (by decide), ?_, ?_, ?_, ?_, ?_⟩ <;> (simp only [fullList]; unfold Table.wf; decide)

theorem ordersLegal_fullList (due : List TimedWork) : (fullList due).ordersLegal := by
  refine ⟨wf_rows _ (by decide), by rw [length_orders_fullList]; decide, fun n o h => (order_fullList h).1,
    (by decide : 1 ≤ 257), (by decide : 257 ≤ 65535), ?_⟩
  rw [← Table.at?_none_iff]
  exact at?_rows fullOrder 1 256 257

theorem orderLaws_fullList (due : List TimedWork) : (fullList due).orderLaws := by
  refine ⟨fun n o h => ?_, fun n m o x hn hm hv => ?_, fun v a h => ?_⟩
  · obtain ⟨h1, h2, rfl⟩ := order_fullList h
    have hv : (fullOrder n).valve = n := by unfold fullOrder; dsimp only; split <;> rfl
    refine ⟨fullValve n, ?_, ?_⟩
    · rw [hv]
      exact (at?_rows fullValve 1 259 n).trans (if_pos (by omega))
    · by_cases e : n = 1
      · subst e; decide
      · simp [fullValve, fullOrder, e, h2, valve, Valve.wanted, Operation.channel, Position.action]
  · obtain ⟨-, -, rfl⟩ := order_fullList hn
    obtain ⟨-, -, rfl⟩ := order_fullList hm
    have hk : ∀ k, (fullOrder k).valve = k := fun k => by unfold fullOrder; dsimp only; split <;> rfl
    rwa [hk, hk] at hv
  · obtain ⟨h1, h2, rfl⟩ := valve_fullList h
    have hl := length_orders_fullList due
    refine ⟨fun hs => ?_, ?_⟩
    · have hn : v ≤ 256 := by
        by_contra hc
        have : v = 257 ∨ v = 258 ∨ v = 259 := by omega
        rcases this with rfl | rfl | rfl <;> revert hs <;> decide
      refine ⟨v, fullOrder v, ?_, (at?_rows fullOrder 1 256 v).trans (if_pos (by omega)), ?_⟩
      · by_cases e : v = 1
        · subst e; rfl
        · simp [fullValve, e, hn]
      · unfold fullOrder; dsimp only; split <;> rfl
    · rw [hl]
      by_cases e : v = 1
      · subst e; decide
      · by_cases hn : v ≤ 256
        · simp [fullValve, e, hn, valve]
        · have : v = 257 ∨ v = 258 ∨ v = 259 := by omega
          rcases this with rfl | rfl | rfl <;> decide

theorem witness_WaitingValvesAreDrawn :
    (∀ due, (fullList due).port.held = false ∧ (fullList due).tablesLegal ∧ (fullList due).ordersLegal ∧
      (fullList due).orderLaws ∧ (fullList due).model = .running ∧ (fullList due).plans = [] ∧
      256 ≤ (fullList due).orders.length) ∧
    (fullList []).ready ∧
      ([.withdrawOrder (desk 0) 256, .declareInoperable (desk 0) 256, .reportValve (desk 0) 256 1,
        .reissueValve (desk 0) 259] : List Instr).all wellFormed = true ∧
      Reported.ofCode? 1 = some .closed ∧
      (∃ o a, Table.at? (fullList []).orders 256 = some o ∧ o.valve = 256 ∧ o.state = .queued ∧
        o.action.target = .closed ∧ Table.at? (fullList []).valves 256 = some a ∧ a.followUp = false) ∧
      (∃ a, Table.at? (fullList []).valves 259 = some a ∧ a.orderState = .none ∧ a.inoperable = false ∧
        a.atWanted = false) ∧
      (∃ d, Table.at? (fullList []).valves 258 = some d ∧ d.orderState = .waiting ∧ d.inoperable = false ∧
        d.atWanted = false) ∧
      (∀ w b, Table.at? (fullList []).valves w = some b → b.orderState = .waiting → b.inoperable = false →
        b.atWanted = false → w = 258) ∧
      (∃ o, Table.at? (fullList [.timeout]).orders 1 = some o ∧ o.state = .fetched ∧ o.expiry = some 5406 ∧
        5406 ≤ (fullList [.timeout]).clock.second) ∧
      ∀ m x, Table.at? (fullList [.timeout]).orders m = some x → x.state = .fetched → m = 1 := by
  refine ⟨fun due => ⟨rfl, tablesLegal_fullList due, ordersLegal_fullList due, orderLaws_fullList due, rfl, rfl,
    (length_orders_fullList due).ge⟩, ⟨⟨rfl, rfl, rfl⟩, rfl⟩, by decide, rfl,
    ⟨_, _, at?_rows fullOrder 1 256 256, rfl, rfl, rfl, at?_rows fullValve 1 259 256, rfl⟩,
    ⟨_, at?_rows fullValve 1 259 259, rfl, rfl, by decide⟩, ⟨_, at?_rows fullValve 1 259 258, rfl, rfl, by decide⟩,
    fun w b h hs _ ha => ?_, ⟨_, at?_rows fullOrder 1 256 1, rfl, rfl, by decide⟩, fun m x h hs => ?_⟩
  · obtain ⟨-, h2, rfl⟩ := valve_fullList h
    by_cases e : w = 1
    · subst e; revert hs; decide
    · by_cases hn : w ≤ 256
      · simp [fullValve, e, hn] at hs
      · have : w = 257 ∨ w = 258 ∨ w = 259 := by omega
        rcases this with rfl | rfl | rfl
        · revert ha; decide
        · rfl
        · revert hs; decide
  · obtain ⟨-, -, rfl⟩ := order_fullList h
    by_contra e
    simp [fullOrder, e] at hs

end Sys2Proof.Tests
end

section
/-! SUPPORT. Tables read as functions of their slots: what stands in a canonical table, the table of one view of
each record, the numbers of the records that meet a test, and a run of changes over a list of slots. -/

namespace Sys2Proof.Machine

variable {α β : Type}

/-! ## The records of a canonical table -/

/-- The numbers of a table rise strictly: the part of the canonical form that reading by slot rests on. -/
def Table.rises (t : Table α) : Prop := (Table.keys t).Pairwise (· < ·)

@[simp] theorem Table.rises_nil : Table.rises ([] : Table α) := List.Pairwise.nil

theorem Table.rises_cons {k : Nat} {a : α} {t : Table α} :
    Table.rises ((k, a) :: t) ↔ (∀ m ∈ Table.keys t, k < m) ∧ Table.rises t := by
  simp [Table.rises, Table.keys]

theorem Table.mem_keys {t : Table α} {n : Nat} : n ∈ Table.keys t ↔ Table.has t n = true := by
  induction t with
  | nil => simp [Table.keys, Table.has, Table.at?]
  | cons r t ih =>
    obtain ⟨k, a⟩ := r
    simp only [Table.keys, Table.has] at ih
    by_cases h : k = n
    · simp [Table.keys, Table.has, Table.at?, h]
    · simp [Table.keys, Table.has, Table.at?, h, Ne.symm h, ih]

theorem Table.at?_of_mem {t : Table α} (ht : Table.rises t) {n : Nat} {a : α} (h : (n, a) ∈ t) :
    Table.at? t n = some a := by
  induction t with
  | nil => simp at h
  | cons r t ih =>
    obtain ⟨k, b⟩ := r
    obtain ⟨hk, ht'⟩ := Table.rises_cons.1 ht
    rcases List.mem_cons.1 h with e | h'
    · cases e; simp [Table.at?]
    · have hlt : k < n := hk n (List.mem_map.2 ⟨_, h', rfl⟩)
      simp [Table.at?, hlt.ne, ih ht' h']

theorem Table.mem_iff_at? {t : Table α} (ht : Table.rises t) {n : Nat} {a : α} :
    (n, a) ∈ t ↔ Table.at? t n = some a := ⟨Table.at?_of_mem ht, Table.mem_of_at?⟩

/-- A canonical table is settled by what it holds in each slot. -/
theorem Table.ext {t u : Table α} (ht : Table.rises t) (hu : Table.rises u)
    (h : ∀ n, Table.at? t n = Table.at? u n) : t = u := by
  induction t generalizing u with
  | nil =>
    cases u with
    | nil => rfl
    | cons r u => simpa [Table.at?] using h r.1
  | cons r t ih =>
    obtain ⟨k, a⟩ := r
    cases u with
    | nil => simpa [Table.at?] using h k
    | cons r u =>
      obtain ⟨m, b⟩ := r
      obtain ⟨hk, ht'⟩ := Table.rises_cons.1 ht
      obtain ⟨hm, hu'⟩ := Table.rises_cons.1 hu
      have hkm : k = m := by
        by_contra hne
        have h1 : Table.at? u k = some a := by simpa [Table.at?, Ne.symm hne] using (h k).symm
        have h2 : Table.at? t m = some b := by simpa [Table.at?, hne] using h m
        exact absurd (hk m (Table.mem_keys_of_at? h2)) (hm k (Table.mem_keys_of_at? h1)).not_gt
      subst hkm
      have hab : a = b := by simpa [Table.at?] using h k
      subst hab
      rw [ih ht' hu' fun n => ?_]
      by_cases e : k = n
      · subst e
        have hnone {v : Table α} (hv : ∀ m ∈ Table.keys v, k < m) : Table.at? v k = none := by
          rw [Table.at?_none_iff, ← Bool.not_eq_true, ← Table.mem_keys]
          exact fun hmem => (hv k hmem).ne rfl
        rw [hnone hk, hnone hm]
      · simpa [Table.at?, e] using h n

theorem Table.rises_filter {t : Table α} (h : Table.rises t) (p : Nat × α → Bool) : Table.rises (t.filter p) :=
  List.Pairwise.sublist (List.Sublist.map _ List.filter_sublist) h

theorem Table.at?_filter {t : Table α} (ht : Table.rises t) (p : α → Bool) (n : Nat) :
    Table.at? (t.filter (fun r => p r.2)) n = (Table.at? t n).filter p := by
  ext a
  rw [Option.filter_eq_some_iff, ← Table.mem_iff_at? (Table.rises_filter ht _), List.mem_filter, Table.mem_iff_at? ht]

theorem Table.rises_put {t : Table α} (h : Table.rises t) (n : Nat) (a : α) : Table.rises (Table.put t n a) := by
  unfold Table.rises
  rw [Table.keys_put]
  exact pairwise_insertNat n h

theorem Table.rises_del {t : Table α} (h : Table.rises t) (n : Nat) : Table.rises (Table.del t n) :=
  List.Pairwise.sublist (List.Sublist.map _ List.filter_sublist) h

theorem Table.rises_of_keys {t : Table α} {u : Table β} (h : Table.rises t) (hk : Table.keys u = Table.keys t) :
    Table.rises u := by
  unfold Table.rises
  rwa [hk]

theorem Table.has_of_keys {t : Table α} {u : Table β} (h : Table.keys u = Table.keys t) (n : Nat) :
    Table.has u n = Table.has t n := by
  rw [Bool.eq_iff_iff, ← Table.mem_keys, ← Table.mem_keys, h]

theorem Table.has_put (t : Table α) (n m : Nat) (a : α) :
    Table.has (Table.put t n a) m = (decide (m = n) || Table.has t m) := by
  by_cases h : m = n <;> simp [Table.has, Table.at?_put, h]

theorem Table.has_del (t : Table α) (n m : Nat) :
    Table.has (Table.del t n) m = (!decide (m = n) && Table.has t m) := by
  by_cases h : m = n <;> simp [Table.has, Table.at?_del, h]

/-! ## A view of each record -/

/-- The table that shows of each record what `f` reads of it. -/
def Table.image (f : α → β) (t : Table α) : Table β := t.map (fun r => (r.1, f r.2))

@[simp] theorem Table.keys_image (f : α → β) (t : Table α) : Table.keys (Table.image f t) = Table.keys t := by
  simp [Table.keys, Table.image, Function.comp_def]

theorem Table.at?_image (f : α → β) (t : Table α) (n : Nat) :
    Table.at? (Table.image f t) n = (Table.at? t n).map f := by
  induction t with
  | nil => rfl
  | cons r t ih =>
    obtain ⟨k, a⟩ := r
    simp only [Table.image, List.map_cons, Table.at?] at ih ⊢
    split <;> simp [ih]

theorem Table.which_image (f : α → β) (p : β → Bool) (t : Table α) :
    Table.which (Table.image f t) p = Table.which t (fun a => p (f a)) := by
  simp [Table.which, Table.image, Table.keys, List.filter_map, Function.comp_def]

theorem Table.count_image (f : α → β) (p : β → Bool) (t : Table α) :
    Table.count (Table.image f t) p = Table.count t (fun a => p (f a)) := by
  simp [Table.count, Table.image, List.filter_map, Function.comp_def]

theorem Table.image_upd {f : α → β} {g : α → α} (h : ∀ a, f (g a) = f a) (t : Table α) (n : Nat) :
    Table.image f (Table.upd t n g) = Table.image f t := by
  simp only [Table.image, Table.upd, List.map_map]
  refine List.map_congr_left fun r _ => ?_
  by_cases e : r.1 = n <;> simp [e, h]

/-- Writing a slot in use over with a record of the same view leaves the view of the table. -/
theorem Table.image_put {f : α → β} {t : Table α} (ht : Table.rises t) {n : Nat} {a b : α}
    (hb : Table.at? t n = some b) (h : f a = f b) : Table.image f (Table.put t n a) = Table.image f t := by
  induction t with
  | nil => simp [Table.at?] at hb
  | cons r t ih =>
    obtain ⟨k, c⟩ := r
    obtain ⟨hk, ht'⟩ := Table.rises_cons.1 ht
    by_cases e : k = n
    · subst e
      simp only [Table.at?, if_true, Option.some.injEq] at hb
      simp [Table.put, Table.image, h, hb]
    · have hb' : Table.at? t n = some b := by simpa [Table.at?, e] using hb
      have hlt : k < n := hk n (Table.mem_keys_of_at? hb')
      simp only [Table.put, Table.image] at ih ⊢
      simp [not_lt.2 hlt.le, Ne.symm e, ih ht' hb']

theorem Table.keys_of_image {f : α → β} {t u : Table α} (h : Table.image f u = Table.image f t) :
    Table.keys u = Table.keys t := by
  rw [← Table.keys_image f u, h, Table.keys_image]

theorem Table.which_of_image {f : α → β} {t u : Table α} (h : Table.image f u = Table.image f t) (p : β → Bool) :
    Table.which u (fun a => p (f a)) = Table.which t (fun a => p (f a)) := by
  rw [← Table.which_image, h, Table.which_image]

theorem Table.count_of_image {f : α → β} {t u : Table α} (h : Table.image f u = Table.image f t) (p : β → Bool) :
    Table.count u (fun a => p (f a)) = Table.count t (fun a => p (f a)) := by
  rw [← Table.count_image, h, Table.count_image]

theorem Table.map_at?_of_image {f : α → β} {t u : Table α} (h : Table.image f u = Table.image f t) (n : Nat) :
    (Table.at? u n).map f = (Table.at? t n).map f := by
  rw [← Table.at?_image, h, Table.at?_image]

/-- A record of `u` stands in a slot where `t` has a record of the same view. -/
theorem Table.exists_of_image {f : α → β} {t u : Table α} (h : Table.image f u = Table.image f t) {n : Nat} {a : α}
    (ha : Table.at? u n = some a) : ∃ b, Table.at? t n = some b ∧ f b = f a := by
  have := Table.map_at?_of_image h n
  rw [ha, Option.map_some] at this
  simpa using this.symm

/-! ## The numbers of the records that meet a test -/

theorem Table.mem_which {t : Table α} (ht : Table.rises t) {p : α → Bool} {n : Nat} :
    n ∈ Table.which t p ↔ ∃ a, Table.at? t n = some a ∧ p a = true := by
  simp only [Table.which, Table.keys, List.mem_map, List.mem_filter, Prod.exists, exists_and_right, exists_eq_right,
    Table.mem_iff_at? ht]

theorem Table.pairwise_which {t : Table α} (ht : Table.rises t) (p : α → Bool) :
    (Table.which t p).Pairwise (· < ·) :=
  List.Pairwise.sublist (List.Sublist.map _ List.filter_sublist) ht

theorem nodup_of_rising {l : List Nat} (h : l.Pairwise (· < ·)) : l.Nodup := h.imp (fun h => h.ne)

/-- A rising list is settled by its elements. -/
theorem rising_ext {l m : List Nat} (hl : l.Pairwise (· < ·)) (hm : m.Pairwise (· < ·))
    (h : ∀ n, n ∈ l ↔ n ∈ m) : l = m := hl.eq_of_mem_iff hm h

/-- A rising list whose elements are the slots that meet a test is the list of them. -/
theorem Table.eq_which {t : Table α} (ht : Table.rises t) {p : α → Bool} {l : List Nat} (hl : l.Pairwise (· < ·))
    (h : ∀ n, n ∈ l ↔ ∃ a, Table.at? t n = some a ∧ p a = true) : l = Table.which t p :=
  rising_ext hl (Table.pairwise_which ht p) (fun n => (h n).trans (Table.mem_which ht).symm)

theorem Table.length_which (t : Table α) (p : α → Bool) : (Table.which t p).length = Table.count t p := by
  simp [Table.which, Table.keys, Table.count]

/-- A record in a slot that was free adds to the count of what it meets. -/
theorem Table.count_put_free {t : Table α} {n : Nat} (h : Table.at? t n = none) (a : α) (p : α → Bool) :
    Table.count (Table.put t n a) p = Table.count t p + if p a then 1 else 0 := by
  induction t with
  | nil => by_cases hp : p a <;> simp [Table.put, Table.count, hp]
  | cons r t ih =>
    obtain ⟨k, b⟩ := r
    have hk : k ≠ n := by rintro rfl; simp [Table.at?] at h
    have ht : Table.at? t n = none := by simpa [Table.at?, hk] using h
    simp only [Table.put, Ne.symm hk, if_false]
    split
    · by_cases hp : p a <;> simp [Table.count, hp]
    · have := ih ht
      simp only [Table.count] at this ⊢
      by_cases hb : p b <;> simp [hb, this, Nat.add_right_comm]

/-- A record that leaves its slot leaves the count of what it met. -/
theorem Table.count_del {t : Table α} (ht : Table.rises t) {n : Nat} {a : α} (h : Table.at? t n = some a)
    (p : α → Bool) : Table.count (Table.del t n) p + (if p a then 1 else 0) = Table.count t p := by
  induction t with
  | nil => simp [Table.at?] at h
  | cons r t ih =>
    obtain ⟨k, b⟩ := r
    obtain ⟨hk, ht'⟩ := Table.rises_cons.1 ht
    by_cases e : k = n
    · subst e
      have hrest : Table.del t k = t :=
        List.filter_eq_self.2 fun r hr => by simpa using (hk r.1 (List.mem_map.2 ⟨r, hr, rfl⟩)).ne'
      simp only [Table.at?, if_true, Option.some.injEq] at h
      have hdel : Table.del ((k, b) :: t) k = t := by simpa [Table.del] using hrest
      rw [hdel, ← h]
      by_cases hp : p b <;> simp [Table.count, hp]
    · have := ih ht' (by simpa [Table.at?, e] using h)
      have hdel : Table.del ((k, b) :: t) n = (k, b) :: Table.del t n := by simp [Table.del, e]
      rw [hdel]
      simp only [Table.count] at this ⊢
      by_cases hb : p b <;> simp [hb, ← this, Nat.add_right_comm]

theorem Table.head?_which_none {t : Table α} (ht : Table.rises t) {p : α → Bool} :
    (Table.which t p).head? = none ↔ ∀ n a, Table.at? t n = some a → p a = false := by
  simp only [List.head?_eq_none_iff, List.eq_nil_iff_forall_not_mem, Table.mem_which ht, not_exists, not_and,
    Bool.not_eq_true]

/-- The first number of a rising list is its least. -/
theorem rising_head? {l : List Nat} (hl : l.Pairwise (· < ·)) {n : Nat} :
    l.head? = some n ↔ n ∈ l ∧ ∀ m ∈ l, n ≤ m := by
  cases l with
  | nil => simp
  | cons k l =>
    obtain ⟨hk, -⟩ := List.pairwise_cons.1 hl
    constructor
    · rintro h
      obtain rfl : k = n := by simpa using h
      refine ⟨List.mem_cons_self, fun m hm => ?_⟩
      rcases List.mem_cons.1 hm with rfl | hm
      · exact le_rfl
      · exact (hk m hm).le
    · rintro ⟨hn, hle⟩
      rcases List.mem_cons.1 hn with rfl | hn
      · rfl
      · exact absurd (hle k List.mem_cons_self) (not_le.2 (hk n hn))

/-! ## A run of changes over a list of slots -/

theorem Table.at?_foldl_upd {l : List Nat} (hl : l.Nodup) (f : Nat → α → α) (t : Table α) (m : Nat) :
    Table.at? (l.foldl (fun t n => Table.upd t n (f n)) t) m =
      if m ∈ l then (Table.at? t m).map (f m) else Table.at? t m := by
  induction l generalizing t with
  | nil => simp
  | cons n l ih =>
    obtain ⟨hn, hl'⟩ := List.nodup_cons.1 hl
    rw [List.foldl_cons, ih hl', Table.at?_upd]
    by_cases e : m = n
    · subst e; simp [hn]
    · simp [e]

/-- A change that made twice is made once, over a list that may name a slot twice. -/
theorem Table.at?_foldl_upd_idem {f : Nat → α → α} (hf : ∀ n a, f n (f n a) = f n a) (l : List Nat) (t : Table α)
    (m : Nat) : Table.at? (l.foldl (fun t n => Table.upd t n (f n)) t) m =
      if m ∈ l then (Table.at? t m).map (f m) else Table.at? t m := by
  induction l generalizing t with
  | nil => simp
  | cons n l ih =>
    rw [List.foldl_cons, ih, Table.at?_upd]
    by_cases e : m = n
    · subst e
      cases Table.at? t m <;> simp [hf]
    · simp [e]

theorem Table.image_foldl_upd {f : α → β} {g : Nat → α → α} (h : ∀ n a, f (g n a) = f a) (l : List Nat)
    (t : Table α) : Table.image f (l.foldl (fun t n => Table.upd t n (g n)) t) = Table.image f t := by
  induction l generalizing t with
  | nil => rfl
  | cons n l ih => rw [List.foldl_cons, ih, Table.image_upd (h n)]

theorem Table.keys_foldl_upd (f : Nat → α → α) (l : List Nat) (t : Table α) :
    Table.keys (l.foldl (fun t n => Table.upd t n (f n)) t) = Table.keys t := by
  induction l generalizing t with
  | nil => rfl
  | cons n l ih => rw [List.foldl_cons, ih, Table.keys_upd]

/-- A run of changes of one field of the state is a run over its table. -/
theorem foldl_field {γ : Type} (field : State → γ) (step : State → α → State) (g : γ → α → γ)
    (h : ∀ s a, field (step s a) = g (field s) a) (l : List α) (s : State) :
    field (l.foldl step s) = l.foldl g (field s) := by
  induction l generalizing s with
  | nil => rfl
  | cons a l ih => rw [List.foldl_cons, List.foldl_cons, ih, h]

/-! ## Lists of numbers -/

theorem mem_sortNat {l : List Nat} {n : Nat} : n ∈ sortNat l ↔ n ∈ l := by
  induction l with
  | nil => rfl
  | cons k l ih =>
    change n ∈ insertNat k (sortNat l) ↔ _
    rw [mem_insertNat, ih, List.mem_cons]

theorem pairwise_sortNat (l : List Nat) : (sortNat l).Pairwise (· < ·) := by
  induction l with
  | nil => exact List.Pairwise.nil
  | cons k l ih => exact pairwise_insertNat k ih

theorem length_insertNat_le (n : Nat) (l : List Nat) : (insertNat n l).length ≤ l.length + 1 := by
  induction l with
  | nil => simp [insertNat]
  | cons k l ih =>
    simp only [insertNat]
    split
    · simp
    · split <;> simp
      exact ih

theorem length_sortNat_le (l : List Nat) : (sortNat l).length ≤ l.length := by
  induction l with
  | nil => simp [sortNat]
  | cons k l ih => exact (length_insertNat_le k (sortNat l)).trans (Nat.succ_le_succ ih)

theorem distinct_iff {l : List Nat} : distinct l = true ↔ l.Nodup := by
  induction l with
  | nil => simp [distinct]
  | cons n l ih => simp [distinct, ih]

/-- What a list keeps when elements of it, named once each, are taken out. -/
theorem length_filter_notMem {l m : List Nat} (hm : m.Nodup) (h : ∀ x ∈ m, x ∈ l) :
    (l.filter (fun x => !m.contains x)).length ≤ l.length - m.length := by
  have hsplit := List.length_eq_length_filter_add (l := l) (fun x => !m.contains x)
  have hsub : m.length ≤ (l.filter (fun x => !!m.contains x)).length :=
    (List.subperm_of_subset hm fun x hx => List.mem_filter.2 ⟨h x hx, by simpa using hx⟩).length_le
  omega

end Sys2Proof.Machine
end

section
/-! The spreading of gas and the islands (R66, R67): a set that is widened as often as the list has elements can be
widened no further. -/

namespace Sys2Proof.Machine

/-! ## Widening a set within a list -/

/-- The elements of `u` that stand in `r` or that `q` adds to it. -/
def grow (u : List Nat) (q : List Nat → Nat → Bool) (r : List Nat) : List Nat :=
  u.filter (fun y => r.contains y || q r y)

/-- `q` adds no element of `u` to `r`. -/
def closedUnder (u : List Nat) (q : List Nat → Nat → Bool) (r : List Nat) : Prop := ∀ y ∈ u, q r y = true → y ∈ r

section
variable {u : List Nat} {q : List Nat → Nat → Bool}

theorem mem_grow {r : List Nat} {y : Nat} : y ∈ grow u q r ↔ y ∈ u ∧ (y ∈ r ∨ q r y = true) := by
  simp [grow]

/-- What widening reaches meets any property that the first elements meet and that `q` hands on. -/
theorem iterate_grow_induct {P : Nat → Prop} (hq : ∀ r, (∀ x ∈ r, P x) → ∀ y ∈ u, q r y = true → P y) (k : Nat)
    {r : List Nat} (hr : ∀ x ∈ r, P x) : ∀ y ∈ iterate (grow u q) k r, P y := by
  induction k generalizing r with
  | zero => exact hr
  | succ k ih =>
    refine ih fun y hy => ?_
    obtain ⟨hu, h | h⟩ := mem_grow.1 hy
    · exact hr y h
    · exact hq r hr y hu h

theorem mem_iterate_grow {r : List Nat} {x : Nat} (hx : x ∈ r) (hu : x ∈ u) (k : Nat) :
    x ∈ iterate (grow u q) k r := by
  induction k generalizing r with
  | zero => exact hx
  | succ k ih => exact ih (mem_grow.2 ⟨hu, .inl hx⟩)

variable (hmono : ∀ r r' y, r ⊆ r' → q r y = true → q r' y = true)
include hmono

theorem closedUnder_grow {r : List Nat} (h : closedUnder u q r) : closedUnder u q (grow u q r) := by
  intro y hy hq
  have hsub : grow u q r ⊆ r := fun z hz => by
    obtain ⟨hu, hr | hr⟩ := mem_grow.1 hz
    · exact hr
    · exact h z hu hr
  exact mem_grow.2 ⟨hy, .inl (h y hy (hmono _ _ y hsub hq))⟩

theorem closedUnder_iterate {r : List Nat} (h : closedUnder u q r) (k : Nat) :
    closedUnder u q (iterate (grow u q) k r) := by
  induction k generalizing r with
  | zero => exact h
  | succ k ih => exact ih (closedUnder_grow hmono h)

omit hmono in
/-- A widening that adds an element leaves fewer elements of `u` outside. -/
theorem outside_grow_lt {r : List Nat} (h : ¬ closedUnder u q r) :
    (u.filter (fun y => !(grow u q r).contains y)).length < (u.filter (fun y => !r.contains y)).length := by
  simp only [closedUnder, not_forall] at h
  obtain ⟨y, hy, hq, hr⟩ := h
  have heq : u.filter (fun y => !(grow u q r).contains y) =
      (u.filter (fun y => !r.contains y)).filter (fun y => !q r y) := by
    rw [List.filter_filter]
    refine List.filter_congr fun z hz => ?_
    have := mem_grow (q := q) (r := r) (u := u) (y := z)
    by_cases h1 : z ∈ r <;> by_cases h2 : q r z = true <;> simp_all
  rw [heq, List.length_filter_lt_length_iff_exists]
  exact ⟨y, List.mem_filter.2 ⟨hy, by simpa using hr⟩, by simpa using hq⟩

/-- As many widenings as elements stand outside reach a set that can be widened no further. -/
theorem closedUnder_iterate_of_le (k : Nat) {r : List Nat} (hk : (u.filter (fun y => !r.contains y)).length ≤ k) :
    closedUnder u q (iterate (grow u q) k r) := by
  induction k generalizing r with
  | zero =>
    intro y hy _
    have hnone := List.length_eq_zero_iff.1 (Nat.le_zero.1 hk)
    change y ∈ r
    simpa using List.filter_eq_nil_iff.1 hnone y hy
  | succ k ih =>
    by_cases h : closedUnder u q r
    · exact closedUnder_iterate hmono h (k + 1)
    · exact ih (by have := outside_grow_lt h; omega)

theorem closedUnder_iterate_length (r : List Nat) : closedUnder u q (iterate (grow u q) u.length r) :=
  closedUnder_iterate_of_le hmono _ (List.length_filter_le _ _)

end

/-! ## The segments that gas reaches (R66) -/

/-- Gas spreads from a set of segments exactly where it spreads from one of them. -/
theorem PassValve.feeds_iff {v : PassValve} {r : List Nat} {y : Nat} :
    v.feeds r y = true ↔ ∃ x ∈ r, v.feeds [x] y = true := by
  unfold PassValve.feeds
  cases v.kind <;> cases v.endA <;> simp <;> grind

theorem feeds_mono {vs : List PassValve} {r r' : List Nat} {y : Nat} (h : r ⊆ r')
    (hf : vs.any (fun v => v.feeds r y) = true) : vs.any (fun v => v.feeds r' y) = true := by
  obtain ⟨v, hv, hy⟩ := List.any_eq_true.1 hf
  obtain ⟨x, hx, hy⟩ := PassValve.feeds_iff.1 hy
  exact List.any_eq_true.2 ⟨v, hv, PassValve.feeds_iff.2 ⟨x, h hx, hy⟩⟩

theorem spread_eq_grow (inp : PassInputs) :
    spread inp = grow inp.segments (fun r y => inp.valves.any (fun v => v.feeds r y)) := rfl

/-- The reached segments of a pass are those that gas reaches (R66). -/
theorem mem_reached {inp : PassInputs} {y : Nat} : y ∈ reached inp ↔ Reaches inp y := by
  unfold reached
  rw [spread_eq_grow]
  constructor
  · refine iterate_grow_induct (P := Reaches inp) (fun r hr z hz hq => ?_) _ (fun z hz => ?_) y
    · obtain ⟨v, hv, hf⟩ := List.any_eq_true.1 hq
      obtain ⟨x, hx, hf⟩ := PassValve.feeds_iff.1 hf
      exact .spread x z v (hr x hx) hz hv hf
    · obtain ⟨hz, hs⟩ := List.mem_filter.1 hz
      obtain ⟨v, hv, hs⟩ := List.any_eq_true.1 hs
      exact .seed z v hz hv hs
  · intro h
    induction h with
    | seed y v hy hv hs =>
      exact mem_iterate_grow (List.mem_filter.2 ⟨hy, List.any_eq_true.2 ⟨v, hv, hs⟩⟩) hy _
    | spread x y v _ hy hv hf ih =>
      refine closedUnder_iterate_length (q := fun r y => inp.valves.any (fun v => v.feeds r y))
        (fun _ _ _ => feeds_mono) _ y hy ?_
      exact List.any_eq_true.2 ⟨v, hv, PassValve.feeds_iff.2 ⟨x, ih, hf⟩⟩

theorem mem_unreached {inp : PassInputs} {y : Nat} : y ∈ unreached inp ↔ y ∈ inp.segments ∧ ¬ Reaches inp y := by
  simp [unreached, mem_reached]

/-! ## The islands (R67) -/

theorem PassValve.joins_iff {v : PassValve} {r : List Nat} {y : Nat} :
    v.joins r y = true ↔ ∃ x ∈ r, v.joins [x] y = true := by
  unfold PassValve.joins
  cases v.endA with
  | none => simp
  | some a => simp; grind

theorem PassValve.joins_symm {v : PassValve} {x y : Nat} : v.joins [x] y = true ↔ v.joins [y] x = true := by
  unfold PassValve.joins
  cases v.endA with
  | none => simp
  | some a => simp; grind

theorem joins_mono {vs : List PassValve} {r r' : List Nat} {y : Nat} (h : r ⊆ r')
    (hf : vs.any (fun v => v.joins r y) = true) : vs.any (fun v => v.joins r' y) = true := by
  obtain ⟨v, hv, hy⟩ := List.any_eq_true.1 hf
  obtain ⟨x, hx, hy⟩ := PassValve.joins_iff.1 hy
  exact List.any_eq_true.2 ⟨v, hv, PassValve.joins_iff.2 ⟨x, h hx, hy⟩⟩

theorem widen_eq_grow (inp : PassInputs) (u : List Nat) :
    widen inp u = grow u (fun r y => inp.valves.any (fun v => v.joins r y)) := rfl

/-- The island of an unreached segment holds the segments that a chain joins to it. -/
theorem mem_islandOf {inp : PassInputs} {x y : Nat} (hx : x ∈ unreached inp) :
    y ∈ islandOf inp (unreached inp) x ↔ Chained inp x y := by
  unfold islandOf
  rw [widen_eq_grow]
  constructor
  · refine iterate_grow_induct (P := Chained inp x) (fun r hr z hz hq => ?_) _ (fun z hz => ?_) y
    · obtain ⟨v, hv, hj⟩ := List.any_eq_true.1 hq
      obtain ⟨w, hw, hj⟩ := PassValve.joins_iff.1 hj
      exact .link w z v (hr w hw) hz hv hj
    · rw [List.mem_singleton.1 hz]; exact .self
  · intro h
    induction h with
    | self => exact mem_iterate_grow (List.mem_singleton.2 rfl) hx _
    | link y z v _ hz hv hj ih =>
      refine closedUnder_iterate_length (q := fun r y => inp.valves.any (fun v => v.joins r y))
        (fun _ _ _ => joins_mono) _ z hz ?_
      exact List.any_eq_true.2 ⟨v, hv, PassValve.joins_iff.2 ⟨y, ih, hj⟩⟩

theorem Chained.mem_unreached {inp : PassInputs} {x y : Nat} (h : Chained inp x y) (hx : x ∈ unreached inp) :
    y ∈ unreached inp := by
  cases h with
  | self => exact hx
  | link _ _ _ _ hz => exact hz

theorem Chained.trans {inp : PassInputs} {x y z : Nat} (h : Chained inp x y) (h' : Chained inp y z) :
    Chained inp x z := by
  induction h' with
  | self => exact h
  | link y z v _ hz hv hj ih => exact .link y z v ih hz hv hj

theorem Chained.symm {inp : PassInputs} {x y : Nat} (h : Chained inp x y) (hx : x ∈ unreached inp) :
    Chained inp y x := by
  induction h with
  | self => exact .self
  | link y z v hy hz hv hj ih =>
    exact (Chained.link z y v .self (hy.mem_unreached hx) hv (PassValve.joins_symm.1 hj)).trans ih

/-- An island is that of its lowest segment. -/
theorem mem_islands {inp : PassInputs} {i : List Nat} : i ∈ islands inp ↔
    ∃ x ∈ unreached inp, (∀ y, Chained inp x y → x ≤ y) ∧ i = islandOf inp (unreached inp) x := by
  simp only [islands, List.mem_map, List.mem_filter, List.all_eq_true, decide_eq_true_eq]
  constructor
  · rintro ⟨x, ⟨hx, hle⟩, rfl⟩
    exact ⟨x, hx, fun y hy => hle y ((mem_islandOf hx).2 hy), rfl⟩
  · rintro ⟨x, hx, hle, rfl⟩
    exact ⟨x, ⟨hx, fun y hy => hle y ((mem_islandOf hx).1 hy)⟩, rfl⟩

/-- The segments of an island are the unreached segments that chains join to any one of them. -/
theorem mem_island_iff {inp : PassInputs} {i : List Nat} (hi : i ∈ islands inp) {x y : Nat} (hx : x ∈ i) :
    y ∈ i ↔ Chained inp x y := by
  obtain ⟨m, hm, -, rfl⟩ := mem_islands.1 hi
  have hmx := (mem_islandOf hm).1 hx
  rw [mem_islandOf hm]
  exact ⟨(hmx.symm hm).trans, hmx.trans⟩

theorem unreached_of_mem_island {inp : PassInputs} {i : List Nat} (hi : i ∈ islands inp) {x : Nat} (hx : x ∈ i) :
    x ∈ unreached inp := by
  obtain ⟨m, hm, -, rfl⟩ := mem_islands.1 hi
  exact ((mem_islandOf hm).1 hx).mem_unreached hm

theorem exists_island {inp : PassInputs} {x : Nat} (hx : x ∈ unreached inp) : ∃ i ∈ islands inp, x ∈ i := by
  classical
  have hex : ∃ m, Chained inp x m := ⟨x, .self⟩
  have hm := Nat.find_spec hex
  have hu := hm.mem_unreached hx
  refine ⟨_, mem_islands.2 ⟨Nat.find hex, hu, fun y hy => Nat.find_min' hex (hm.trans hy), rfl⟩, ?_⟩
  exact (mem_islandOf hu).2 (hm.symm hx)

/-- Settles O35: what gas reaches is what the spreading from the seeds makes of the pass, and the islands are the
classes of unreached segments joined by chains. -/
theorem passFindsReachAndIslands : Obligations.PassFindsReachAndIslands := by
  intro inp
  refine ⟨fun y => mem_reached, fun x y hx _ => ⟨?_, fun h => ?_⟩⟩
  · rintro ⟨i, hi, hxi, hyi⟩
    exact (mem_island_iff hi hxi).1 hyi
  · obtain ⟨i, hi, hxi⟩ := exists_island hx
    exact ⟨i, hi, hxi, (mem_island_iff hi hxi).2 h⟩

end Sys2Proof.Machine
end

section
/-! SUPPORT. The taking of a request: its tests in order, the work owed before it, and the port. -/

namespace Sys2Proof.Machine

/-! ## The tests of a request -/

theorem firstFailure_eq_none {l : List (Bool × Result)} : firstFailure l = none ↔ ∀ x ∈ l, x.1 = true := by
  induction l with
  | nil => simp [firstFailure]
  | cons x l ih =>
    obtain ⟨ok, r⟩ := x
    cases ok <;> simp [firstFailure, ih]

theorem tested_passed {l : List (Bool × Result)} (h : ∀ x ∈ l, x.1 = true) (f : State → State × Reply) (s : State) :
    tested l f s = f s := by
  simp [tested, firstFailure_eq_none.2 h]

theorem tested_failed {l : List (Bool × Result)} {r : Result} (h : firstFailure l = some r)
    (f : State → State × Reply) (s : State) : tested l f s = (s, .refusal r) := by
  simp [tested, h, refuse]

/-- What holds of the state as it stands, and of what the action makes of it where every test is passed, holds of the
state after the request. -/
theorem tested_induct {P : State → Prop} {l : List (Bool × Result)} {f : State → State × Reply} {s : State} (hs : P s)
    (hf : (∀ x ∈ l, x.1 = true) → P (f s).1) : P (tested l f s).1 := by
  cases h : firstFailure l with
  | none => rw [tested_passed (firstFailure_eq_none.1 h)]; exact hf (firstFailure_eq_none.1 h)
  | some r => rw [tested_failed h]; exact hs

/-! ## The work owed -/

@[simp] theorem settle_nil (s : State) : settle [] s = s := rfl

/-- No block does work that it does not owe. -/
theorem settle_of_caughtUp {s : State} (h : s.caughtUp) (l : List TimedWork) : settle l s = s := by
  induction l with
  | nil => rfl
  | cons w l ih =>
    have hw : doWork w s = s := by simp [doWork, show s.clock.due = [] from h]
    change settle l (doWork w s) = s
    rw [hw, ih]

/-! ## The port -/

theorem atPort_listening {s : State} (h : s.listening) (tag : Nat) (act : State → State × Reply) :
    atPort none tag act s = acting tag (act s).2 (act s).1 := by
  obtain ⟨hidle, hheld, hskip⟩ := h
  simp [atPort, hidle, hheld, hskip]

theorem frameTest_wellFormed {i : Instr} (h : wellFormed i = true) : frameTest i = none := by simp [frameTest, h]

/-- A request that a frame spells, taken by a port that listens, acts once the work it reaches is done. -/
theorem request_listening {i : Instr} {s : State} (hs : s.listening) (hi : wellFormed i = true) (h : Header)
    (owed : List TimedWork) (act : State → State × Reply) :
    request i h owed act s = .next (acting h.tag (act (settle owed s)).2 (act (settle owed s)).1) := by
  simp [request, frameTest_wellFormed hi, atPort_listening hs]

/-- Taken with no work owed, a request acts on the records as they stand. -/
theorem request_ready {i : Instr} {s : State} (hs : s.ready) (hi : wellFormed i = true) (h : Header)
    (owed : List TimedWork) (act : State → State × Reply) :
    request i h owed act s = .next (acting h.tag (act s).2 (act s).1) := by
  rw [request_listening hs.1 hi, settle_of_caughtUp hs.2]

/-- What a request makes of the state: its action's state but for the port, or the state as it is but for the port. -/
theorem request_cases {i : Instr} {h : Header} {owed : List TimedWork} {act : State → State × Reply} {s t : State}
    (ht : request i h owed act s = .next t) :
    (∃ x, t = s.setPort x) ∨ ∃ x, t = ((act (settle owed s)).1).setPort x := by
  unfold request atPort at ht
  simp only [Host.Outcome.next.injEq] at ht
  subst ht
  split
  · exact .inl ⟨s.port, rfl⟩
  · split
    · exact .inl ⟨_, rfl⟩
    · split
      · split
        · exact .inl ⟨_, rfl⟩
        · exact .inr ⟨_, rfl⟩
      · exact .inl ⟨_, rfl⟩

end Sys2Proof.Machine
end

section
/-! SUPPORT. The commands that leave the network as it is. The laws of R2, R6, R11, R39 and R87 read of a valve its
kind and its ends, of a point its segment and whether it holds a pressure, and of an incident its segment. Most
operations of the part change none of these; here it is said once for each operation. -/

namespace Sys2Proof.Machine

/-! ## States with the same network -/

/-- What the laws of the network read of a valve (R11, R12). -/
def Valve.site (a : Valve) : ValveKind × Option Nat × Nat := (a.kind, a.endA, a.endB)

/-- A point is valid exactly while it holds a pressure (R39). -/
def Point.sound (p : Point) : Prop := p.valid = true ↔ p.lastPressure ≠ none

/-- The law of R39 on every point in use. -/
def State.pointsSound (s : State) : Prop := ∀ n p, Table.at? s.points n = some p → p.sound

/-- The numbers of the tables that the laws of the network read rise. -/
structure State.keysRise (s : State) : Prop where
  segments : Table.rises s.segments
  valves : Table.rises s.valves
  points : Table.rises s.points
  incidents : Table.rises s.incidents
  outages : Table.rises s.outages

theorem State.tablesLegal.keysRise {s : State} (h : s.tablesLegal) : s.keysRise := by
  obtain ⟨hs, hv, hp, -, hi, -, ho⟩ := h
  exact ⟨hs.1, hv.1, hp.1, hi.1, ho.1⟩

/-- From `s` to `u` the network is the same: the segments and outage records as they were, and the same slots of
valves, points and incidents, each at its place. -/
structure SameNetwork (s u : State) : Prop where
  model : u.model = s.model
  stopCount : u.stopCount = s.stopCount
  segments : u.segments = s.segments
  outages : u.outages = s.outages
  valves : Table.image Valve.site u.valves = Table.image Valve.site s.valves
  points : Table.image Point.segment u.points = Table.image Point.segment s.points
  incidents : Table.image Incident.segment u.incidents = Table.image Incident.segment s.incidents
  sound : s.pointsSound → u.pointsSound

theorem SameNetwork.keysRise {s u : State} (h : SameNetwork s u) (hs : s.keysRise) : u.keysRise where
  segments := by rw [h.segments]; exact hs.segments
  valves := Table.rises_of_keys hs.valves (Table.keys_of_image h.valves)
  points := Table.rises_of_keys hs.points (Table.keys_of_image h.points)
  incidents := Table.rises_of_keys hs.incidents (Table.keys_of_image h.incidents)
  outages := by rw [h.outages]; exact hs.outages

/-- With rising tables, the network stands from `s` to `u`. -/
structure Stands (s u : State) : Prop where
  sameNetwork : s.keysRise → SameNetwork s u

theorem Stands.trans {s t u : State} (h : Stands s t) (h' : Stands t u) : Stands s u := by
  refine ⟨fun hs => ?_⟩
  have a := h.sameNetwork hs
  have b := h'.sameNetwork (a.keysRise hs)
  exact ⟨b.model.trans a.model, b.stopCount.trans a.stopCount, b.segments.trans a.segments,
    b.outages.trans a.outages, b.valves.trans a.valves, b.points.trans a.points, b.incidents.trans a.incidents,
    fun h => b.sound (a.sound h)⟩

/-- An operation that leaves the tables themselves leaves the network. -/
theorem Stands.of_frame {s u : State} (h : u.model = s.model ∧ u.stopCount = s.stopCount ∧ u.segments = s.segments ∧
    u.outages = s.outages ∧ u.valves = s.valves ∧ u.points = s.points ∧ u.incidents = s.incidents) :
    Stands s u := by
  obtain ⟨hm, hc, hg, ho, hv, hp, hi⟩ := h
  refine ⟨fun _ => ⟨hm, hc, hg, ho, by rw [hv], by rw [hp], by rw [hi], fun h => ?_⟩⟩
  unfold State.pointsSound
  rwa [hp]

@[refl] theorem Stands.refl (s : State) : Stands s s := .of_frame (by simp)

section
variable {s t : State}

/-- The network stands on, through an operation that leaves the tables themselves. -/
theorem Stands.frame {u : State} (h : Stands s t) (hu : u.model = t.model ∧ u.stopCount = t.stopCount ∧
    u.segments = t.segments ∧ u.outages = t.outages ∧ u.valves = t.valves ∧ u.points = t.points ∧
    u.incidents = t.incidents) : Stands s u := h.trans (.of_frame hu)

theorem Stands.foldl {α : Type} {f : State → α → State} (hf : ∀ {t : State}, Stands s t → ∀ {a}, Stands s (f t a))
    {l : List α} (h : Stands s t) : Stands s (l.foldl f t) := by
  induction l generalizing t with
  | nil => exact h
  | cons a l ih => exact ih (hf h)

theorem Stands.ite {c : Prop} [Decidable c] {a b : State} (ha : Stands s a) (hb : Stands s b) :
    Stands s (if c then a else b) := by
  split
  · exact ha
  · exact hb

/-! ## Changes of one record -/

theorem Stands.updValve (h : Stands s t) {n : Nat} {f : Valve → Valve} (hf : ∀ a, (f a).site = a.site) :
    Stands s (t.updValve n f) := by
  refine h.trans ⟨fun _ => ?_⟩
  have hv : Table.image Valve.site (t.updValve n f).valves = Table.image Valve.site t.valves := by
    simpa using Table.image_upd hf t.valves n
  exact ⟨by simp, by simp, by simp, by simp, hv, by simp, by simp, by simp [State.pointsSound]⟩

theorem Stands.putValve (h : Stands s t) {n : Nat} {a b : Valve} (hb : Table.at? t.valves n = some b)
    (hab : a.site = b.site) : Stands s (t.putValve n a) := by
  refine h.trans ⟨fun hk => ?_⟩
  have hv : Table.image Valve.site (t.putValve n a).valves = Table.image Valve.site t.valves := by
    simpa using Table.image_put hk.valves hb hab
  exact ⟨by simp, by simp, by simp, by simp, hv, by simp, by simp, by simp [State.pointsSound]⟩

theorem Stands.updIncident (h : Stands s t) {n : Nat} {f : Incident → Incident}
    (hf : ∀ i, (f i).segment = i.segment) : Stands s (t.updIncident n f) := by
  refine h.trans ⟨fun _ => ?_⟩
  have hi : Table.image Incident.segment (t.updIncident n f).incidents = Table.image Incident.segment t.incidents := by
    simpa using Table.image_upd hf t.incidents n
  exact ⟨by simp, by simp, by simp, by simp, by simp, by simp, hi, by simp [State.pointsSound]⟩

theorem Stands.putIncident (h : Stands s t) {n : Nat} {i j : Incident} (hj : Table.at? t.incidents n = some j)
    (hij : i.segment = j.segment) : Stands s (t.putIncident n i) := by
  refine h.trans ⟨fun hk => ?_⟩
  have hi : Table.image Incident.segment (t.putIncident n i).incidents = Table.image Incident.segment t.incidents := by
    simpa using Table.image_put hk.incidents hj hij
  exact ⟨by simp, by simp, by simp, by simp, by simp, by simp, hi, by simp [State.pointsSound]⟩

theorem Stands.updPoint (h : Stands s t) {n : Nat} {f : Point → Point} (hf : ∀ p, (f p).segment = p.segment)
    (hs : ∀ p, p.sound → (f p).sound) : Stands s (t.updPoint n f) := by
  refine h.trans ⟨fun _ => ?_⟩
  have hp : Table.image Point.segment (t.updPoint n f).points = Table.image Point.segment t.points := by
    simpa using Table.image_upd hf t.points n
  refine ⟨by simp, by simp, by simp, by simp, by simp, hp, by simp, fun hall m p hm => ?_⟩
  simp only [updPoint_frame, Table.at?_upd] at hm
  split at hm
  · obtain ⟨q, hq, rfl⟩ := Option.map_eq_some_iff.1 hm
    exact hs q (hall m q hq)
  · exact hall m p hm

theorem Stands.putPoint (h : Stands s t) {n : Nat} {p q : Point} (hq : Table.at? t.points n = some q)
    (hpq : p.segment = q.segment) (hs : q.sound → p.sound) : Stands s (t.putPoint n p) := by
  refine h.trans ⟨fun hk => ?_⟩
  have hp : Table.image Point.segment (t.putPoint n p).points = Table.image Point.segment t.points := by
    simpa using Table.image_put hk.points hq hpq
  refine ⟨by simp, by simp, by simp, by simp, by simp, hp, by simp, fun hall m r hm => ?_⟩
  simp only [putPoint_frame, Table.at?_put] at hm
  split at hm
  · obtain rfl : p = r := by simpa using hm
    exact hs (hall n q hq)
  · exact hall m r hm

/-! ## Incident Register -/

theorem markIncident_stands (h : Stands s t) {n : Nat} : Stands s (markIncident n t) := h.frame (by simp)

theorem regradeIncident_stands (h : Stands s t) {n : Nat} : Stands s (regradeIncident n t) := by
  unfold regradeIncident
  split
  · exact h
  · rename_i i hi
    exact .ite h (markIncident_stands (h.putIncident hi (by simp [regraded, Incident.gradedBy])))

theorem regradeSegment_stands (h : Stands s t) {n : Nat} : Stands s (regradeSegment n t) :=
  .foldl (fun h => regradeIncident_stands h) h

theorem regradePlanIncident_stands (h : Stands s t) {i : Option Nat} : Stands s (regradePlanIncident i t) := by
  cases i with
  | none => exact h
  | some n => exact regradeIncident_stands h

theorem setSafety_stands (h : Stands s t) {n : Nat} {f : Safety → Safety} : Stands s (setSafety n f t) := by
  unfold setSafety
  split
  · exact h
  · rename_i i hi
    exact .ite h (markIncident_stands (h.putIncident hi (by rfl)))

theorem planEvent_stands (h : Stands s t) {e : PlanEvent} {i : Option Nat} : Stands s (planEvent e i t) := by
  cases i with
  | none => exact h
  | some n => exact setSafety_stands h

/-! ## Verification Unit -/

theorem setTest_stands (h : Stands s t) {p : Nat} {x : DecayTest} : Stands s (setTest p x t) := h.frame (by simp)

theorem setVerdict_stands (h : Stands s t) {p : Nat} {v : Verdict} : Stands s (setVerdict p v t) := by
  unfold setVerdict
  split
  · exact h
  · refine .ite h ?_
    cases v with
    | none => exact h
    | untested => exact h.frame (by simp)
    | tight => exact planEvent_stands (h.frame (by simp))
    | passing => exact regradePlanIncident_stands (planEvent_stands (h.frame (by simp)))

theorem startTest_stands (h : Stands s t) {p : Nat} : Stands s (startTest p t) := by
  unfold startTest
  split
  · exact h
  · exact .ite (setVerdict_stands (setTest_stands h)) (setTest_stands h)

theorem dropEntry_stands (h : Stands s t) {n p : Nat} : Stands s (dropEntry n p t) := by
  unfold dropEntry
  split
  · exact h
  · split
    · exact .ite (h.frame (by simp)) (setVerdict_stands (h.frame (by simp)))
    · exact h

theorem dropPoint_stands (h : Stands s t) {n : Nat} : Stands s (dropPoint n t) :=
  .foldl (fun h => dropEntry_stands h) h

theorem testReading_stands (h : Stands s t) {n x : Nat} {c : Condition} {p : Nat} :
    Stands s (testReading n x c p t) := by
  unfold testReading
  split
  · exact h
  · split
    · exact .ite (dropEntry_stands h) (.ite (setVerdict_stands (setTest_stands h)) (setTest_stands h))
    · exact h

theorem testReadings_stands (h : Stands s t) {n x : Nat} {c : Condition} : Stands s (testReadings n x c t) :=
  .foldl (fun h => testReading_stands h) h

theorem endWindow_stands (h : Stands s t) {p : Nat} : Stands s (endWindow p t) := by
  unfold endWindow
  split
  · exact h
  · split
    · exact .ite (setVerdict_stands (setTest_stands h)) h
    · exact h

theorem endWindows_stands (h : Stands s t) : Stands s (endWindows t) := .foldl (fun h => endWindow_stands h) h

/-! ## Order Unit -/

theorem changeValve_stands (h : Stands s t) {f : Valve → Valve} (hf : ∀ a, (f a).site = a.site) {v : Nat} :
    Stands s (changeValve v f t) := (h.updValve (n := v) hf).frame (by simp [changeValve])

theorem queueOrder_stands (h : Stands s t) {v : Nat} : Stands s (queueOrder v t) := by
  unfold queueOrder
  split
  · exact h
  · exact .ite (changeValve_stands (h.frame (by simp)) (by exact fun _ => rfl)) (changeValve_stands h (by exact fun _ => rfl))

theorem settleOrder_stands (h : Stands s t) {st : OrderStatus} {v : Nat} : Stands s (settleOrder st v t) :=
  changeValve_stands h (by exact fun _ => rfl)

theorem removeOrder_stands (h : Stands s t) {a : Valve} : Stands s (removeOrder a t) := h.frame (by simp)

theorem queueIfOwed_stands (h : Stands s t) {v : Nat} : Stands s (queueIfOwed v t) :=
  .ite (queueOrder_stands h) (settleOrder_stands h)

theorem drawWaitingFrom_stands (h : Stands s t) {k : Nat} : Stands s (drawWaitingFrom k t) := by
  induction k generalizing t with
  | zero => exact h
  | succ k ih =>
    unfold drawWaitingFrom
    split
    · split
      · exact h
      · exact ih (queueIfOwed_stands (settleOrder_stands h))
    · exact h

theorem drawWaiting_stands (h : Stands s t) : Stands s (drawWaiting t) := drawWaitingFrom_stands h

theorem wantedChange_stands (h : Stands s t) {v : Nat} : Stands s (wantedChange v t) := by
  unfold wantedChange
  split
  · exact h
  · refine .ite (.ite h (changeValve_stands h (by exact fun _ => rfl))) (.ite h ?_)
    split
    · exact queueIfOwed_stands (settleOrder_stands (removeOrder_stands h))
    · exact h
    · exact .ite h (queueIfOwed_stands h)

theorem wantedChanges_stands (h : Stands s t) {l : List Nat} : Stands s (wantedChanges l t) := by
  have h1 : Stands s (l.foldl (fun s v => wantedChange v s) t) := .foldl (fun h => wantedChange_stands h) h
  exact .ite (drawWaiting_stands h1) h1

theorem completeOrder_stands (h : Stands s t) {v : Nat} {a : Valve} {o : Order} :
    Stands s (completeOrder v a o t) := by
  have h1 : Stands s (settleOrder .none v (removeOrder a t)) := settleOrder_stands (removeOrder_stands h)
  exact .ite (queueIfOwed_stands h1) h1

theorem failPlans_stands (h : Stands s t) {v : Nat} : Stands s (failPlans v t) := h.frame (by simp)

theorem clearFailed_stands (h : Stands s t) {v : Nat} : Stands s (clearFailed v t) := h.frame (by simp)

theorem timeOutOrder_stands (h : Stands s t) {n : Nat} : Stands s (timeOutOrder n t) := by
  unfold timeOutOrder
  split
  · exact h
  · exact failPlans_stands (settleOrder_stands (h.frame (by simp)))

theorem timeOutOrders_stands (h : Stands s t) : Stands s (timeOutOrders t) := by
  unfold timeOutOrders
  dsimp only
  split
  · exact h
  · have h1 : Stands s ((Table.keys (t.orders.filter (fun r => r.2.state = .fetched &&
        r.2.expiry.any (fun e => e ≤ t.now)))).foldl (fun s n => timeOutOrder n s) t) :=
      .foldl (fun h => timeOutOrder_stands h) h
    exact drawWaiting_stands (h1.frame (by simp))

/-! ## Plan Engine -/

theorem changeHold_stands (h : Stands s t) {f : Nat → Nat} {v : Nat} : Stands s (changeHold f t v) :=
  Stands.frame (h.updValve (n := v) (f := fun a => { a with hold := f a.hold }) (by exact fun _ => rfl))
    (by simp [changeHold])

theorem changeHolds_stands (h : Stands s t) {r l : List Nat} : Stands s (changeHolds r l t) :=
  .foldl (fun h => changeHold_stands h) (.foldl (fun h => changeHold_stands h) h)

theorem transferCore_stands (h : Stands s t) {p : Nat} : Stands s (transferCore p t).1 := by
  unfold transferCore
  split
  · exact h
  · extract_lets raised lowered s1 q1 s2 s3 s4 s5 s6 s7 s8
    have h2 : Stands s s2 := (changeHolds_stands h).frame (t := s1) (by simp [s2])
    have h3 : Stands s s3 := .ite (startTest_stands h2) h2
    have h4 : Stands s s4 := wantedChanges_stands h3
    have h5 : Stands s s5 := h4.frame (by simp [s5])
    have h6 : Stands s s6 := .ite (planEvent_stands h5) h5
    have h7 : Stands s s7 := .ite (planEvent_stands h6) h6
    exact .ite (regradePlanIncident_stands h7) h7

theorem completeRelease_stands (h : Stands s t) {p : Nat} : Stands s (completeRelease p t) := h.frame (by simp)

theorem testRelease_stands (h : Stands s t) {k p : Nat} : Stands s (testRelease k p t) := by
  induction k generalizing p t with
  | zero => exact h
  | succ k ih =>
    unfold testRelease
    split
    · exact h
    · have h1 : Stands s (completeRelease p t) := completeRelease_stands h
      exact .ite (.ite (.foldl (fun h => ih h) (transferCore_stands h1)) h1) h

theorem testPlan_stands (h : Stands s t) {p : Nat} : Stands s (testPlan p t) := testRelease_stands h

theorem transfer_stands (h : Stands s t) {p : Nat} : Stands s (transfer p t) :=
  .foldl (fun h => testPlan_stands h) (transferCore_stands h)

theorem becomeSecured_stands (h : Stands s t) {p : Nat} : Stands s (becomeSecured p t) := by
  have h1 : Stands s (markPlan p (t.updPlan p (fun q => { q with activeState := .secured }))) := h.frame (by simp)
  exact .ite (transfer_stands h1) (startTest_stands h1)

theorem returnToIssuing_stands (h : Stands s t) {p : Nat} {q : Plan} : Stands s (returnToIssuing p q t) := by
  unfold returnToIssuing
  extract_lets s1 s2
  have h1 : Stands s s1 := h.frame (by simp [s1])
  have h2 : Stands s s2 := .ite (planEvent_stands h1) h1
  exact .ite (regradePlanIncident_stands h2) h2

theorem reevaluate_stands (h : Stands s t) {v p : Nat} : Stands s (reevaluate v p t) := by
  unfold reevaluate
  split
  · exact h
  · refine .ite h ?_
    split
    · exact h
    · exact .ite (becomeSecured_stands h) h
    · exact .ite (returnToIssuing_stands h) h
    · exact .ite (returnToIssuing_stands h) h
    · exact .ite (returnToIssuing_stands h) h
    · exact testPlan_stands h

theorem positionChanged_stands (h : Stands s t) {v : Nat} : Stands s (positionChanged v t) :=
  .foldl (fun h => reevaluate_stands h) h

theorem operabilityChanged_stands (h : Stands s t) {v : Nat} : Stands s (operabilityChanged v t) :=
  .foldl (fun h => testPlan_stands h) h

theorem release_stands (h : Stands s t) {p : Nat} : Stands s (release p t) := by
  unfold release
  split
  · exact h
  · extract_lets s1 s2 s3 s4 s5
    have h2 : Stands s s2 := (changeHolds_stands h).frame (t := s1) (by simp [s2])
    have h4 : Stands s s4 := .foldl (fun h => testPlan_stands h) (wantedChanges_stands h2)
    have h5 : Stands s s5 := .ite (regradePlanIncident_stands h4) h4
    exact testPlan_stands h5

/-! ## Position reports -/

theorem writeReport_stands (h : Stands s t) {v : Nat} {a : Valve} (ha : Table.at? t.valves v = some a) {r : Reported} :
    Stands s (writeReport v a r t) := by
  have h1 : Stands s (t.putValve v (a.reportedAt r t.now)) := h.putValve ha (by rfl)
  exact .ite (h1.frame (by simp)) h1

theorem orderSteps_stands (h : Stands s t) {v : Nat} {a : Valve} {r : Reported} : Stands s (orderSteps v a r t) := by
  unfold orderSteps
  split
  · exact drawWaiting_stands (completeOrder_stands h)
  · exact .ite ((queueOrder_stands h (v := v)).frame (by simp)) h

theorem trigger_stands (h : Stands s t) : Stands s (trigger t) := h.frame (by simp)

theorem positionReport_stands (h : Stands s t) {v : Nat} {r : Reported} : Stands s (positionReport v r t) := by
  unfold positionReport
  split
  · exact h
  · rename_i a ha
    extract_lets s1 s2
    have h1 : Stands s s1 := orderSteps_stands (writeReport_stands h ha)
    have h2 : Stands s s2 := .ite (positionChanged_stands h1) h1
    exact .ite (trigger_stands h2) h2

theorem loseValve_stands (h : Stands s t) {v : Nat} : Stands s (loseValve v t) :=
  .ite (changeValve_stands h (by exact fun _ => rfl)) h

/-! ## Pressure Supervisor -/

theorem setCondition_stands (h : Stands s t) {n : Nat} {c : Condition} : Stands s (setCondition n c t) := by
  unfold setCondition
  split
  · extract_lets s1
    have h1 : Stands s s1 := Stands.frame (h.updPoint (n := n) (f := fun p => { p with condition := c })
      (by exact fun _ => rfl) (by exact fun _ hp => hp)) (by simp [s1])
    exact .ite (dropPoint_stands h1) h1
  · exact h

theorem applySelection_stands (h : Stands s t) {n : Nat} {c : Option Nat} : Stands s (applySelection n c t) := by
  unfold applySelection
  split
  · exact h
  · rename_i p hp
    exact setCondition_stands (h.putPoint hp (by rfl) (by exact fun hs => hs))

theorem reselectPoint_stands (h : Stands s t) {r : Option Nat} {n : Nat} : Stands s (reselectPoint r n t) := by
  unfold reselectPoint
  split
  · exact h
  · exact .ite h (applySelection_stands h)

theorem reselect_stands (h : Stands s t) {r : Option Nat} {w : Point → Bool} : Stands s (reselect r w t) :=
  .foldl (fun h => reselectPoint_stands h) h

theorem periodChanged_stands (h : Stands s t) {c : Clock} : Stands s (periodChanged c t) :=
  .ite (reselect_stands h) h

theorem firstSelection_stands (h : Stands s t) {n : Nat} : Stands s (firstSelection n t) := by
  unfold firstSelection
  split
  · exact h
  · rename_i p hp
    exact applySelection_stands (h.putPoint hp (by rfl) (by exact fun hs => hs))

theorem stalePoints_stands (h : Stands s t) : Stands s (stalePoints t) := .foldl (fun h => setCondition_stands h) h

theorem recalibrate_stands (h : Stands s t) {n : Nat} {z g : Option Nat} : Stands s (recalibrate n z g t) := by
  have h1 : Stands s (t.updPoint n (fun p =>
      { p with zero := z.getD p.zero, gain := g.getD p.gain, lastPressure := none, valid := false,
               candidate := none, count := 0 })) :=
    h.updPoint (by exact fun _ => rfl) (by simp [Point.sound])
  exact .ite (setCondition_stands h1) h1

theorem regroup_stands (h : Stands s t) {n g : Nat} : Stands s (regroup n g t) := by
  have h1 : Stands s (t.updPoint n (fun p => { p with group := g })) :=
    h.updPoint (by exact fun _ => rfl) (by exact fun _ hp => hp)
  exact .ite (reselectPoint_stands h1) h1

theorem alterFields_stands (h : Stands s t) {n : Nat} {z g group k hyst stale : Option Nat} :
    Stands s (alterFields n z g group k hyst stale t) := by
  unfold alterFields
  extract_lets s1 s2
  have h1 : Stands s s1 := .ite (recalibrate_stands h) h
  have h2 : Stands s s2 := by
    cases group with
    | none => exact h1
    | some x => exact regroup_stands h1
  exact Stands.frame (h2.updPoint (n := n) (f := fun p => { p with
    persistence := (k.map (clamp 1 15)).getD p.persistence
    hysteresis := hyst.getD p.hysteresis
    staleLimit := (stale.map (clamp 1 60)).getD p.staleLimit })
    (by exact fun _ => rfl) (by exact fun _ hp => hp)) (by simp)

theorem writeProfile_stands (h : Stands s t) {n : Nat} {e : Profile} : Stands s (writeProfile n e t) := by
  have h1 : Stands s (t.setProfiles (Table.put t.profiles n e)) := h.frame (by simp)
  exact .ite (reselect_stands h1) h1

/-! ## Timed work -/

theorem overdueIncidents_stands (h : Stands s t) : Stands s (overdueIncidents t) :=
  .foldl (fun h => markIncident_stands (h.updIncident (by exact fun _ => rfl))) h

theorem attend_stands (h : Stands s t) {a : Attendance} {n : Nat} : Stands s (attend a n t) :=
  Stands.frame (h.updIncident (n := n) (f := fun i => { i with attendance := a, offerDesk := none, offerExpiry := none })
    (by exact fun _ => rfl)) (by simp [attend])

theorem clearOffer_stands (h : Stands s t) {d : Nat} : Stands s (clearOffer d t) := h.frame (by simp)

theorem expireOffer_stands (h : Stands s t) {d : Nat} : Stands s (expireOffer d t) := by
  unfold expireOffer
  split
  · exact h
  · exact .ite (attend_stands (clearOffer_stands h)) h

theorem expireOffers_stands (h : Stands s t) : Stands s (expireOffers t) := .foldl (fun h => expireOffer_stands h) h

theorem workOf_stands (h : Stands s t) {w : TimedWork} : Stands s (workOf w t) := by
  cases w with
  | staleness => exact stalePoints_stands h
  | overdue => exact overdueIncidents_stands h
  | expiry => exact expireOffers_stands h
  | timeout => exact timeOutOrders_stands h
  | windowEnd => exact endWindows_stands h

theorem doWork_stands (h : Stands s t) {w : TimedWork} : Stands s (doWork w t) :=
  .ite (workOf_stands (h.frame (by simp))) h

theorem settle_stands (h : Stands s t) {l : List TimedWork} : Stands s (settle l t) :=
  .foldl (fun h => doWork_stands h) h

theorem secondEvent_stands (h : Stands s t) : Stands s (secondEvent t) :=
  periodChanged_stands ((settle_stands h (l := allWork)).frame (by simp))

/-! ## Actions on items and requests -/

theorem linkDown_stands (h : Stands s t) {n : Nat} : Stands s (linkDown n t) :=
  .foldl (fun h => loseValve_stands h) (.foldl (fun h => setCondition_stands h) (h.frame (by simp)))

theorem joinIncident_stands (h : Stands s t) {n : Nat} {e : CallEntry} : Stands s (joinIncident n e t) :=
  markIncident_stands (regradeIncident_stands (h.updIncident (by exact fun _ => rfl)))

theorem adjustIncident_stands (h : Stands s t) {n : Nat} {a : Int} : Stands s (adjustIncident n a t) := by
  have h1 : Stands s (regradeIncident n (t.updIncident n (fun i => { i with adjustment := a }))) :=
    regradeIncident_stands (h.updIncident (by exact fun _ => rfl))
  exact .ite (markIncident_stands h1) h1

theorem withdrawOffer_stands (h : Stands s t) {d : Nat} : Stands s (withdrawOffer d t) := by
  unfold withdrawOffer
  split
  · exact h
  · exact attend_stands (clearOffer_stands h)

theorem makeOffer_stands (h : Stands s t) {d n : Nat} : Stands s (makeOffer d n t) :=
  Stands.frame (h.updIncident (n := n) (f := fun i => i.offeredTo d (addSeconds t.now t.dispatch.offerTime))
    (by exact fun _ => rfl)) (by simp [makeOffer])

theorem sendCrew_stands (h : Stands s t) {d n : Nat} : Stands s (sendCrew d n t) := by
  unfold sendCrew
  split
  · exact attend_stands h
  · exact attend_stands (clearOffer_stands h)
  · exact h

theorem crewOnSite_stands (h : Stands s t) {n : Nat} : Stands s (crewOnSite n t) := by
  unfold crewOnSite
  split
  · exact h
  · exact .ite h (attend_stands (h.frame (by simp)))

theorem linkIncident_stands (h : Stands s t) {i p : Option Nat} : Stands s (linkIncident i p t) := by
  cases i with
  | none => exact h
  | some n => exact markIncident_stands (h.updIncident (by exact fun _ => rfl))

theorem discardPlan_stands (h : Stands s t) {p : Nat} {q : Plan} : Stands s (discardPlan p q t) :=
  (linkIncident_stands h (i := q.incident) (p := none)).frame (by simp [discardPlan])

theorem takeOrder_stands (h : Stands s t) {n : Nat} {o : Order} : Stands s (takeOrder n o t) :=
  changeValve_stands (h.frame (by simp)) (by exact fun _ => rfl)

theorem withdraw_stands (h : Stands s t) {n v : Nat} : Stands s (withdraw n v t) := by
  have h1 : Stands s (drawWaiting (settleOrder .stalled v (t.setOrders (Table.del t.orders n)))) :=
    drawWaiting_stands (settleOrder_stands (h.frame (by simp)))
  exact h1.frame (by simp [withdraw, silently])

theorem reissue_stands (h : Stands s t) {v : Nat} : Stands s (reissue v t) := by
  unfold reissue
  split
  · exact h
  · exact .ite (clearFailed_stands (queueIfOwed_stands h)) (.ite (queueOrder_stands h) h)

theorem dropOrder_stands (h : Stands s t) {v : Nat} {a : Valve} : Stands s (dropOrder v a t) := by
  unfold dropOrder
  split
  · exact settleOrder_stands (removeOrder_stands h)
  · exact settleOrder_stands h
  · exact h
  · exact h
  · exact h

theorem declare_stands (h : Stands s t) {v : Nat} : Stands s (declare v t) := by
  unfold declare
  split
  · exact h
  · refine .ite h ?_
    extract_lets s1 s2
    have h1 : Stands s s1 := dropOrder_stands (changeValve_stands h (by exact fun _ => rfl))
    have h2 : Stands s s2 := operabilityChanged_stands (h1.frame (by simp))
    exact .ite (drawWaiting_stands h2) h2

theorem restore_stands (h : Stands s t) {v : Nat} : Stands s (restore v t) := by
  unfold restore
  split
  · exact h
  · refine .ite h ?_
    extract_lets s1 s2
    have h2 : Stands s s2 :=
      operabilityChanged_stands (wantedChanges_stands (changeValve_stands h (by exact fun _ => rfl)))
    exact .ite (clearFailed_stands h2) h2

end

end Sys2Proof.Machine
end

section
/-! SUPPORT. What the laws of R2, R6, R11, R39, R71, R76, R77 and R87 read of the tables: a law holds on where what
it reads stays. A step upholds the laws where each of them holds on. -/

namespace Sys2Proof.Machine

/-! ## What each law reads -/

/-- The lists of a segment (R2). -/
def Segment.lists (g : Segment) : List Nat × List Nat := (g.valveList, g.pointList)

/-- What the laws of the outage records read of a segment (R71). -/
def Segment.supplyFields (g : Segment) : Supply × Option Nat × Nat × Nat := (g.supply, g.outage, g.relit, g.customers)

section
variable {s u : State}

theorem endsLegal_of_views (hm : u.model = s.model) (hg : Table.keys u.segments = Table.keys s.segments)
    (hv : Table.image Valve.site u.valves = Table.image Valve.site s.valves) (h : s.endsLegal) : u.endsLegal := by
  intro hr v a ha
  obtain ⟨b, hb, hab⟩ := Table.exists_of_image hv ha
  obtain ⟨-, hA, hB⟩ : b.kind = a.kind ∧ b.endA = a.endA ∧ b.endB = a.endB := by simpa [Valve.site] using hab
  simpa only [Table.has_of_keys hg, hA, hB] using h (hm ▸ hr) v b hb

theorem which_ends_of_views (hv : Table.image Valve.site u.valves = Table.image Valve.site s.valves) (n : Nat) :
    Table.which u.valves (fun a => a.ends n) = Table.which s.valves (fun a => a.ends n) :=
  Table.which_of_image hv (fun x => decide (x.2.1 = some n) || decide (x.2.2 = n))

theorem which_segment_of_views (hp : Table.image Point.segment u.points = Table.image Point.segment s.points)
    (n : Nat) : Table.which u.points (fun p => p.segment = n) = Table.which s.points (fun p => p.segment = n) :=
  Table.which_of_image hp (fun k => decide (k = n))

theorem openIncidents_of_views
    (hi : Table.image Incident.segment u.incidents = Table.image Incident.segment s.incidents) (n : Nat) :
    openIncidents u n = openIncidents s n :=
  Table.which_of_image hi (fun k => decide (k = n))

theorem stops_of_views (hv : Table.image Valve.site u.valves = Table.image Valve.site s.valves) :
    Table.count u.valves (fun a => a.kind = .stop) = Table.count s.valves (fun a => a.kind = .stop) :=
  Table.count_of_image hv (fun x => decide (x.1 = .stop))

theorem listsLegal_of_views (hm : u.model = s.model)
    (hg : Table.image Segment.lists u.segments = Table.image Segment.lists s.segments)
    (hv : Table.image Valve.site u.valves = Table.image Valve.site s.valves)
    (hp : Table.image Point.segment u.points = Table.image Point.segment s.points) (h : s.listsLegal) :
    u.listsLegal := by
  obtain ⟨hload, hrun⟩ := h
  refine ⟨fun hr n g hn => ?_, fun hr => ⟨fun n g hn => ?_, fun n p hn => ?_⟩⟩
  · obtain ⟨g', hn', e⟩ := Table.exists_of_image hg hn
    obtain ⟨h1, h2⟩ := Prod.mk.inj e
    simpa only [h1, h2] using hload (hm ▸ hr) n g' hn'
  · obtain ⟨g', hn', e⟩ := Table.exists_of_image hg hn
    obtain ⟨h1, h2⟩ := Prod.mk.inj e
    simpa only [h1, h2, which_ends_of_views hv, which_segment_of_views hp] using (hrun (hm ▸ hr)).1 n g' hn'
  · obtain ⟨q, hn', e⟩ := Table.exists_of_image hp hn
    simpa only [e, Table.has_of_keys (Table.keys_of_image hg)] using (hrun (hm ▸ hr)).2 n q hn'

theorem countsLegal_of_views (hc : u.stopCount = s.stopCount)
    (hg : Table.image Segment.openIncidents u.segments = Table.image Segment.openIncidents s.segments)
    (hv : Table.image Valve.site u.valves = Table.image Valve.site s.valves)
    (hi : Table.image Incident.segment u.incidents = Table.image Incident.segment s.incidents)
    (hp : s.pointsSound → u.pointsSound) (h : s.countsLegal) : u.countsLegal := by
  obtain ⟨hstop, hcap, hinc, hopen, hsound⟩ := h
  refine ⟨?_, by rwa [hc], fun n i hn => ?_, fun n g hn => ?_, hp hsound⟩
  · rw [hc, hstop, stops_of_views hv]
  · obtain ⟨j, hj, e⟩ := Table.exists_of_image hi hn
    rw [Table.has_of_keys (Table.keys_of_image hg), ← e]
    exact hinc n j hj
  · obtain ⟨g', hn', e⟩ := Table.exists_of_image hg hn
    rw [← e, openIncidents_of_views hi]
    exact hopen n g' hn'

/-- What the members of a record show of it is the list of their supply fields. -/
theorem members_supplyFields (s : State) (o : Nat) : (members s o).map (fun r => r.2.supplyFields) =
    ((Table.image Segment.supplyFields s.segments).filter (fun r => r.2.2.1 = some o)).map Prod.snd := by
  simp [members, Table.image, List.filter_map, Function.comp_def, Segment.supplyFields]

theorem outageLegal_of_members {n : Nat} {o : Outage}
    (hm : (members u n).map (fun r => r.2.supplyFields) = (members s n).map (fun r => r.2.supplyFields))
    (h : o.legal s n) : o.legal u n := by
  have key {β : Type} (f : Supply × Option Nat × Nat × Nat → β) :
      (members u n).map (fun r => f r.2.supplyFields) = (members s n).map (fun r => f r.2.supplyFields) := by
    simpa [Function.comp_def] using congrArg (List.map f) hm
  have hlen : (members u n).length = (members s n).length := by simpa using congrArg List.length hm
  have hc : (members u n).map (fun r => r.2.customers) = (members s n).map (fun r => r.2.customers) :=
    key (fun x => x.2.2.2)
  have hr : (members u n).map (fun r => r.2.relit) = (members s n).map (fun r => r.2.relit) := key (fun x => x.2.2.1)
  have hs : (∃ r ∈ members u n, r.2.supply = .unsupplied) ↔ ∃ r ∈ members s n, r.2.supply = .unsupplied := by
    have hmap : (members u n).map (fun r => r.2.supply) = (members s n).map (fun r => r.2.supply) :=
      key (fun x => x.1)
    rw [← List.mem_map (f := fun r : Nat × Segment => r.2.supply), hmap, List.mem_map]
  unfold Outage.legal at h ⊢
  simpa only [ne_eq, ← List.length_eq_zero_iff, hlen, hc, hr, hs] using h

theorem outagesLegal_of_views
    (hg : Table.image Segment.supplyFields u.segments = Table.image Segment.supplyFields s.segments)
    (ho : u.outages = s.outages) (h : s.outagesLegal) : u.outagesLegal := by
  obtain ⟨hseg, hout⟩ := h
  refine ⟨fun n g hn => ?_, fun n o hn => ?_⟩
  · obtain ⟨g', hn', e⟩ := Table.exists_of_image hg hn
    obtain ⟨h1, h2, h3, h4⟩ : g'.supply = g.supply ∧ g'.outage = g.outage ∧ g'.relit = g.relit ∧
        g'.customers = g.customers := by simpa [Segment.supplyFields] using e
    simpa only [h1, h2, h3, h4, ho] using hseg n g' hn'
  · refine outageLegal_of_members ?_ (hout n o (ho ▸ hn))
    rw [members_supplyFields, members_supplyFields, hg]

end

/-! ## Upholding the laws -/

/-- With rising tables, the laws of ends, lists and counts that hold in `s` hold in `u`. -/
structure UpholdsNetwork (s u : State) : Prop where
  keysRise : s.keysRise → u.keysRise
  ends : s.keysRise → s.endsLegal → u.endsLegal
  lists : s.keysRise → s.endsLegal → s.listsLegal → u.listsLegal
  counts : s.keysRise → s.endsLegal → s.countsLegal → u.countsLegal

/-- With rising tables, the laws that hold in `s` hold in `u`, those of the outage records with them. -/
structure Upholds (s u : State) : Prop extends UpholdsNetwork s u where
  outages : s.keysRise → s.outagesLegal → u.outagesLegal

theorem UpholdsNetwork.trans {s t u : State} (h : UpholdsNetwork s t) (h' : UpholdsNetwork t u) :
    UpholdsNetwork s u where
  keysRise k := h'.keysRise (h.keysRise k)
  ends k e := h'.ends (h.keysRise k) (h.ends k e)
  lists k e l := h'.lists (h.keysRise k) (h.ends k e) (h.lists k e l)
  counts k e c := h'.counts (h.keysRise k) (h.ends k e) (h.counts k e c)

theorem Upholds.trans {s t u : State} (h : Upholds s t) (h' : Upholds t u) : Upholds s u where
  toUpholdsNetwork := h.toUpholdsNetwork.trans h'.toUpholdsNetwork
  outages k o := h'.outages (h.keysRise k) (h.outages k o)

/-- A step that leaves the network upholds its laws. -/
theorem Stands.upholds {s u : State} (h : Stands s u) : Upholds s u where
  keysRise k := (h.sameNetwork k).keysRise k
  ends k := by
    have n := h.sameNetwork k
    exact endsLegal_of_views n.model (by rw [n.segments]) n.valves
  lists k _ := by
    have n := h.sameNetwork k
    exact listsLegal_of_views n.model (by rw [n.segments]) n.valves n.points
  counts k _ := by
    have n := h.sameNetwork k
    exact countsLegal_of_views n.stopCount (by rw [n.segments]) n.valves n.incidents n.sound
  outages k := by
    have n := h.sameNetwork k
    exact outagesLegal_of_views (by rw [n.segments]) n.outages

theorem Upholds.refl (s : State) : Upholds s s := (Stands.refl s).upholds

/-- The laws are upheld on, through an operation that leaves the network. -/
theorem Upholds.stands {s t u : State} (h : Upholds s t) (h' : Stands t u) : Upholds s u := h.trans h'.upholds

theorem Upholds.ite {c : Prop} [Decidable c] {s a b : State} (ha : Upholds s a) (hb : Upholds s b) :
    Upholds s (if c then a else b) := by
  split
  · exact ha
  · exact hb

end Sys2Proof.Machine
end

section
/-! SUPPORT. The laws across the making and the retiring of an incident, and the readings that may make one. -/

namespace Sys2Proof.Machine

/-! ## Open incident counts (R87) -/

theorem length_openIncidents (s : State) (m : Nat) :
    (openIncidents s m).length = Table.count s.incidents (fun i => i.segment = m) := Table.length_which _ _

theorem recountIncidents_image {β : Type} {f : Segment → β} (hf : ∀ (g : Segment) k, f { g with openIncidents := k } = f g)
    (m : Nat) (s : State) : Table.image f (recountIncidents m s).segments = Table.image f s.segments := by
  unfold recountIncidents
  dsimp only
  split
  · simpa using Table.image_upd (fun g => hf g _) s.segments m
  · rfl

theorem recountIncidents_at?_ne {m k : Nat} (h : k ≠ m) (s : State) :
    Table.at? (recountIncidents m s).segments k = Table.at? s.segments k := by
  unfold recountIncidents
  dsimp only
  split
  · simp [Table.at?_upd, h]
  · rfl

/-- The count of the segment counted again is that of its incidents. -/
theorem recountIncidents_self {m : Nat} {s : State} {g : Segment}
    (h : Table.at? (recountIncidents m s).segments m = some g) :
    g.openIncidents = min 255 (openIncidents s m).length := by
  unfold recountIncidents at h
  dsimp only at h
  split at h
  · simp only [flag_frame, updSegment_frame, Table.at?_upd, if_true] at h
    obtain ⟨g', -, rfl⟩ := Option.map_eq_some_iff.1 h
    rfl
  · rename_i hne
    simpa [Table.test_some h] using hne

/-- Where all counts but one stand, counting that one again makes all of them stand. -/
theorem openIncidents_recountIncidents {m : Nat} {s : State}
    (h : ∀ k g, k ≠ m → Table.at? s.segments k = some g → g.openIncidents = min 255 (openIncidents s k).length) :
    ∀ k g, Table.at? (recountIncidents m s).segments k = some g →
      g.openIncidents = min 255 (openIncidents (recountIncidents m s) k).length := by
  intro k g hk
  have hi : openIncidents (recountIncidents m s) k = openIncidents s k := by simp [openIncidents]
  rw [hi]
  by_cases e : k = m
  · subst e; exact recountIncidents_self hk
  · exact h k g e (recountIncidents_at?_ne e s ▸ hk)

/-! ## Making and retiring -/

/-- A change of the incident table, with the one count that it touches taken again, upholds the laws. -/
theorem recounted_upholds {s u : State} {m : Nat} {x : Table Incident}
    (hu : u.model = s.model ∧ u.stopCount = s.stopCount ∧ u.valves = s.valves ∧ u.points = s.points ∧
      u.outages = s.outages ∧ u.incidents = x)
    (hseg : u.segments = (recountIncidents m (s.setIncidents x)).segments)
    (hrise : s.keysRise → Table.rises x)
    (hinc : ∀ n i, Table.at? x n = some i → Table.at? s.incidents n = some i ∨ i.segment = m ∧ Table.has s.segments m = true)
    (hcount : s.keysRise → ∀ k, k ≠ m →
      Table.count x (fun i => i.segment = k) = Table.count s.incidents (fun i => i.segment = k)) : Upholds s u := by
  obtain ⟨hm, hc, hv, hp, ho, hi⟩ := hu
  have himage {β : Type} {f : Segment → β} (hf : ∀ (g : Segment) k, f { g with openIncidents := k } = f g) :
      Table.image f u.segments = Table.image f s.segments := by
    rw [hseg]; exact recountIncidents_image hf m (s.setIncidents x)
  have hkeys : Table.keys u.segments = Table.keys s.segments :=
    Table.keys_of_image (himage (f := Segment.lists) (fun _ _ => rfl))
  have hvi : Table.image Valve.site u.valves = Table.image Valve.site s.valves := by rw [hv]
  have hpi : Table.image Point.segment u.points = Table.image Point.segment s.points := by rw [hp]
  refine ⟨⟨fun k => ?_, fun _ => endsLegal_of_views hm hkeys hvi,
    fun _ _ => listsLegal_of_views hm (himage (fun _ _ => rfl)) hvi hpi, fun k _ h => ?_⟩,
    fun _ => outagesLegal_of_views (himage (fun _ _ => rfl)) ho⟩
  · exact ⟨Table.rises_of_keys k.segments hkeys, by rw [hv]; exact k.valves, by rw [hp]; exact k.points,
      by rw [hi]; exact hrise k, by rw [ho]; exact k.outages⟩
  · obtain ⟨hstop, hcap, hinc', hopen, hsound⟩ := h
    refine ⟨by rw [hc, hv, hstop], by rwa [hc], fun n i hn => ?_, fun n g hn => ?_, fun n p hn => hsound n p (hp ▸ hn)⟩
    · rw [Table.has_of_keys hkeys]
      rcases hinc n i (hi ▸ hn) with h | ⟨rfl, h⟩
      · exact hinc' n i h
      · exact h
    · have hon : openIncidents u n = openIncidents (recountIncidents m (s.setIncidents x)) n := by
        simp [openIncidents, hi]
      rw [hon]
      refine openIncidents_recountIncidents (fun k' g' hk' hg' => ?_) n g (hseg ▸ hn)
      rw [length_openIncidents, State.incidents_setIncidents, hcount k k' hk', ← length_openIncidents]
      exact hopen k' g' hg'

/-- An incident made in a free slot, for a segment in use, upholds the laws. -/
theorem makeIncident_upholds {n : Nat} {i : Incident} {s : State} (hn : Table.at? s.incidents n = none)
    (hs : Table.has s.segments i.segment = true) : Upholds s (makeIncident n i s) := by
  have hg : (graded s i).segment = i.segment := rfl
  refine recounted_upholds (m := i.segment) (x := Table.put s.incidents n (graded s i)) (by simp [makeIncident]) ?_
    (fun k => Table.rises_put k.incidents _ _) (fun m j hj => ?_) (fun _ k hk => ?_)
  · simp [makeIncident, State.putIncident]
  · rw [Table.at?_put] at hj
    split at hj
    · obtain rfl : graded s i = j := by simpa using hj
      exact .inr ⟨hg, hs⟩
    · exact .inl hj
  · rw [Table.count_put_free hn]
    simp [hg, Ne.symm hk]

/-- The retiring of an incident in use upholds the laws. -/
theorem retireIncident_upholds {n : Nat} {i : Incident} {s : State} (hn : Table.at? s.incidents n = some i) :
    Upholds s (retireIncident n i s) := by
  have h1 : Stands s (unlinkOffer i (unlinkPlan i.plan s)) := .of_frame (by simp)
  refine h1.upholds.trans (recounted_upholds (m := i.segment)
    (x := Table.del (unlinkOffer i (unlinkPlan i.plan s)).incidents n) (by simp [retireIncident]) ?_
    (fun k => Table.rises_del k.incidents _) (fun m j hj => ?_) (fun k m hm => ?_))
  · simp [retireIncident]
  · rw [Table.at?_del] at hj
    split at hj
    · simp at hj
    · exact .inl hj
  · have hn' : Table.at? (unlinkOffer i (unlinkPlan i.plan s)).incidents n = some i := by simpa using hn
    simpa [Ne.symm hm] using Table.count_del k.incidents hn' (fun j => decide (j.segment = m))

/-! ## Readings -/

theorem pressureRequest_upholds {seg : Nat} {s : State} (hs : Table.has s.segments seg = true) :
    Upholds s (pressureRequest seg s) := by
  unfold pressureRequest
  refine .ite (regradeSegment_stands (.refl s)).upholds ?_
  split
  · rename_i n hn
    exact makeIncident_upholds (Table.lowestFree_some hn).2.1 hs
  · exact Stands.upholds (.of_frame (by simp))

theorem bandHandOff_upholds (seg : Nat) (b : Band) (s : State) : Upholds s (bandHandOff seg b s) := by
  unfold bandHandOff
  split
  · rename_i h
    obtain ⟨g, hg, -⟩ := (Table.test_iff ..).1 (Bool.and_eq_true_iff.1 h).2
    exact pressureRequest_upholds (Table.has_some hg)
  · exact Stands.upholds (.ite (regradeSegment_stands (.refl s)) (.refl s))

theorem evaluateBand_upholds (n : Nat) (e : Profile) (p m : Nat) (s : State) : Upholds s (evaluateBand n e p m s) := by
  unfold evaluateBand
  split
  · exact .refl s
  · rename_i q hq
    dsimp only
    split
    · rename_i b hb
      refine .ite (Upholds.trans (Stands.upholds ?_) (bandHandOff_upholds _ _ _)) (Stands.upholds ?_)
      · exact Stands.frame (((Stands.refl s).putPoint (p := { q with band := b, candidate := none, count := 0 }) hq
          rfl (fun h => h))) (by simp)
      · exact (Stands.refl s).putPoint hq (by rfl) (by exact fun h => h)
    · exact Stands.upholds ((Stands.refl s).putPoint hq (by rfl) (by exact fun h => h))

theorem applyPressure_upholds (n : Nat) (c : Nat × Bool) (m : Nat) (s : State) : Upholds s (applyPressure n c m s) := by
  unfold applyPressure
  split
  · exact .refl s
  · extract_lets k s1 s2
    have h1 : Stands s s1 := setCondition_stands ((Stands.refl s).updPoint (by exact fun _ => rfl) (by simp [Point.sound]))
    have h2 : Upholds s s2 := by
      refine h1.upholds.trans ?_
      dsimp only [s2]
      split
      · exact evaluateBand_upholds _ _ _ _ _
      · exact .refl _
    exact h2.stands (testReadings_stands (.refl _))

theorem reading_upholds (n r : Nat) (s : State) : Upholds s (reading n r s) := by
  unfold reading
  split
  · exact .refl s
  · extract_lets s1
    have h1 : Stands s s1 := (Stands.refl s).updPoint (by exact fun _ => rfl) (by exact fun _ h => h)
    exact .ite (setCondition_stands h1).upholds (h1.upholds.trans (applyPressure_upholds _ _ _ _))

theorem holdReading_upholds (n k : Nat) (s : State) : Upholds s (holdReading n k s) := by
  unfold holdReading
  split
  · exact .refl s
  · split
    · extract_lets s1
      have h1 : Stands s s1 := (Stands.refl s).updPoint (by exact fun _ => rfl) (by exact fun _ h => h)
      exact .ite (Stands.upholds (.ite (setCondition_stands h1) h1))
        (h1.upholds.trans (applyPressure_upholds _ _ _ _))
    · exact .refl s

end Sys2Proof.Machine
end

section
/-! SUPPORT. The laws of the outage records across a change of a segment's fields, a recount, and the publication of
a pass: R71, R76 and R77. -/

namespace Sys2Proof.Machine

/-! ## Members of an outage record -/

/-- The segments that name outage record `o` with what their supply fields must be, whatever the records say. -/
def State.supplySound (s : State) : Prop := ∀ n g, Table.at? s.segments n = some g →
  (g.supply = .supplied → g.outage = none ∧ g.relit = 0) ∧ g.relit ≤ g.customers

/-- The outage record a segment names is in use (R71). -/
def State.outagesNamed (s : State) : Prop := ∀ n g o, Table.at? s.segments n = some g → g.outage = some o →
  Table.has s.outages o = true

/-- Segment `n` names outage record `o`. -/
def State.names (s : State) (n o : Nat) : Prop := ∃ g, Table.at? s.segments n = some g ∧ g.outage = some o

/-- Every outage record in use has a member (R76). -/
def State.outagesUsed (s : State) : Prop := ∀ o, Table.has s.outages o = true → ∃ n, s.names n o

theorem outagesLegal_iff {s : State} : s.outagesLegal ↔ s.supplySound ∧ s.outagesNamed ∧
    ∀ n o, Table.at? s.outages n = some o → o.legal s n := by
  constructor
  · rintro ⟨hseg, hout⟩
    exact ⟨fun n g h => ⟨(hseg n g h).1, (hseg n g h).2.1⟩, fun n g o h => (hseg n g h).2.2 o, hout⟩
  · rintro ⟨hs, hn, hout⟩
    exact ⟨fun n g h => ⟨(hs n g h).1, (hs n g h).2, fun o => hn n g o h⟩, hout⟩

theorem at?_members {s : State} (hs : Table.rises s.segments) (o n : Nat) :
    Table.at? (members s o) n = (Table.at? s.segments n).filter (fun g => g.outage = some o) :=
  Table.at?_filter hs (fun g => g.outage = some o) n

theorem mem_members {s : State} (hs : Table.rises s.segments) {o n : Nat} {g : Segment} :
    (n, g) ∈ members s o ↔ Table.at? s.segments n = some g ∧ g.outage = some o := by
  simp [members, Table.mem_iff_at? hs]

theorem members_ne_nil {s : State} (hs : Table.rises s.segments) {o : Nat} : members s o ≠ [] ↔ ∃ n, s.names n o := by
  rw [ne_eq, List.eq_nil_iff_forall_not_mem]
  simp only [not_forall, not_not, Prod.exists, mem_members hs, State.names]

/-- The members of a record that two states agree on are the same. -/
theorem members_eq {s u : State} (hs : Table.rises s.segments) (hu : Table.rises u.segments) {o : Nat}
    (h : ∀ n g, g.outage = some o → (Table.at? u.segments n = some g ↔ Table.at? s.segments n = some g)) :
    members u o = members s o := by
  refine Table.ext (Table.rises_filter hu _) (Table.rises_filter hs _) fun n => ?_
  rw [at?_members hu, at?_members hs]
  ext g
  simp only [Option.filter_eq_some_iff, decide_eq_true_eq]
  exact and_congr_left fun hg => h n g hg

/-- A change of segments that are no members, into segments that are none, upholds the laws of the records. -/
theorem outagesLegal_of_strangers {s u : State} (hs : Table.rises s.segments) (hu : Table.rises u.segments)
    (ho : u.outages = s.outages)
    (hnew : ∀ n g, Table.at? u.segments n = some g →
      Table.at? s.segments n = some g ∨ g.outage = none ∧ g.relit = 0)
    (hold : ∀ n g, Table.at? s.segments n = some g → g.outage ≠ none → Table.at? u.segments n = some g)
    (h : s.outagesLegal) : u.outagesLegal := by
  obtain ⟨hsound, hnamed, hlegal⟩ := outagesLegal_iff.1 h
  refine outagesLegal_iff.2 ⟨fun n g hn => ?_, fun n g o hn hg => ?_, fun n o hn => ?_⟩
  · rcases hnew n g hn with h' | ⟨h1, h2⟩
    · exact hsound n g h'
    · exact ⟨fun _ => ⟨h1, h2⟩, by omega⟩
  · rcases hnew n g hn with h' | ⟨h1, -⟩
    · rw [ho]; exact hnamed n g o h' hg
    · simp [h1] at hg
  · refine outageLegal_of_members ?_ (hlegal n o (ho ▸ hn))
    rw [members_eq hs hu fun m g hg => ⟨fun hm => ?_, fun hm => hold m g hm (by simp [hg])⟩]
    rcases hnew m g hm with h' | ⟨h1, -⟩
    · exact h'
    · simp [h1] at hg

/-! ## Counting the records again (R77) -/

theorem recounted_congr {s u : State} (hg : u.segments = s.segments) (hc : u.clock = s.clock) (n : Nat) (o : Outage) :
    recounted u n o = recounted s n o := by
  have hm : members u n = members s n := by unfold members; rw [hg]
  have hn : u.now = s.now := by unfold State.now; rw [hc]
  unfold recounted
  rw [hm, hn]

theorem at?_recountOutage (n m : Nat) (s : State) : Table.at? (recountOutage n s).outages m =
    if m = n then (Table.at? s.outages m).map (recounted s m) else Table.at? s.outages m := by
  unfold recountOutage
  by_cases e : m = n
  · subst e
    cases h : Table.at? s.outages m with
    | none => simp [h]
    | some o =>
      by_cases hr : recounted s m o = o
      · simp [hr, h]
      · simp [hr]
  · cases h : Table.at? s.outages n with
    | none => simp [e]
    | some o => by_cases hr : recounted s n o = o <;> simp [hr, e, Table.at?_put_ne]

theorem at?_foldl_recountOutage {l : List Nat} (hl : l.Nodup) (s : State) (m : Nat) :
    Table.at? (l.foldl (fun s n => recountOutage n s) s).outages m =
      if m ∈ l then (Table.at? s.outages m).map (recounted s m) else Table.at? s.outages m := by
  induction l generalizing s with
  | nil => simp
  | cons n l ih =>
    obtain ⟨hn, hl'⟩ := List.nodup_cons.1 hl
    have hc : recounted (recountOutage n s) m = recounted s m :=
      funext fun o => recounted_congr (by simp) (by simp) m o
    rw [List.foldl_cons, ih hl', at?_recountOutage]
    by_cases e : m = n
    · subst e; simp [hn]
    · simp [e, hc]

theorem at?_recountOutages {s : State} (ho : Table.rises s.outages) (m : Nat) :
    Table.at? (recountOutages s).outages m = (Table.at? s.outages m).map (recounted s m) := by
  unfold recountOutages
  rw [at?_foldl_recountOutage (nodup_of_rising ho)]
  split
  · rfl
  · rename_i h
    have hnone : Table.at? s.outages m = none := by
      rw [Table.at?_none_iff, ← Bool.not_eq_true, ← Table.mem_keys]; exact h
    simp [hnone]

theorem rises_recountOutages {s : State} (ho : Table.rises s.outages) : Table.rises (recountOutages s).outages := by
  unfold recountOutages
  generalize Table.keys s.outages = l
  induction l generalizing s with
  | nil => exact ho
  | cons n l ih =>
    rw [List.foldl_cons]
    refine ih ?_
    unfold recountOutage
    split
    · exact ho
    · split
      · exact ho
      · simpa using Table.rises_put ho n _

/-- A record counted again stands as R77 counts it, if it has a member. -/
theorem recounted_legal {s : State} (hs : Table.rises s.segments) (hsound : s.supplySound) {n : Nat}
    (hm : ∃ m, s.names m n) (o : Outage) : (recounted s n o).legal s n := by
  have hle : ((members s n).map (fun r => r.2.relit)).sum ≤ ((members s n).map (fun r => r.2.customers)).sum :=
    List.sum_le_sum fun r hr => (hsound r.1 r.2 ((mem_members hs).1 hr).1).2
  refine ⟨(members_ne_nil hs).2 hm, rfl, rfl, rfl, hle, ?_, ?_⟩
  · by_cases ha : (members s n).any (fun r => r.2.supply = .unsupplied)
    · have hst : (recounted s n o).state = .active := by simp [recounted, ha]
      simpa [hst] using ha
    · have hst : (recounted s n o).state = .restoring := by simp [recounted, ha]
      simpa [hst] using ha
  · by_cases ha : (members s n).any (fun r => r.2.supply = .unsupplied) <;> simp [recounted, ha]

/-- Counting every record again makes the laws of the records hold, where each has a member. -/
theorem recountOutages_legal {s : State} (hs : Table.rises s.segments) (ho : Table.rises s.outages)
    (hsound : s.supplySound) (hnamed : s.outagesNamed) (hused : s.outagesUsed) : (recountOutages s).outagesLegal := by
  have hg : (recountOutages s).segments = s.segments := by simp
  have hhas (n : Nat) : Table.has (recountOutages s).outages n = Table.has s.outages n := by
    simp [Table.has, at?_recountOutages ho]
  refine outagesLegal_iff.2 ⟨?_, ?_, fun n o hn => ?_⟩
  · unfold State.supplySound; rw [hg]; exact hsound
  · intro n g o hn hgo
    rw [hhas]; exact hnamed n g o (hg ▸ hn) hgo
  · rw [at?_recountOutages ho] at hn
    obtain ⟨o', ho', rfl⟩ := Option.map_eq_some_iff.1 hn
    refine outageLegal_of_members ?_ (recounted_legal hs hsound (hused n (Table.has_some ho')) o')
    simp [members]

/-! ## ALTER SEGMENT (R15) and REPORT RELIT (R80 to R82) -/

/-- Fields of a segment in use but for its lists and its count: the laws of the network read none of them. -/
theorem network_of_supply {s u : State} (hu : u.model = s.model ∧ u.stopCount = s.stopCount ∧ u.valves = s.valves ∧
      u.points = s.points)
    (hi : Table.image Incident.segment u.incidents = Table.image Incident.segment s.incidents)
    (hl : s.keysRise → Table.image Segment.lists u.segments = Table.image Segment.lists s.segments)
    (hc : s.keysRise → Table.image Segment.openIncidents u.segments = Table.image Segment.openIncidents s.segments)
    (hr : s.keysRise → Table.rises u.outages) : UpholdsNetwork s u := by
  obtain ⟨hm, hst, hv, hp⟩ := hu
  have hvi : Table.image Valve.site u.valves = Table.image Valve.site s.valves := by rw [hv]
  have hpi : Table.image Point.segment u.points = Table.image Point.segment s.points := by rw [hp]
  refine ⟨fun k => ⟨Table.rises_of_keys k.segments (Table.keys_of_image (hl k)), by rw [hv]; exact k.valves,
      by rw [hp]; exact k.points, Table.rises_of_keys k.incidents (Table.keys_of_image hi), hr k⟩,
    fun k => endsLegal_of_views hm (Table.keys_of_image (hl k)) hvi,
    fun k _ => listsLegal_of_views hm (hl k) hvi hpi,
    fun k _ => countsLegal_of_views hst (hc k) hvi hi (fun h => ?_)⟩
  unfold State.pointsSound
  rwa [hp]

/-- The same, with the laws of the outage records proved of the change. -/
theorem upholds_of_supply {s u : State} (hu : u.model = s.model ∧ u.stopCount = s.stopCount ∧ u.valves = s.valves ∧
      u.points = s.points)
    (hi : Table.image Incident.segment u.incidents = Table.image Incident.segment s.incidents)
    (hl : s.keysRise → Table.image Segment.lists u.segments = Table.image Segment.lists s.segments)
    (hc : s.keysRise → Table.image Segment.openIncidents u.segments = Table.image Segment.openIncidents s.segments)
    (hr : s.keysRise → Table.rises u.outages) (ho : s.keysRise → s.outagesLegal → u.outagesLegal) : Upholds s u :=
  ⟨network_of_supply hu hi hl hc hr, ho⟩

theorem alterSegment_upholds (h : Header) (n : Nat) (zone customers : Option Nat) (s : State) :
    Upholds s (alterSegment h n zone customers s).1 := by
  refine tested_induct (.refl s) fun hok => .ite (.refl s) ?_
  have hsup : customers = none ∨ Table.test s.segments n (fun g => g.supply = .supplied) = true := by
    simpa using hok (customers = none || Table.test s.segments n (fun g => g.supply = .supplied), .wrongState)
      (by simp)
  have hu : (mark .segment n .model (s.updSegment n (alteredSegment zone customers))).segments =
      Table.upd s.segments n (alteredSegment zone customers) := by simp
  refine upholds_of_supply (by simp) (by simp) (fun _ => ?_) (fun _ => ?_) (fun k => by simpa using k.outages)
    (fun k ho => ?_)
  · rw [hu]; exact Table.image_upd (by exact fun _ => rfl) _ _
  · rw [hu]; exact Table.image_upd (by exact fun _ => rfl) _ _
  · rcases hsup with rfl | hsup
    · refine outagesLegal_of_views ?_ (by simp) ho
      rw [hu]; exact Table.image_upd (by exact fun _ => rfl) _ _
    · obtain ⟨g, hg, hgs⟩ := (Table.test_iff ..).1 hsup
      obtain ⟨hnone, hzero⟩ := (ho.1 n g hg).1 (of_decide_eq_true hgs)
      refine outagesLegal_of_strangers k.segments (by rw [hu]; exact Table.rises_of_keys k.segments (by simp))
        (by simp) (fun m x hm => ?_) (fun m x hm hx => ?_) ho
      · rw [hu, Table.at?_upd] at hm
        split at hm
        · subst_vars
          obtain rfl : alteredSegment zone customers g = x := by simpa [hg] using hm
          exact .inr ⟨hnone, hzero⟩
        · exact .inl hm
      · rw [hu, Table.at?_upd]
        split
        · subst_vars
          obtain rfl : g = x := by simpa [hg] using hm
          exact absurd hnone hx
        · exact hm

/-- The retiring of a record without a member leaves the laws of the others. -/
theorem retireOutage_legal {n : Nat} {s : State} (hsound : s.supplySound)
    (hnamed : s.outagesNamed) (hnone : members s n = []) (hs : Table.rises s.segments)
    (hlegal : ∀ m o, m ≠ n → Table.at? s.outages m = some o → o.legal s m) : (retireOutage n s).outagesLegal := by
  have hg : (retireOutage n s).segments = s.segments := by simp
  have ho : (retireOutage n s).outages = Table.del s.outages n := by simp [retireOutage]
  refine outagesLegal_iff.2 ⟨?_, fun m g o hm hgo => ?_, fun m o hm => ?_⟩
  · unfold State.supplySound; rwa [hg]
  · have hne : o ≠ n := by
      rintro rfl
      exact (members_ne_nil hs).2 ⟨m, g, hg ▸ hm, hgo⟩ hnone
    simpa [ho, Table.has_del, hne] using hnamed m g o (hg ▸ hm) hgo
  · rw [ho, Table.at?_del] at hm
    split at hm
    · simp at hm
    · rename_i hne
      exact outageLegal_of_members (by simp [members]) (hlegal m o hne hm)

/-- The laws of the records without what they say of one of them, as a change of one of its members leaves them. -/
theorem leaveOutage_legal {o : Option Nat} {s : State} (hs : Table.rises s.segments) (hr : Table.rises s.outages)
    (hsound : s.supplySound) (hnamed : s.outagesNamed)
    (hlegal : ∀ m x, o ≠ some m → Table.at? s.outages m = some x → x.legal s m) : (leaveOutage o s).outagesLegal := by
  unfold leaveOutage
  split
  · exact outagesLegal_iff.2 ⟨hsound, hnamed, fun m x => hlegal m x (by simp)⟩
  · rename_i n
    split
    · rename_i hnone
      exact retireOutage_legal hsound hnamed hnone hs fun m x hm => hlegal m x (by simpa using Ne.symm hm)
    · rename_i hsome
      refine outagesLegal_of_views (by simp) (by simp)
        (recountOutages_legal hs hr hsound hnamed fun m hm => (members_ne_nil hs).1 ?_)
      by_cases e : m = n
      · subst e; exact hsome
      · obtain ⟨x, hx⟩ := (Table.has_iff ..).1 hm
        exact (hlegal m x (by simpa using Ne.symm e) hx).1

end Sys2Proof.Machine
end

section
/-! SUPPORT. REPORT RELIT and the publication of a pass uphold the laws (R69 to R79, R80 to R82). -/

namespace Sys2Proof.Machine

/-! ## REPORT RELIT (R80 to R82) -/

theorem rises_retireOutage {n : Nat} {s : State} (h : Table.rises s.outages) :
    Table.rises (retireOutage n s).outages := by
  simpa [retireOutage] using Table.rises_del h n

theorem rises_leaveOutage {o : Option Nat} {s : State} (h : Table.rises s.outages) :
    Table.rises (leaveOutage o s).outages := by
  unfold leaveOutage
  split
  · exact h
  · split
    · exact rises_retireOutage h
    · simpa using rises_recountOutages h

/-- A segment in RELIGHT with its supply fields written anew: what its outage record becomes aside, the laws hold. -/
theorem rewritten_legal {n : Nat} {g g' : Segment} {s u : State} (k : s.keysRise) (h : s.outagesLegal)
    (hn : Table.at? s.segments n = some g) (hu : u.segments = Table.put s.segments n g') (ho : u.outages = s.outages)
    (hsound : (g'.supply = .supplied → g'.outage = none ∧ g'.relit = 0) ∧ g'.relit ≤ g'.customers)
    (hout : g'.outage = none ∨ g'.outage = g.outage) : u.supplySound ∧ u.outagesNamed ∧
      ∀ m x, g.outage ≠ some m → Table.at? u.outages m = some x → x.legal u m := by
  obtain ⟨hs, hnamed, hlegal⟩ := outagesLegal_iff.1 h
  have hru : Table.rises u.segments := by rw [hu]; exact Table.rises_put k.segments n g'
  refine ⟨fun m x hm => ?_, fun m x o hm hx => ?_, fun m x hm hx => ?_⟩
  · rw [hu, Table.at?_put] at hm
    split at hm
    · obtain rfl : g' = x := by simpa using hm
      exact hsound
    · exact hs m x hm
  · rw [ho]
    rw [hu, Table.at?_put] at hm
    split at hm
    · obtain rfl : g' = x := by simpa using hm
      rcases hout with e | e
      · simp [e] at hx
      · exact hnamed n g o hn (e ▸ hx)
    · exact hnamed m x o hm hx
  · refine outageLegal_of_members ?_ (hlegal m x (ho ▸ hx))
    rw [members_eq k.segments hru fun j y hy => ?_]
    rw [hu, Table.at?_put]
    split
    · subst_vars
      have h1 : g' ≠ y := by rintro rfl; rcases hout with e | e <;> simp_all
      have h2 : g ≠ y := by rintro rfl; exact hm hy
      simp [hn, h1, h2]
    · rfl

/-- Writing the supply fields of a segment in use anew leaves its lists and its count. -/
theorem image_put_supply {β : Type} {f : Segment → β}
    (hf : ∀ (x : Segment) (a : Supply) (b : Option Nat) (c : Nat), f { x with supply := a, outage := b, relit := c } = f x)
    {n : Nat} {g : Segment} {s u : State} (k : s.keysRise) (hn : Table.at? s.segments n = some g) {a : Supply}
    {b : Option Nat} {c : Nat}
    (hu : u.segments = Table.put s.segments n { g with supply := a, outage := b, relit := c }) :
    Table.image f u.segments = Table.image f s.segments := by
  rw [hu]
  exact Table.image_put k.segments hn (hf g a b c)

theorem relightSegment_upholds {n : Nat} {g : Segment} {s : State} (hn : Table.at? s.segments n = some g) :
    Upholds s (relightSegment n g s) := by
  unfold relightSegment
  extract_lets s1 s2
  have hu : s2.segments = Table.put s.segments n { g with supply := .supplied, outage := none, relit := 0 } := by
    simp [s2, s1]
  have h2 : Upholds s s2 := by
    refine upholds_of_supply (by simp [s2, s1]) (by simp [s2, s1]) (fun k => ?_) (fun k => ?_) (fun k => ?_)
      (fun k h => ?_)
    · exact image_put_supply (by exact fun _ _ _ _ => rfl) k hn hu
    · exact image_put_supply (by exact fun _ _ _ _ => rfl) k hn hu
    · simpa [s2] using rises_leaveOutage (o := g.outage) (s := flag .segment n s1) (by simpa [s1] using k.outages)
    · obtain ⟨h1, h2, h3⟩ := rewritten_legal (u := flag .segment n s1)
        (g' := { g with supply := .supplied, outage := none, relit := 0 }) k h hn (by simp [s1]) (by simp [s1])
        (by simp) (by simp)
      refine outagesLegal_of_views (by simp [s2]) (by simp [s2])
        (leaveOutage_legal (o := g.outage) (s := flag .segment n s1) ?_ (by simpa [s1] using k.outages) h1 h2 h3)
      simpa [s1] using Table.rises_put k.segments n _
  exact .ite (h2.stands (regradeSegment_stands (.refl _))) h2

theorem countRelit_upholds {n count : Nat} {g : Segment} {s : State} (hn : Table.at? s.segments n = some g)
    (hg : g.supply = .relight) : Upholds s (countRelit n count g s) := by
  unfold countRelit
  refine .ite (.refl s) ?_
  split
  · exact relightSegment_upholds hn
  rename_i hlt
  generalize hs1 : flag .segment n (s.putSegment n { g with relit := g.relit + count }) = s1
  have hu : s1.segments = Table.put s.segments n { g with relit := g.relit + count } := by simp [← hs1]
  have ho : s1.outages = s.outages := by simp [← hs1]
  refine upholds_of_supply (by simp [← hs1]) (by simp [← hs1]) (fun k => ?_) (fun k => ?_) (fun k => ?_)
    (fun k h => ?_)
  · exact image_put_supply (a := g.supply) (b := g.outage) (by exact fun _ _ _ _ => rfl) k hn (by simpa using hu)
  · exact image_put_supply (a := g.supply) (b := g.outage) (by exact fun _ _ _ _ => rfl) k hn (by simpa using hu)
  · simpa using rises_recountOutages (s := s1) (ho ▸ k.outages)
  · obtain ⟨h1, h2, h3⟩ := rewritten_legal k h hn hu ho (by simp [hg]; omega) (.inr rfl)
    have hr : Table.rises s1.segments := by rw [hu]; exact Table.rises_put k.segments n _
    refine outagesLegal_of_views (by simp) (by simp)
      (recountOutages_legal hr (ho ▸ k.outages) h1 h2 fun o hhas => ?_)
    by_cases e : g.outage = some o
    · exact ⟨n, { g with relit := g.relit + count }, by rw [hu, Table.at?_put_self], e⟩
    · obtain ⟨x, hx⟩ := (Table.has_iff ..).1 hhas
      exact (members_ne_nil hr).1 (h3 o x e hx).1

/-! ## Publication (R69 to R79) -/

theorem at?_publishSupply {inp : PassInputs} {written : List Nat} (hw : written.Nodup) (s : State) (n : Nat) :
    Table.at? (publishSupply inp written s).segments n = if n ∈ written
      then (Table.at? s.segments n).map (publishedSegment ((reached inp).contains n))
      else Table.at? s.segments n := by
  unfold publishSupply
  dsimp only
  rw [foldl_field State.segments _ (fun t n => Table.upd t n (publishedSegment ((reached inp).contains n)))
    (fun s n => by simp)]
  exact Table.at?_foldl_upd hw _ _ n

theorem at?_assignIsland (island : List Nat) (o : Option Nat) (s : State) (n : Nat) :
    Table.at? (assignIsland island o s).segments n = if n ∈ island
      then (Table.at? s.segments n).map (fun g => { g with outage := o }) else Table.at? s.segments n := by
  unfold assignIsland
  rw [foldl_field State.segments _ (fun t n => Table.upd t n (fun g => { g with outage := o })) (fun s n => by simp)]
  exact Table.at?_foldl_upd_idem (f := fun _ (g : Segment) => { g with outage := o }) (fun _ _ => rfl) _ _ n

/-- The publication of a segment writes its supply fields alone. -/
theorem publishedSegment_eq (b : Bool) (g : Segment) : publishedSegment b g =
    { g with supply := (publishedSegment b g).supply, outage := (publishedSegment b g).outage,
             relit := (publishedSegment b g).relit } := by
  unfold publishedSegment
  split <;> try rfl
  split <;> rfl

section
variable {β : Type} {f : Segment → β}
  (hf : ∀ (x : Segment) (a : Supply) (b : Option Nat) (c : Nat), f { x with supply := a, outage := b, relit := c } = f x)
include hf

theorem publishSupply_image (inp : PassInputs) (written : List Nat) (s : State) :
    Table.image f (publishSupply inp written s).segments = Table.image f s.segments := by
  unfold publishSupply
  dsimp only
  rw [foldl_field State.segments _ (fun t n => Table.upd t n (publishedSegment ((reached inp).contains n)))
    (fun s n => by simp)]
  refine Table.image_foldl_upd (fun n g => ?_) _ _
  rw [publishedSegment_eq]
  exact hf g _ _ _

theorem assignIsland_image (island : List Nat) (o : Option Nat) (s : State) :
    Table.image f (assignIsland island o s).segments = Table.image f s.segments := by
  unfold assignIsland
  rw [foldl_field State.segments _ (fun t n => Table.upd t n (fun g => { g with outage := o })) (fun s n => by simp)]
  exact Table.image_foldl_upd (g := fun _ g => { g with outage := o }) (fun _ g => hf g g.supply o g.relit) _ _

theorem assignClaims_image (islands : List (List Nat)) (s : State) :
    Table.image f (assignClaims islands s).segments = Table.image f s.segments := by
  unfold assignClaims
  generalize islands.map (fun i => (i, claimant s i)) = l
  induction l generalizing s with
  | nil => rfl
  | cons x l ih => rw [List.foldl_cons, ih, assignIsland_image hf]

theorem giveRecord_image (island : List Nat) (s : State) :
    Table.image f (giveRecord island s).segments = Table.image f s.segments := by
  unfold giveRecord
  split
  · rfl
  · rename_i n hn
    exact Eq.trans (by simp) ((assignIsland_image hf island (some n) (s.putOutage n (newOutage s))).trans (by simp))

theorem assignOutages_image (islands : List (List Nat)) (s : State) :
    Table.image f (assignOutages islands s).segments = Table.image f s.segments := by
  unfold assignOutages
  generalize islands.filter (fun i => (claimant s i).isNone) = l
  have hgive (s : State) : Table.image f (l.foldl (fun s i => giveRecord i s) s).segments = Table.image f s.segments := by
    induction l generalizing s with
    | nil => rfl
    | cons x l ih => rw [List.foldl_cons, ih, giveRecord_image hf]
  simp [hgive, assignClaims_image hf]

end

end Sys2Proof.Machine
end

section
/-! SUPPORT. What a publication makes of the outage records: each in use has a member, as each island keeps a record of
its own (R72 to R76). -/

namespace Sys2Proof.Machine

/-! ## The islands of a publication are apart -/

theorem islands_apart {inp : PassInputs} (hs : inp.segments.Pairwise (· < ·)) : (islands inp).Pairwise List.Disjoint := by
  unfold islands
  dsimp only
  have hu : (unreached inp).Pairwise (· < ·) := hs.sublist List.filter_sublist
  rw [List.pairwise_map]
  refine List.Pairwise.imp_of_mem ?_ (hu.sublist List.filter_sublist)
  intro x y hx hy hlt z hzx hzy
  obtain ⟨hxu, hxle⟩ := List.mem_filter.1 hx
  obtain ⟨hyu, hyle⟩ := List.mem_filter.1 hy
  have hyx : Chained inp y x := ((mem_islandOf hyu).1 hzy).trans (((mem_islandOf hxu).1 hzx).symm hxu)
  have := of_decide_eq_true (List.all_eq_true.1 hyle x ((mem_islandOf hyu).2 hyx))
  omega

theorem writtenIslands_apart {inp : PassInputs} (hs : inp.segments.Pairwise (· < ·)) (written : List Nat) :
    (writtenIslands inp written).Pairwise List.Disjoint := by
  unfold writtenIslands
  refine List.Pairwise.sublist List.filter_sublist (List.pairwise_map.2 ((islands_apart hs).imp ?_))
  exact fun h n h1 h2 => h (List.mem_of_mem_filter h1) (List.mem_of_mem_filter h2)

theorem mem_writtenIslands {inp : PassInputs} {written i : List Nat} (h : i ∈ writtenIslands inp written) :
    i ≠ [] ∧ ∀ n ∈ i, n ∈ written ∧ n ∈ unreached inp := by
  obtain ⟨hi, hne⟩ := List.mem_filter.1 h
  obtain ⟨j, hj, rfl⟩ := List.mem_map.1 hi
  refine ⟨by simpa using hne, fun n hn => ?_⟩
  obtain ⟨hnj, hw⟩ := List.mem_filter.1 hn
  exact ⟨by simpa using hw, unreached_of_mem_island hj hnj⟩

/-! ## Assigning the islands -/

/-- The segments of the islands are in use and UNSUPPLIED. -/
def State.lost (s : State) (l : List (List Nat)) : Prop :=
  ∀ i ∈ l, ∀ n ∈ i, ∃ g, Table.at? s.segments n = some g ∧ g.supply = .unsupplied

/-- The laws of the segments and their records while islands are being assigned. -/
structure Assigning (s : State) (l : List (List Nat)) : Prop where
  segments : Table.rises s.segments
  outages : Table.rises s.outages
  sound : s.supplySound
  named : s.outagesNamed
  lost : s.lost l

theorem assignIsland_assigning {s : State} {l : List (List Nat)} {i : List Nat} (h : Assigning s l) (hi : i ∈ l)
    {o : Option Nat} (ho : ∀ m, o = some m → Table.has s.outages m = true) : Assigning (assignIsland i o s) l := by
  have hread (n : Nat) := at?_assignIsland i o s n
  have hkeys : Table.keys (assignIsland i o s).segments = Table.keys s.segments :=
    Table.keys_of_image (assignIsland_image (f := fun g => g.lists) (by exact fun _ _ _ _ => rfl) i o s)
  refine ⟨Table.rises_of_keys h.segments hkeys, by simpa using h.outages, fun n g hn => ?_, fun n g m hn hm => ?_,
    fun j hj n hn => ?_⟩
  · rw [hread] at hn
    split at hn
    · rename_i hni
      obtain ⟨g', hg', rfl⟩ := Option.map_eq_some_iff.1 hn
      obtain ⟨x, hx, hxs⟩ := h.lost i hi n hni
      obtain rfl : x = g' := by simpa [hx] using hg'
      exact ⟨fun hsup => by simp [hxs] at hsup, (h.sound n x hx).2⟩
    · exact h.sound n g hn
  · rw [show (assignIsland i o s).outages = s.outages by simp]
    rw [hread] at hn
    split at hn
    · obtain ⟨g', hg', rfl⟩ := Option.map_eq_some_iff.1 hn
      exact ho m hm
    · exact h.named n g m hn hm
  · obtain ⟨g, hg, hs⟩ := h.lost j hj n hn
    rw [hread]
    split
    · exact ⟨{ g with outage := o }, by rw [hg]; rfl, hs⟩
    · exact ⟨g, hg, hs⟩

theorem foldl_assignIsland_assigning {s : State} {l : List (List Nat)} (claims : List (List Nat × Option Nat))
    (h : Assigning s l) (hi : ∀ c ∈ claims, c.1 ∈ l)
    (ho : ∀ c ∈ claims, ∀ m, c.2 = some m → Table.has s.outages m = true) :
    Assigning (claims.foldl (fun s c => assignIsland c.1 c.2 s) s) l := by
  induction claims generalizing s with
  | nil => exact h
  | cons c claims ih =>
    refine ih (assignIsland_assigning h (hi c (by simp)) (ho c (by simp))) (fun d hd => hi d (by simp [hd]))
      (fun d hd m hm => ?_)
    simpa using ho d (by simp [hd]) m hm

/-- After each island of a list has been assigned, the segments of one of them name what it was assigned. -/
theorem outage_foldl_assignIsland {claims : List (List Nat × Option Nat)}
    (hapart : claims.Pairwise (fun c d => List.Disjoint c.1 d.1)) {c : List Nat × Option Nat} (hc : c ∈ claims)
    {n : Nat} (hn : n ∈ c.1) {s : State} {g : Segment}
    (hg : Table.at? (claims.foldl (fun s c => assignIsland c.1 c.2 s) s).segments n = some g) : g.outage = c.2 := by
  have hkeep (l : List (List Nat × Option Nat)) (hl : ∀ d ∈ l, n ∉ d.1) (s : State) :
      Table.at? (l.foldl (fun s c => assignIsland c.1 c.2 s) s).segments n = Table.at? s.segments n := by
    induction l generalizing s with
    | nil => rfl
    | cons d l ih => rw [List.foldl_cons, ih fun d hd => hl d (by simp [hd]), at?_assignIsland, if_neg (hl d (by simp))]
  induction claims generalizing s with
  | nil => simp at hc
  | cons d claims ih =>
    obtain ⟨hd, hrest⟩ := List.pairwise_cons.1 hapart
    rw [List.foldl_cons] at hg
    rcases List.mem_cons.1 hc with rfl | hc
    · rw [hkeep claims (fun e he hne => hd e he hn hne), at?_assignIsland, if_pos hn] at hg
      obtain ⟨g', -, rfl⟩ := Option.map_eq_some_iff.1 hg
      rfl
    · exact ih hrest hc hg

/-! ## Retiring the records without a member (R76) -/

theorem at?_foldl_retireOutage (l : List Nat) (s : State) (m : Nat) :
    Table.at? (l.foldl (fun s n => retireOutage n s) s).outages m = if m ∈ l then none else Table.at? s.outages m := by
  induction l generalizing s with
  | nil => simp
  | cons n l ih =>
    have h1 : (retireOutage n s).outages = Table.del s.outages n := by simp [retireOutage]
    rw [List.foldl_cons, ih, h1, Table.at?_del]
    by_cases e : m = n <;> simp [e]

theorem at?_retireEmpty (s : State) (m : Nat) :
    Table.at? (retireEmpty s).outages m = if members s m = [] then none else Table.at? s.outages m := by
  unfold retireEmpty
  rw [at?_foldl_retireOutage]
  by_cases h : members s m = []
  · cases ho : Table.at? s.outages m with
    | none => simp
    | some o => simp [h, Table.mem_keys_of_at? ho]
  · simp [h]

theorem rises_retireEmpty {s : State} (h : Table.rises s.outages) : Table.rises (retireEmpty s).outages := by
  unfold retireEmpty
  generalize (Table.keys s.outages).filter (fun n => members s n = []) = l
  induction l generalizing s with
  | nil => exact h
  | cons n l ih => exact ih (rises_retireOutage h)

theorem names_congr {s u : State} (h : u.segments = s.segments) (n o : Nat) : u.names n o ↔ s.names n o := by
  simp [State.names, h]

theorem retireEmpty_assigning {s : State} {l : List (List Nat)} (h : Assigning s l) : Assigning (retireEmpty s) l where
  segments := by simpa using h.segments
  outages := rises_retireEmpty h.outages
  sound := by simpa [State.supplySound] using h.sound
  named n g o hn ho := by
    have hn' : Table.at? s.segments n = some g := by simpa using hn
    have hm : members s o ≠ [] := (members_ne_nil h.segments).2 ⟨n, g, hn', ho⟩
    simpa [Table.has, at?_retireEmpty, hm] using h.named n g o hn' ho
  lost := by simpa [State.lost] using h.lost

theorem retireEmpty_used {s : State} (hs : Table.rises s.segments) : (retireEmpty s).outagesUsed := by
  intro o ho
  have hm : members s o ≠ [] := by
    intro e
    simp [Table.has, at?_retireEmpty, e] at ho
  obtain ⟨n, hn⟩ := (members_ne_nil hs).1 hm
  exact ⟨n, (names_congr (by simp) n o).2 hn⟩

/-! ## New records for the unclaimed islands (R75) -/

/-- The islands still to be given a record: in use, named by no record, none of them empty, and apart. -/
structure Waiting (s : State) (l : List (List Nat)) : Prop extends Assigning s l where
  used : s.outagesUsed
  free : ∀ i ∈ l, ∀ n ∈ i, ∀ o, ¬ s.names n o
  nonempty : ∀ i ∈ l, i ≠ []
  apart : l.Pairwise List.Disjoint

theorem Waiting.tail {s : State} {i : List Nat} {l : List (List Nat)} (h : Waiting s (i :: l)) : Waiting s l where
  segments := h.segments
  outages := h.outages
  sound := h.sound
  named := h.named
  lost j hj := h.lost j (by simp [hj])
  used := h.used
  free j hj := h.free j (by simp [hj])
  nonempty j hj := h.nonempty j (by simp [hj])
  apart := (List.pairwise_cons.1 h.apart).2

/-- A new record in a free slot. -/
theorem putOutage_assigning {s : State} {l : List (List Nat)} (h : Assigning s l) (n : Nat) (o : Outage) :
    Assigning (s.putOutage n o) l where
  segments := by simpa using h.segments
  outages := by simpa using Table.rises_put h.outages n o
  sound := by simpa [State.supplySound] using h.sound
  named m g k hm hk := by
    have := h.named m g k (by simpa using hm) hk
    simp [Table.has_put, this]
  lost := by simpa [State.lost] using h.lost

theorem giveRecord_waiting {s : State} {i : List Nat} {l : List (List Nat)} (h : Waiting s (i :: l)) :
    Waiting (giveRecord i s) l := by
  unfold giveRecord
  split
  · exact h.tail
  rename_i m hm
  generalize hu : flag .outage m (assignIsland i (some m) (s.putOutage m (newOutage s))) = u
  have ha : Assigning (assignIsland i (some m) (s.putOutage m (newOutage s))) (i :: l) :=
    assignIsland_assigning (putOutage_assigning h.toAssigning m _) (by simp) (by simp [Table.has_put])
  have hseg : u.segments = (assignIsland i (some m) (s.putOutage m (newOutage s))).segments := by simp [← hu]
  have hout : u.outages = Table.put s.outages m (newOutage s) := by simp [← hu]
  have hread (n : Nat) : Table.at? u.segments n = if n ∈ i
      then (Table.at? s.segments n).map (fun g => { g with outage := some m }) else Table.at? s.segments n := by
    rw [hseg, at?_assignIsland]; simp
  have hkeep {n : Nat} (hn : n ∉ i) (o : Nat) : u.names n o ↔ s.names n o := by simp [State.names, hread, hn]
  obtain ⟨hdisj, hapart⟩ := List.pairwise_cons.1 h.apart
  refine ⟨⟨hseg ▸ ha.segments, by rw [hout]; exact Table.rises_put h.outages _ _, ?_, ?_, ?_⟩, ?_, ?_, ?_, hapart⟩
  · unfold State.supplySound; rw [hseg]; exact ha.sound
  · intro n g o hn ho
    simpa [← hu] using ha.named n g o (hseg ▸ hn) ho
  · intro j hj n hn
    rw [hseg]; exact ha.lost j (by simp [hj]) n hn
  · intro o ho
    by_cases e : o = m
    · obtain ⟨n, hn⟩ := List.exists_mem_of_ne_nil _ (h.nonempty i (by simp))
      obtain ⟨g, hg, -⟩ := h.lost i (by simp) n hn
      exact ⟨n, { g with outage := some m }, by rw [hread, if_pos hn, hg]; rfl, by rw [e]⟩
    · obtain ⟨n, hn⟩ := h.used o (by simpa [hout, Table.has_put, e] using ho)
      exact ⟨n, (hkeep (fun hni => h.free i (by simp) n hni o hn) o).2 hn⟩
  · intro j hj n hn o
    rw [hkeep fun hni => hdisj j hj hni hn]
    exact h.free j (by simp [hj]) n hn o
  · exact fun j hj => h.nonempty j (by simp [hj])

theorem foldl_giveRecord_waiting {s : State} {l : List (List Nat)} (h : Waiting s l) :
    Waiting (l.foldl (fun s i => giveRecord i s) s) [] := by
  induction l generalizing s with
  | nil => exact h
  | cons i l ih => exact ih (giveRecord_waiting h)

theorem claimant_in_use {s : State} {i : List Nat} {o : Nat} (h : claimant s i = some o) :
    Table.has s.outages o = true := Table.mem_keys.1 (List.mem_of_find?_eq_some h)

/-- Outage assignment makes the laws of the records hold, for islands that are apart and UNSUPPLIED. -/
theorem assignOutages_legal {s : State} {l : List (List Nat)} (h : Assigning s l) (hne : ∀ i ∈ l, i ≠ [])
    (hapart : l.Pairwise List.Disjoint) : (assignOutages l s).outagesLegal := by
  have hclaims : Assigning (assignClaims l s) l := by
    refine foldl_assignIsland_assigning _ h (fun c hc => ?_) (fun c hc m hm => ?_) <;>
      obtain ⟨i, hi, rfl⟩ := List.mem_map.1 hc
    · exact hi
    · exact claimant_in_use hm
  have hretired := retireEmpty_assigning hclaims
  have hsub : ∀ i ∈ l.filter (fun i => (claimant s i).isNone), i ∈ l := fun i hi => List.mem_of_mem_filter hi
  have hwait : Waiting (retireEmpty (assignClaims l s)) (l.filter (fun i => (claimant s i).isNone)) := by
    refine ⟨⟨hretired.segments, hretired.outages, hretired.sound, hretired.named, fun i hi => hretired.lost i (hsub i hi)⟩,
      retireEmpty_used hclaims.segments, fun i hi n hn o => ?_, fun i hi => hne i (hsub i hi),
      hapart.sublist List.filter_sublist⟩
    rw [names_congr (s := assignClaims l s) (by simp)]
    rintro ⟨g, hg, hgo⟩
    have hnone : claimant s i = none := by simpa using (List.mem_filter.1 hi).2
    have := outage_foldl_assignIsland (claims := l.map (fun i => (i, claimant s i)))
      (List.pairwise_map.2 (by simpa using hapart)) (List.mem_map.2 ⟨i, hsub i hi, rfl⟩) hn hg
    simp [hnone, hgo] at this
  have hdone := foldl_giveRecord_waiting hwait
  exact recountOutages_legal hdone.segments hdone.outages hdone.sound hdone.named hdone.used

/-! ## The publication -/

/-- What R69 leaves of a segment: the fields that R71 reads are sound, and a segment that gas does not reach is
UNSUPPLIED. -/
theorem publishedSegment_sound {b : Bool} {g : Segment}
    (h : (g.supply = .supplied → g.outage = none ∧ g.relit = 0) ∧ g.relit ≤ g.customers) :
    let g' := publishedSegment b g
    ((g'.supply = .supplied → g'.outage = none ∧ g'.relit = 0) ∧ g'.relit ≤ g'.customers) ∧
      (g'.outage = none ∨ g'.outage = g.outage) ∧ (b = false → g'.supply = .unsupplied) := by
  unfold publishedSegment
  cases hg : g.supply <;> cases b <;> simp_all
  split <;> simp_all

theorem publishSupply_assigning {s : State} {inp : PassInputs} (k : s.keysRise) (h : s.outagesLegal)
    (hinp : inp.segments.Pairwise (· < ·)) :
    Assigning (publishSupply inp (writtenSegments s inp) s) (writtenIslands inp (writtenSegments s inp)) := by
  obtain ⟨hsound, hnamed, -⟩ := outagesLegal_iff.1 h
  have hread := at?_publishSupply (inp := inp)
    (nodup_of_rising (hinp.sublist (l₁ := writtenSegments s inp) List.filter_sublist)) s
  have hkeys : Table.keys (publishSupply inp (writtenSegments s inp) s).segments = Table.keys s.segments :=
    Table.keys_of_image (publishSupply_image (f := Segment.lists) (by exact fun _ _ _ _ => rfl) inp _ s)
  refine ⟨Table.rises_of_keys k.segments hkeys, by simpa using k.outages, fun n g hn => ?_, fun n g o hn ho => ?_,
    fun i hi n hn => ?_⟩
  · rw [hread] at hn
    split at hn
    · obtain ⟨g', hg', rfl⟩ := Option.map_eq_some_iff.1 hn
      exact (publishedSegment_sound (hsound n g' hg')).1
    · exact hsound n g hn
  · rw [show (publishSupply inp (writtenSegments s inp) s).outages = s.outages by simp]
    rw [hread] at hn
    split at hn
    · obtain ⟨g', hg', rfl⟩ := Option.map_eq_some_iff.1 hn
      rcases (publishedSegment_sound (b := (reached inp).contains n) (hsound n g' hg')).2.1 with e | e
      · rw [e] at ho; simp at ho
      · exact hnamed n g' o hg' (e ▸ ho)
    · exact hnamed n g o hn ho
  · obtain ⟨hw, hun⟩ := (mem_writtenIslands hi).2 n hn
    have hhas : Table.has s.segments n = true := by
      have := (List.mem_filter.1 hw).2
      simp_all
    obtain ⟨g, hg⟩ := (Table.has_iff ..).1 hhas
    refine ⟨_, by rw [hread, if_pos hw, hg]; rfl, (publishedSegment_sound (hsound n g hg)).2.2 ?_⟩
    simpa [mem_reached] using (mem_unreached.1 hun).2

/-- What a publication writes before it regrades incidents: the segments and the outage records. -/
theorem publish_written (inp : PassInputs) (s : State) : ∃ u, Stands u (publish inp s) ∧
    (u.model = s.model ∧ u.stopCount = s.stopCount ∧ u.valves = s.valves ∧ u.points = s.points ∧
      u.incidents = s.incidents) ∧
    u.segments = (assignOutages (writtenIslands inp (writtenSegments s inp))
      (publishSupply inp (writtenSegments s inp) s)).segments ∧
    u.outages = (assignOutages (writtenIslands inp (writtenSegments s inp))
      (publishSupply inp (writtenSegments s inp) s)).outages := by
  unfold publish
  extract_lets written s1 s2 unassigned changed s3 moved
  refine ⟨endPass unassigned s3, .foldl (fun h => regradeSegment_stands h) (.refl _), ?_, ?_, ?_⟩ <;>
    simp [s3, s2, s1, apply_ite State.model, apply_ite State.stopCount, apply_ite State.valves, apply_ite State.points,
      apply_ite State.incidents, apply_ite State.segments, apply_ite State.outages, written]

theorem rises_giveRecord {i : List Nat} {s : State} (h : Table.rises s.outages) :
    Table.rises (giveRecord i s).outages := by
  unfold giveRecord
  split
  · exact h
  · simpa using Table.rises_put h _ _

theorem rises_assignOutages {l : List (List Nat)} {s : State} (h : Table.rises s.outages) :
    Table.rises (assignOutages l s).outages := by
  refine rises_recountOutages ?_
  have h1 : Table.rises (retireEmpty (assignClaims l s)).outages := rises_retireEmpty (by simpa using h)
  generalize l.filter (fun i => (claimant s i).isNone) = unclaimed
  generalize retireEmpty (assignClaims l s) = u at h1
  induction unclaimed generalizing u with
  | nil => exact h1
  | cons i rest ih => exact ih _ (rises_giveRecord h1)

/-- The publication of a pass upholds the laws of ends, lists and counts. -/
theorem publish_network (inp : PassInputs) (s : State) : UpholdsNetwork s (publish inp s) := by
  obtain ⟨u, hstands, ⟨hm, hc, hv, hp, hi⟩, hseg, hout⟩ := publish_written inp s
  have himage {β : Type} {f : Segment → β} (hf : ∀ (x : Segment) (a : Supply) (b : Option Nat) (c : Nat),
      f { x with supply := a, outage := b, relit := c } = f x) : Table.image f u.segments = Table.image f s.segments := by
    rw [hseg, assignOutages_image hf, publishSupply_image hf]
  have hnet : UpholdsNetwork s u :=
    network_of_supply ⟨hm, hc, hv, hp⟩ (by rw [hi]) (fun _ => himage (by exact fun _ _ _ _ => rfl))
      (fun _ => himage (by exact fun _ _ _ _ => rfl))
      (fun k => by rw [hout]; exact rises_assignOutages (by simpa using k.outages))
  exact hnet.trans hstands.upholds.toUpholdsNetwork

/-- The publication of a pass that took each segment once upholds the laws of the outage records. -/
theorem publish_legal {inp : PassInputs} (hinp : inp.segments.Pairwise (· < ·)) {s : State} (k : s.keysRise)
    (h : s.outagesLegal) : (publish inp s).outagesLegal := by
  obtain ⟨u, hstands, ⟨-, -, hv, hp, hi⟩, hseg, hout⟩ := publish_written inp s
  have hlegal := assignOutages_legal (publishSupply_assigning k h hinp) (fun i hi => (mem_writtenIslands hi).1)
    (writtenIslands_apart hinp _)
  have hkeys : Table.keys u.segments = Table.keys s.segments := Table.keys_of_image (f := Segment.lists) (by
    rw [hseg, assignOutages_image (by exact fun _ _ _ _ => rfl), publishSupply_image (by exact fun _ _ _ _ => rfl)])
  have hrise : u.keysRise := ⟨Table.rises_of_keys k.segments hkeys, by rw [hv]; exact k.valves,
    by rw [hp]; exact k.points, by rw [hi]; exact k.incidents,
    by rw [hout]; exact rises_assignOutages (by simpa using k.outages)⟩
  exact hstands.upholds.outages hrise (outagesLegal_of_views (by rw [hseg]) hout hlegal)

end Sys2Proof.Machine
end

section
/-! SUPPORT. What the raising of notices and the flagging of slots do to both (R176, R179, R189), and the parts that
an operation leaves. -/

namespace Sys2Proof.Machine

/-! ## Notices -/

theorem Notice.code_lt (v : Notice) : v.code < 8 := by cases v <;> decide

theorem Notice.code_inj {v c : Notice} : v.code = c.code ↔ v = c := by
  cases v <;> cases c <;> decide

/-- A set holds a class exactly where its bit is set. -/
theorem holds_bit (x : NoticeSet) (v : Notice) : ((x &&& v.bit) != 0) = x.getLsbD v.code := by
  have hne : BitVec.twoPow 8 v.code ≠ 0 := by cases v <;> decide
  unfold Notice.bit
  rw [BitVec.and_twoPow]
  cases x.getLsbD v.code <;> simp_all

theorem Notice.getLsbD_bit (c v : Notice) : c.bit.getLsbD v.code = decide (v = c) := by
  simp [Notice.bit, Notice.code_lt, ← Notice.code_inj, eq_comm]

theorem raisesIf_raise (c v : Notice) (s : State) : raisesIf v (decide (v = c)) s (raise c s) := by
  constructor
  · unfold pendingNotice
    simp only [holds_bit]
    simp [raise, Notice.getLsbD_bit]
  · unfold clearsNotice
    simp only [holds_bit]
    have hnot : (~~~c.bit).getLsbD v.code = !c.bit.getLsbD v.code := by
      rw [BitVec.getLsbD_not, decide_eq_true v.code_lt, Bool.true_and]
    simp only [raise, State.port_setPort, BitVec.getLsbD_and, hnot, Notice.getLsbD_bit]

theorem raisesIf_trans {v : Notice} {b c : Bool} {s t u : State} (h : raisesIf v b s t) (h' : raisesIf v c t u) :
    raisesIf v (b || c) s u := by
  obtain ⟨h1, h2⟩ := h
  obtain ⟨h3, h4⟩ := h'
  exact ⟨by rw [h3, h1, Bool.or_assoc], by rw [h4, h2, Bool.not_or, Bool.and_assoc]⟩

/-! ## Attention flags -/

theorem Attention.of_replace (a : Attention) (l : List Nat) (c d : RecordClass) :
    (a.replace l c).of d = if d = c then l else a.of d := by
  cases c <;> cases d <;> rfl

theorem flagsIf_flag (c k : RecordClass) (m n : Nat) (s : State) :
    flagsIf k n (decide (k = c ∧ n = m)) s (flag c m s) := by
  constructor
  · have hflags : (flag c m s).notices.flags = s.notices.flags.replace (insertNat m (s.notices.flags.of c)) c := rfl
    unfold flagged
    rw [hflags, Attention.of_replace]
    by_cases h : k = c
    · subst h
      rw [Bool.eq_iff_iff]
      simp [mem_insertNat, or_comm]
    · simp [h]
  · have hslots : (flag c m s).port.onPlace.slots = keepSlot c m s.port.onPlace.slots := rfl
    unfold clearsFlag
    rw [hslots]
    cases s.port.onPlace.slots with
    | none => simp [keepSlot]
    | some x =>
      obtain ⟨d, l⟩ := x
      by_cases hc : c = d
      · subst hc
        rw [Bool.eq_iff_iff]
        by_cases hk : c = k
        · simp [keepSlot, hk]
        · simp [keepSlot, hk]
      · by_cases hk : k = c
        · subst hk
          simp [keepSlot, hc, Ne.symm hc]
        · simp [keepSlot, hc, hk]

theorem flagsIf_trans {k : RecordClass} {n : Nat} {b c : Bool} {s t u : State} (h : flagsIf k n b s t)
    (h' : flagsIf k n c t u) : flagsIf k n (b || c) s u := by
  obtain ⟨h1, h2⟩ := h
  obtain ⟨h3, h4⟩ := h'
  exact ⟨by rw [h3, h1, Bool.or_assoc], by rw [h4, h2, Bool.not_or, Bool.and_assoc]⟩

theorem flagged_unflag (c k : RecordClass) (m n : Nat) (s : State) :
    flagged k n (unflag c m s) = (flagged k n s && !decide (k = c ∧ n = m)) := by
  have hflags : (unflag c m s).notices.flags =
      s.notices.flags.replace ((s.notices.flags.of c).filter (fun k => k != m)) c := rfl
  unfold flagged
  rw [hflags, Attention.of_replace]
  by_cases h : k = c
  · subst h
    rw [Bool.eq_iff_iff]
    simp
  · simp [h]

/-! ## What an operation raises and flags -/

/-- From `s` to `t` exactly these classes are raised and these slots flagged. -/
structure Indicates (ns : List Notice) (fs : List (RecordClass × Nat)) (s t : State) : Prop where
  raises : raisesExactly ns s t
  flags : flagsExactly fs s t

/-- An operation that leaves the notices and what an answer is to clear. -/
theorem Indicates.of_same {s t : State} (hn : t.notices = s.notices) (hp : t.port.onPlace = s.port.onPlace) :
    Indicates [] [] s t := by
  refine ⟨⟨by rw [hn], by rw [hp], by rw [hp], fun v => ?_⟩, fun k n => ?_⟩
  · simp [raisesIf, pendingNotice, clearsNotice, hn, hp]
  · simp [flagsIf, flagged, clearsFlag, hn, hp]

theorem Indicates.refl (s : State) : Indicates [] [] s s := .of_same rfl rfl

theorem Indicates.trans {ns ms : List Notice} {fs gs : List (RecordClass × Nat)} {s t u : State}
    (h : Indicates ns fs s t) (h' : Indicates ms gs t u) : Indicates (ns ++ ms) (fs ++ gs) s u := by
  obtain ⟨⟨he, hi, ho, hr⟩, hf⟩ := h
  obtain ⟨⟨he', hi', ho', hr'⟩, hf'⟩ := h'
  refine ⟨⟨he'.trans he, hi'.trans hi, ho'.trans ho, fun v => ?_⟩, fun k n => ?_⟩
  · simpa using raisesIf_trans (hr v) (hr' v)
  · simpa using flagsIf_trans (hf k n) (hf' k n)

/-- Which classes and which slots they are is what counts, not how they are listed. -/
theorem Indicates.congr {ns ms : List Notice} {fs gs : List (RecordClass × Nat)} {s t : State}
    (h : Indicates ns fs s t) (hn : ∀ v, v ∈ ms ↔ v ∈ ns) (hf : ∀ x, x ∈ gs ↔ x ∈ fs) : Indicates ms gs s t := by
  obtain ⟨⟨he, hi, ho, hr⟩, hfl⟩ := h
  have e1 (v : Notice) : ms.contains v = ns.contains v := by simp [hn]
  have e2 (x : RecordClass × Nat) : gs.contains x = fs.contains x := by simp [hf]
  exact ⟨⟨he, hi, ho, fun v => by rw [e1]; exact hr v⟩, fun k n => by rw [e2]; exact hfl k n⟩

section
variable {ns : List Notice} {fs : List (RecordClass × Nat)} {s t : State}

/-- An operation that leaves the notices and what an answer is to clear adds nothing. -/
theorem Indicates.same {u : State} (h : Indicates ns fs s t) (hn : u.notices = t.notices)
    (hp : u.port.onPlace = t.port.onPlace) : Indicates ns fs s u := by
  simpa using h.trans (.of_same hn hp)

theorem Indicates.raise (h : Indicates ns fs s t) (c : Notice) : Indicates (c :: ns) fs s (raise c t) := by
  have h1 : Indicates [c] [] t (Machine.raise c t) := by
    refine ⟨⟨rfl, rfl, rfl, fun v => ?_⟩, fun k n => ⟨?_, ?_⟩⟩
    · simpa using raisesIf_raise c v t
    · simp [flagged, Machine.raise]
    · simp [clearsFlag, Machine.raise]
  exact (h.trans h1).congr (by simp [or_comm]) (by simp)

theorem Indicates.flag (h : Indicates ns fs s t) (c : RecordClass) (n : Nat) :
    Indicates ns ((c, n) :: fs) s (flag c n t) := by
  have h1 : Indicates [] [(c, n)] t (Machine.flag c n t) := by
    refine ⟨⟨rfl, rfl, rfl, fun v => ⟨?_, ?_⟩⟩, fun k m => ?_⟩
    · simp [pendingNotice, Machine.flag, setFlags]
    · simp [clearsNotice, Machine.flag, setFlags]
    · have := flagsIf_flag c k n m t
      simpa using this
  exact (h.trans h1).congr (by simp) (by simp [or_comm])

theorem Indicates.flagAll (h : Indicates ns fs s t) (c : RecordClass) (l : List Nat) :
    Indicates ns (l.map (fun n => (c, n)) ++ fs) s (flagAll c l t) := by
  induction l generalizing fs t with
  | nil => exact h
  | cons n l ih =>
    refine (ih (h.flag c n)).congr (fun _ => .rfl) (fun x => ?_)
    simp [or_left_comm, or_assoc, or_comm]

theorem Indicates.mark (h : Indicates ns fs s t) (c : RecordClass) (n : Nat) (v : Notice) :
    Indicates (v :: ns) ((c, n) :: fs) s (mark c n v t) := (h.flag c n).raise v

/-- A run of changes, each of which flags its slot and raises no class but those of `ms`. -/
theorem Indicates.foldl {f : State → Nat → State} {c : RecordClass} {ms : List Notice}
    (hf : ∀ t n, Indicates ms [(c, n)] t (f t n)) (l : List Nat) (h : Indicates ns fs s t) :
    Indicates ((if l = [] then [] else ms) ++ ns) (l.map (fun n => (c, n)) ++ fs) s (l.foldl f t) := by
  induction l generalizing ns fs t with
  | nil => exact h
  | cons n l ih =>
    refine (ih (h.trans (hf t n))).congr (fun v => ?_) (fun x => ?_)
    · split <;> simp <;> tauto
    · simp only [List.map_cons, List.mem_append, List.mem_cons, List.not_mem_nil, or_false]
      tauto

end

theorem raisesExactly_unflag (c : RecordClass) (n : Nat) (s : State) : raisesExactly [] s (unflag c n s) :=
  ⟨rfl, rfl, rfl, fun v => by simp [raisesIf, pendingNotice, clearsNotice, unflag, setFlags]⟩

/-! ## The parts that stay -/

theorem same_port {s t : State} (h : t.port.state = s.port.state ∧ t.port.discarded = s.port.discarded ∧
    t.port.held = s.port.held ∧ t.port.skip = s.port.skip ∧ t.port.sent = s.port.sent ∧
    t.port.drawn = s.port.drawn) : s.same t .port := by
  obtain ⟨h1, h2, h3, h4, h5, h6⟩ := h
  unfold State.same
  simp only [h1, h2, h3, h4, h5, h6]

/-! ## A trigger -/

theorem triggers_trigger {s t : State} (h : t.tracer = s.tracer) : triggers s (trigger t) := by
  have hin : takeInputs (trigger t) = takeInputs t := by simp [takeInputs]
  unfold triggers
  rw [hin]
  unfold trigger
  rw [h]
  cases s.tracer.pass with
  | idle => rfl
  | running inp =>
    dsimp only
    split <;> rfl

end Sys2Proof.Machine
end

section
/-! SUPPORT. The definitions of a model, and ALTER SEGMENT (R7 to R9, R15, R40). -/

namespace Sys2Proof.Machine

/-! ## The definitions (R7 to R9, R40) -/

theorem clamp_eq {lo hi : Nat} (h : lo ≤ hi) (n : Nat) : clamp lo hi n = max lo (min hi n) := by
  unfold clamp
  split <;> (try split) <;> omega

theorem clamp_ne_iff {lo hi n : Nat} : clamp lo hi n ≠ n ↔ n < lo ∨ hi < n := by
  unfold clamp
  split <;> (try split) <;> omega

/-- The first tests of a definition, from desk 0 while LOADING, are passed. -/
theorem definitionTests_passed {h : Header} {s : State} (hd : h.desk = 0) (hm : s.model = .loading) {x : Bool × Result}
    (hx : x ∈ definitionTests h s) : x.1 = true := by
  simp only [definitionTests, List.mem_cons, List.not_mem_nil, or_false] at hx
  rcases hx with rfl | rfl
  · simpa using hd
  · simp [State.running, hm]

/-- A definition whose own field test is passed is carried out. -/
theorem definition_passed {h : Header} {s : State} {b : Bool} (hd : h.desk = 0) (hm : s.model = .loading) (hb : b = true)
    (f : State → State × Reply) : tested (definitionTests h s ++ [(b, .badField)]) f s = f s := by
  refine tested_passed (fun x hx => ?_) f s
  rcases List.mem_append.1 hx with hx | hx
  · exact definitionTests_passed hd hm hx
  · obtain rfl : x = (b, .badField) := by simpa using hx
    exact hb

/-- Settles O20: each definition passes its tests and writes the one record. -/
theorem definitionsWriteRecords : Obligations.DefinitionsWriteRecords := by
  unfold Obligations.DefinitionsWriteRecords
  intro h s hs hd hm
  refine ⟨fun n tier zone customers k hw hn hk => ?_, fun n kind a b normal op tag rep k p o r hw hn hk hstop ha hb hp ho
    htag hr hmov => ?_, fun n tag seg z g group k hyst stale hw hn hseg hg hgroup => ?_⟩
  · have hzone : zone < 256 := by
      simp only [wellFormed, fits8, Bool.and_eq_true, decide_eq_true_eq] at hw
      exact hw.1.2
    have hact : defineSegment h n tier zone customers s =
        (unflag .segment n (s.putSegment n (newSegment k zone customers)),
          .doneClamped (decide (65535 < customers)) [.u16 n]) := by
      unfold defineSegment
      rw [definition_passed hd hm (by simp [hn, hk, hzone, Config.segmentSlots])]
      simp only [hk, Option.getD_some]
      rfl
    refine ⟨unflag .segment n (s.putSegment n (newSegment k zone customers)), ?_, fun q hq => ?_, fun m => ?_,
      raisesExactly_unflag .segment n _, fun c m => flagged_unflag .segment c n m _⟩
    · refine Eq.trans (request_listening hs hw h [] _) ?_
      rw [settle_nil, hact]
      rfl
    · cases q
      case port => exact same_port (by simp)
      all_goals simp [State.same] at hq ⊢
    · simp [Table.at?_put, newSegment, Config.topCustomers]
  · have hact : defineValve h n kind a (some b) normal op tag rep s =
        (unflag .valve n (s.putValve n (freshValve k a b p o tag r s.now)), .done [.u16 n]) := by
      have htest : defineValveTest n kind a (some b) normal op tag rep = true := by
        have ha' : a.all (fun x => decide (x < Config.segmentSlots)) = true := by
          cases a with
          | none => rfl
          | some x => exact decide_eq_true (ha x rfl)
        have htag' : (decide (some o = some .manual) && tag.isSome) = false := by
          by_cases e : o = .manual
          · simp [htag e]
          · simp [e]
        unfold defineValveTest definableKind initialReport
        rw [ha', ho, htag']
        simp [hk, hp, hr, hn, hb, hstop, hmov, Config.valveSlots, Config.segmentSlots]
      unfold defineValve
      rw [definition_passed hd hm htest]
      simp [hk, hp, ho, hr]
    refine ⟨unflag .valve n (s.putValve n (freshValve k a b p o tag r s.now)), ?_, fun q hq => ?_, fun m => ?_,
      raisesExactly_unflag .valve n _, fun c m => flagged_unflag .valve c n m _⟩
    · refine Eq.trans (request_listening hs hw h [] _) ?_
      rw [settle_nil, hact]
      rfl
    · cases q
      case port => exact same_port (by simp)
      all_goals simp [State.same] at hq ⊢
    · simp [Table.at?_put, freshValve, State.now]
  · have hact : definePoint h n tag seg z g group k hyst stale s =
        (unflag .point n (s.putPoint n (newPoint tag seg z g group k hyst stale s.now)),
          .doneClamped (decide (k < 1 ∨ 15 < k ∨ stale < 1 ∨ 60 < stale)) [.u16 n]) := by
      unfold definePoint
      rw [definition_passed hd hm (by simp [hn, hseg, hg, hgroup, Config.pointSlots, Config.segmentSlots])]
      congr 2
      rw [Bool.eq_iff_iff]
      simp only [Bool.or_eq_true, bne_iff_ne, clamp_ne_iff, decide_eq_true_eq, or_assoc]
    refine ⟨unflag .point n (s.putPoint n (newPoint tag seg z g group k hyst stale s.now)), ?_, fun q hq => ?_,
      fun m => ?_, raisesExactly_unflag .point n _, fun c m => flagged_unflag .point c n m _⟩
    · refine Eq.trans (request_listening hs hw h [] _) ?_
      rw [settle_nil, hact]
      rfl
    · cases q
      case port => exact same_port (by simp)
      all_goals simp [State.same] at hq ⊢
    · simp [Table.at?_put, newPoint, clamp_eq, State.now]

/-! ## ALTER SEGMENT (R15) -/

theorem running_iff {s : State} : s.running = true ↔ s.model = .running := by simp [State.running]

/-- Settles O22: the tests in their order, then the two ways of an admitted request. -/
theorem alterSegmentWrites : Obligations.AlterSegmentWrites := by
  unfold Obligations.AlterSegmentWrites
  intro h n zone customers s hs hw
  have hexec : exec (.alterSegment h n zone customers) s =
      .next (acting h.tag (alterSegment h n zone customers s).2 (alterSegment h n zone customers s).1) :=
    request_listening hs hw h [] _
  have hzone : zone.all (fun z => decide (z < 256)) = true := by
    simp only [wellFormed, Bool.and_eq_true] at hw
    exact hw.1.2
  rw [hexec]
  refine ⟨fun hm => ?_, fun hm hn => ?_, fun hm hn hin => ?_, fun hm hn hin hnone => ?_, fun g hm hn hin hg =>
    ⟨fun hc hsup => ?_, fun hok => ?_⟩⟩
  · rw [alterSegment, tested_failed (r := .notRunning) (by simp [firstFailure, State.running, hm])]
    rfl
  · rw [alterSegment, tested_failed (r := .badField) (by
      simp [firstFailure, State.running, hm, Config.segmentSlots, Nat.not_lt.2 hn])]
    rfl
  · rw [alterSegment, tested_failed (r := .outOfArea) (by
      simp [firstFailure, State.running, hm, Config.segmentSlots, hn, hzone, hin])]
    rfl
  · rw [alterSegment, tested_failed (r := .noRecord) (by
      simp [firstFailure, State.running, hm, Config.segmentSlots, hn, hzone, hin, Table.has, hnone])]
    rfl
  · rw [alterSegment, tested_failed (r := .wrongState) (by
      simp [firstFailure, State.running, hm, Config.segmentSlots, hn, hzone, hin, Table.has, Table.test, hg, hc, hsup])]
    rfl
  · have hact : alterSegment h n zone customers s =
        (if zone = none && customers = none then s
          else mark .segment n .model (s.updSegment n (alteredSegment zone customers)),
          .doneClamped (customers.any (fun c => decide (65535 < c))) []) := by
      rw [alterSegment, tested_passed]
      · rfl
      · simp [State.running, hm, Config.segmentSlots, hn, hzone, hin, Table.has, Table.test, hg, hok]
    rw [hact]
    refine ⟨_, rfl, fun hz hc => by simp [hz, hc], fun hgiven => ?_⟩
    rw [if_neg (by simpa [imp_iff_not_or] using hgiven)]
    have hind : Indicates [.model] [(.segment, n)] s (mark .segment n .model (s.updSegment n (alteredSegment zone customers))) :=
      ((Indicates.refl s).same (u := s.updSegment n (alteredSegment zone customers)) rfl rfl).mark .segment n .model
    refine ⟨fun q hq => ?_, hind.raises, hind.flags, fun m => ?_⟩
    · cases q
      case port => exact same_port (by simp)
      all_goals simp [State.same] at hq ⊢
    · by_cases e : m = n
      · subst e
        cases customers <;> simp [Table.at?_upd, hg, alteredSegment, Config.topCustomers]
      · simp [Table.at?_upd, e]

end Sys2Proof.Machine
end

section
/-! SUPPORT. The requests that only read (R23, R24, R43, R84, R85, R142, R171, R178). -/

namespace Sys2Proof.Machine

/-! ## The fields of an answer -/

theorem opt8_eq (x : Option Nat) : opt8 x = (x.map (fun n => [Field.u8 1, .u8 n])).getD [.u8 0, .absent 1] := by
  cases x <;> rfl

theorem opt16_eq (x : Option Nat) : opt16 x = (x.map (fun n => [Field.u8 1, .u16 n])).getD [.u8 0, .absent 2] := by
  cases x <;> rfl

theorem opt32_eq (x : Option Nat) : opt32 x = (x.map (fun n => [Field.u8 1, .u32 n])).getD [.u8 0, .absent 4] := by
  cases x <;> rfl

theorem optTag_eq (x : Option Tag) :
    optTag x = (x.map (fun t => [Field.u8 1, .u8 t.concentrator, .u8 t.channel])).getD [.u8 0, .absent 2] := by
  cases x <;> rfl

theorem listOf_eq {α : Type} (f : α → List Field) (l : List α) :
    listOf f l = .u8 (l.map f).length :: (l.map f).flatten := by
  simp [listOf, List.flatMap]

theorem list16_eq (l : List Nat) :
    list16 l = .u8 (l.map (fun n => [Field.u16 n])).length :: (l.map (fun n => [Field.u16 n])).flatten := listOf_eq _ l

theorem bne_eq_decide_ne {α : Type} [DecidableEq α] (a b : α) : (a != b) = decide (a ≠ b) := by
  simp [bne, Bool.beq_eq_decide_eq]

/-- A valve passes gas exactly if it is not reported CLOSED (R5). -/
theorem passesGas_eq (a : Valve) : a.passesGas = decide (a.reported ≠ .closed) := bne_eq_decide_ne _ _

theorem wanted_code (a : Valve) : a.wanted.code = if 0 < a.hold then Position.closed.code else a.normal.code := by
  unfold Valve.wanted
  split <;> rfl

/-! ## A request that reads -/

/-- A request whose action leaves the state leaves its answer alone. -/
theorem request_reads {c : Instr} {h : Header} {owed : List TimedWork} {act : State → State × Reply} {s : State}
    {r : Reply} (hs : s.ready) (hact : act s = (s, r)) (hw : wellFormed c = true) :
    request c h owed act s = .next (acting h.tag r s) := by
  rw [request_ready hs hw, hact]

section
variable {s : State} {n : Nat}

theorem readSegment_badField (h : 4096 ≤ n) : readSegment n s = (s, .refusal .badField) :=
  tested_failed (by simp [firstFailure, Config.segmentSlots, Nat.not_lt.2 h]) _ s

theorem readSegment_free (h : n < 4096) (hn : Table.at? s.segments n = none) :
    readSegment n s = (s, .refusalWith .noRecord (modelFigures s)) := by
  rw [readSegment, tested_passed (by simp [Config.segmentSlots, h]), hn]

theorem readSegment_used (h : n < 4096) {g : Segment} (hn : Table.at? s.segments n = some g) :
    readSegment n s = (s, .done (segmentFields s n g ++ modelFigures s)) := by
  rw [readSegment, tested_passed (by simp [Config.segmentSlots, h]), hn]

theorem readValve_badField (h : 6144 ≤ n) : readValve n s = (s, .refusal .badField) :=
  tested_failed (by simp [firstFailure, Config.valveSlots, Nat.not_lt.2 h]) _ s

theorem readValve_free (h : n < 6144) (hn : Table.at? s.valves n = none) :
    readValve n s = (s, .refusalWith .noRecord (modelFigures s)) := by
  rw [readValve, tested_passed (by simp [Config.valveSlots, h]), hn]

theorem readValve_used (h : n < 6144) {a : Valve} (hn : Table.at? s.valves n = some a) :
    readValve n s = (s, .done (valveFields s n a ++ modelFigures s)) := by
  rw [readValve, tested_passed (by simp [Config.valveSlots, h]), hn]

theorem alterPoint_free (h : Header) (hn : n < 1024) (hfree : Table.at? s.points n = none) :
    alterPoint h n none none none none none none s = (s, .refusal .noRecord) := by
  rw [alterPoint, if_pos (by simp), tested_failed (r := .noRecord) (by simp [firstFailure, Config.pointSlots, hn, Table.has, hfree])]

theorem alterPoint_reads (h : Header) (hn : n < 1024) {p : Point} (hp : Table.at? s.points n = some p) :
    alterPoint h n none none none none none none s = (s, .done (pointFields s n)) := by
  rw [alterPoint, if_pos (by simp), tested_passed (by simp [Config.pointSlots, hn, Table.has, hp])]

theorem readOutage_free {start : Nat} (hn : n < 128) (hst : start < 4096) (hfree : Table.at? s.outages n = none) :
    readOutage n start s = (s, .refusal .noRecord) :=
  tested_failed (by simp [firstFailure, Config.outageSlots, Config.segmentSlots, hn, hst, Table.has, hfree]) _ s

theorem readOutage_used {start : Nat} (hn : n < 128) (hst : start < 4096) {o : Outage}
    (ho : Table.at? s.outages n = some o) : readOutage n start s = (s, .done (outageFields s n o start)) := by
  rw [readOutage, tested_passed (by simp [Config.outageSlots, Config.segmentSlots, hn, hst, Table.has, ho]), ho]

theorem readPlan_free (hm : s.model = .running) (hn : n < 64) (hfree : Table.at? s.plans n = none) :
    readPlan n s = (s, .refusalWith .noRecord (planFigures s n)) := by
  rw [readPlan, tested_passed (by simp [running_iff.2 hm, Config.planSlots, hn]), hfree]

theorem readPlan_used (hm : s.model = .running) (hn : n < 64) {q : Plan} (hq : Table.at? s.plans n = some q) :
    readPlan n s = (s, .done (planFields s n q ++ planFigures s n)) := by
  rw [readPlan, tested_passed (by simp [running_iff.2 hm, Config.planSlots, hn]), hq]

end

theorem members_from (s : State) (o start : Nat) : (members s o).filter (fun r => start ≤ r.1) =
    s.segments.filter (fun x => decide (x.2.outage = some o) && decide (start ≤ x.1)) := by
  simp [members, List.filter_filter, Bool.and_comm]

theorem pointFields_eq {s : State} {n : Nat} {p : Point} (hp : Table.at? s.points n = some p) : pointFields s n =
    [.u16 n, .u8 p.tag.concentrator, .u8 p.tag.channel, .u16 p.segment, .u16 p.zero, .u16 p.gain, .u8 p.group,
      .u8 p.persistence, .u16 p.hysteresis, .u8 p.staleLimit] ++ opt16 p.lastRaw ++ opt32 p.lastPressure ++
    [yes p.valid, .u32 p.lastContact, .u8 p.condition.code, .u8 p.band.code] ++
    opt8 (p.candidate.map Band.code) ++ [.u8 p.count] ++ opt8 p.selected ++ [yes (flagged .point n s)] ++
    ((p.selected.bind (Table.at? s.profiles)).map (fun e =>
      [Field.u32 e.ll, .u32 e.l, .u32 e.h, .u32 e.hh])).getD [] := by
  unfold pointFields
  rw [hp]
  dsimp only
  cases p.selected.bind (Table.at? s.profiles) <;> rfl

theorem activeFields_eq (s : State) (v : Nat) : activeFields s v = .u16 v :: ((Table.at? s.valves v).map (fun a =>
    [Field.u8 a.reported.code, .u8 a.hold, .u8 a.orderState.code, yes a.inoperable])).getD [] := by
  unfold activeFields
  cases Table.at? s.valves v <;> rfl

theorem passCode_eq (p : Pass) : p.code = if p = .idle then 0 else 1 := by
  cases p <;> simp [Pass.code]

/-- Settles O25: each request is a read, and its body is the one claimed, field by field. -/
theorem readsChangeNothing : Obligations.ReadsChangeNothing := by
  unfold Obligations.ReadsChangeNothing
  intro h s hs
  extract_lets answers o8 o16 o32 yn list numbers figures code t segs outs valve
  have e8 (x : Option Nat) : opt8 x = o8 x := opt8_eq x
  have e16 (x : Option Nat) : opt16 x = o16 x := opt16_eq x
  have e32 (x : Option Nat) : opt32 x = o32 x := opt32_eq x
  have eyes (b : Bool) : yes b = yn b := rfl
  have elist {α : Type} (f : α → List Field) (l : List α) : listOf f l = list (l.map f) := listOf_eq f l
  have enumbers (l : List Nat) : list16 l = numbers l := list16_eq l
  have efigures : modelFigures s = figures := rfl
  refine ⟨fun n hn hw => ?_, fun n hn hfree hw => ?_, fun n g hn hg hw => ?_, fun v hv hw => ?_,
    fun v hv hfree hw => ?_, fun v a hv ha hw => ?_, fun n hn hfree hw => ?_, fun n p hn hp hw => ?_, fun hw => ?_,
    fun o start ho hst hfree hw => ?_, fun o start r ho hst hr hw => ?_, fun hm p hp => ?_, fun hw => ?_⟩
  · exact request_reads hs (readSegment_badField hn) hw
  · exact request_reads hs (readSegment_free hn hfree) hw
  · refine (request_reads hs (readSegment_used hn hg) hw).trans ?_
    rw [segmentFields, e8, eyes, enumbers, enumbers, efigures]
    rfl
  · exact request_reads hs (readValve_badField hv) hw
  · exact request_reads hs (readValve_free hv hfree) hw
  · refine (request_reads hs (readValve_used hv ha) hw).trans ?_
    rw [valveFields, e16, e32, optTag_eq, passesGas_eq, wanted_code, efigures]
    rfl
  · exact request_reads hs (alterPoint_free h hn hfree) hw
  · refine (request_reads hs (alterPoint_reads h hn hp) hw).trans ?_
    rw [pointFields_eq hp, e8, e8, e16, e32]
    rfl
  · refine (request_reads hs rfl hw).trans ?_
    rw [traceFields, passCode_eq, e32]
    rfl
  · exact request_reads hs (readOutage_free ho hst hfree) hw
  · refine (request_reads hs (readOutage_used ho hst hr) hw).trans ?_
    rw [outageFields, members_from, e32, elist]
    rfl
  · have eabove : planFigures s p = o8 ((s.plans.map (fun r => r.1)).find? (fun m => p < m)) ++ [.u8 s.plans.length] := by
      rw [planFigures, e8]
      rfl
    refine ⟨fun hfree hw => ?_, fun q hq => ?_⟩
    · refine (request_reads hs (readPlan_free hm hp hfree) hw).trans ?_
      rw [eabove]
      rfl
    · extract_lets data test
      intro hw
      have evalve : activeFields s = valve := funext fun v => activeFields_eq s v
      have etest : testFields q.keep q.test = test := by
        simp only [test, data]
        cases q.test with
        | none => rfl
        | running d => rw [testFields, elist]; rfl
        | ended d => rw [testFields, elist]; rfl
      refine (request_reads hs (readPlan_used hm hp hq) hw).trans ?_
      rw [planFields, eabove, etest, evalve, e16, e8, enumbers, elist]
      simp only [List.append_assoc]
      rfl
  · exact (request_reads hs rfl hw).trans rfl

end Sys2Proof.Machine
end

section
/-! SUPPORT. Cold reset (R193): its values, and the part while RESET is held and after it rose. Said once before: which
of the three shapes each command has. -/

namespace Sys2Proof.Machine

/-! ## The shapes of the commands -/

/-- A request, by its frame or as such, is taken at the port. -/
theorem exec_request {c : Instr} (hc : isRequest c = true) : ∃ h owed act,
    (∀ s, exec c s = request c h owed act s) ∧ ∀ s, actOnFrame c s = request c h owed act s := by
  cases c <;> simp [isRequest, requestHeader] at hc <;> exact ⟨_, _, _, fun _ => rfl, fun _ => rfl⟩

/-- A command is a request, a step of the part, a transaction that is no request, or an edge of RESET. -/
theorem exec_shapes (c : Instr) : isRequest c = true ∨ (∃ act, ∀ s, exec c s = partStep act s) ∨
    (∃ l, c = .malformedRequestFrame l) ∨ c = .requestDiscarded ∨ (∃ n, c = .readTransaction n) ∨
    ∃ e, c = .coldReset e := by
  cases c
  case malformedRequestFrame l => exact .inr (.inr (.inl ⟨l, rfl⟩))
  case requestDiscarded => exact .inr (.inr (.inr (.inl rfl)))
  case readTransaction n => exact .inr (.inr (.inr (.inr (.inl ⟨n, rfl⟩))))
  case coldReset e => exact .inr (.inr (.inr (.inr (.inr ⟨e, rfl⟩))))
  case answerPlaced | telemetryByte | readingItem | holdItem | positionItem | linkUpItem | linkDownItem | badItem |
      publication | secondEvent | pointStale | incidentOverdue | offerExpiry | orderTimeout | windowEnd =>
    exact .inr (.inl ⟨_, fun _ => rfl⟩)
  all_goals exact .inl rfl

/-! ## What a frame spells -/

/-- Whatever a reader reads meets `P`. -/
def Reader.Gives {α : Type} (P : α → Prop) (r : Reader α) : Prop := ∀ l a rest, r l = some (a, rest) → P a

theorem Reader.gives_finish {α : Type} {P : α → Prop} {a : α} (h : P a) : Reader.Gives P (finish a) := by
  intro l b rest hb
  unfold finish at hb
  split at hb
  · obtain ⟨rfl, -⟩ : a = b ∧ [] = rest := by simpa using hb
    exact h
  · simp at hb

theorem Reader.gives_bind {α β : Type} {P : β → Prop} {r : Reader α} {f : α → Reader β}
    (h : ∀ a, Reader.Gives P (f a)) : Reader.Gives P (Reader.bind r f) := by
  intro l b rest hb
  unfold Reader.bind at hb
  split at hb
  · simp at hb
  · exact h _ _ _ _ hb

theorem requestBodies_give_requests (h : Header) :
    ∀ r ∈ requestBodies h, Reader.Gives (fun c => isRequest c = true) r := by
  simp only [requestBodies, networkBodies, fieldBodies, incidentBodies, planBodies, orderBodies, timeBodies,
    List.forall_mem_append, List.forall_mem_cons, List.not_mem_nil, false_imp_iff, implies_true, and_true]
  repeat' apply And.intro
  all_goals
    repeat refine Reader.gives_bind fun _ => ?_
    exact Reader.gives_finish rfl

/-- A frame that passes the port tests spells a request (R188 step 4). -/
theorem isRequest_of_parseFrame {l : List Byte} {c : Instr} (h : parseFrame l = .passed c) : isRequest c = true := by
  unfold parseFrame at h
  split at h
  · split at h <;> try contradiction
    split at h <;> try contradiction
    split at h <;> try contradiction
    unfold parseBody at h
    split at h <;> try contradiction
    split at h <;> try contradiction
    rename_i c' rest hr
    obtain rfl : c' = c := by simpa using h
    obtain ⟨r, hmem, hread⟩ := Option.bind_eq_some_iff.1 hr
    exact requestBodies_give_requests _ r (List.mem_of_getElem? hmem) _ _ _ hread
  · contradiction
  · contradiction

/-! ## While RESET is held -/

section
variable {s : State}

theorem atPort_held (hs : s.port.held = true) (x : Option Result) (tag : Nat) (act : State → State × Reply) :
    atPort x tag act s = s := by
  simp [atPort, hs]

theorem readPort_held (hs : s.port.held = true) (n : Nat) :
    readPort n s = s.setPort { s.port with sent := List.replicate n 0 } := by
  simp [readPort, hs, setSent]

/-- A command other than a read transaction and an edge of RESET leaves the state. -/
theorem exec_held (hs : s.port.held = true) {c : Instr} (hreset : ∀ e, c ≠ .coldReset e)
    (hread : ∀ n, c ≠ .readTransaction n) (hbytes : ∀ rest, c ≠ .malformedRequestFrame (90 :: rest)) :
    exec c s = .next s := by
  rcases exec_shapes c with h | ⟨act, h⟩ | ⟨l, rfl⟩ | rfl | ⟨n, rfl⟩ | ⟨e, rfl⟩
  · obtain ⟨hd, owed, act, hexec, -⟩ := exec_request h
    rw [hexec, request, atPort_held hs]
  · rw [h, partStep, if_pos hs]
  · change execMalformedRequestFrame l s = _
    cases l with
    | nil => simp [execMalformedRequestFrame, emptyTransaction, hs]
    | cons first rest =>
      have hfirst : first ≠ 90 := by rintro rfl; exact hbytes rest rfl
      simp only [execMalformedRequestFrame, if_neg hfirst]
      split
      · rw [atPort_held hs]
      · rename_i c' hparse
        obtain ⟨hd, owed, act, -, hframe⟩ := exec_request (isRequest_of_parseFrame hparse)
        rw [hframe, request, atPort_held hs]
  · change Host.Outcome.next (frameDiscarded s) = _
    rw [frameDiscarded, if_pos hs]
  · exact absurd rfl (hread n)
  · exact absurd rfl (hreset e)

/-- A read transaction sends 0 for every byte. -/
theorem exec_held_read (hs : s.port.held = true) (n : Nat) :
    exec (.readTransaction n) s = .next (s.setPort { s.port with sent := List.replicate n 0 }) :=
  congrArg _ (readPort_held hs n)

theorem exec_held_bytes (hs : s.port.held = true) (rest : List Byte) : exec (.malformedRequestFrame (90 :: rest)) s =
    .next (s.setPort { s.port with sent := List.replicate rest.length 0 }) := by
  change execMalformedRequestFrame (90 :: rest) s = _
  rw [execMalformedRequestFrame, if_pos rfl, readPort_held hs]

end

/-! ## The transaction that RESET cut off -/

section
variable {s : State}

theorem atPort_skipped (hs : s.port.held = false) (hk : s.port.skip = true) (x : Option Result) (tag : Nat)
    (act : State → State × Reply) : atPort x tag act s = endSkip s := by
  simp [atPort, hs, hk, endSkip]

theorem readPort_skipped (hs : s.port.held = false) (hk : s.port.skip = true) (n : Nat) :
    readPort n s = s.setPort { s.port with skip := false, sent := List.replicate n 0 } := by
  rw [readPort, if_neg (by simp [hs]), if_pos hk]
  rfl

theorem exec_skipped_frame (hs : s.port.held = false) (hk : s.port.skip = true) {first : Byte} (hfirst : first ≠ 90)
    (rest : List Byte) : exec (.malformedRequestFrame (first :: rest)) s = .next (endSkip s) := by
  change execMalformedRequestFrame (first :: rest) s = _
  simp only [execMalformedRequestFrame, if_neg hfirst]
  split
  · rw [atPort_skipped hs hk]
  · rename_i c hparse
    obtain ⟨hd, owed, act, -, hframe⟩ := exec_request (isRequest_of_parseFrame hparse)
    rw [hframe, request, atPort_skipped hs hk]

end

/-! ## The pins while RESET is held -/

/-- RESET is held with the pins as cold reset drives them. -/
structure State.quiet (s : State) : Prop where
  held : s.port.held = true
  answer : answerPin s = false
  notice : noticePin s = false
  ready : readyPin s = true

/-- What a command makes of a quiet state is quiet. -/
theorem exec_quiet {s : State} (hs : s.quiet) {c : Instr} (hc : ∀ e, c ≠ .coldReset e) :
    ∃ t, exec c s = .next t ∧ t.quiet ∧ t.pending = s.pending := by
  have hsent (n : Nat) : (s.setPort { s.port with sent := List.replicate n 0 }).quiet :=
    ⟨hs.held, hs.answer, hs.notice, hs.ready⟩
  by_cases hread : ∃ n, c = .readTransaction n
  · obtain ⟨n, rfl⟩ := hread
    exact ⟨_, exec_held_read hs.held n, hsent n, rfl⟩
  by_cases hbytes : ∃ rest, c = .malformedRequestFrame (90 :: rest)
  · obtain ⟨rest, rfl⟩ := hbytes
    exact ⟨_, exec_held_bytes hs.held rest, hsent rest.length, rfl⟩
  exact ⟨s, exec_held hs.held hc (by simpa using hread) (by simpa using hbytes), hs, rfl⟩

/-- A run of one step more, by what the first step makes of the state. -/
theorem run_succ {k : Nat} {s u : State} (h : step s = .next u) :
    Host.Core.run Sys2Proof.core (k + 1) s = Host.Core.run Sys2Proof.core k u := by
  have hstep : Sys2Proof.core.step s = .next u := h
  simp only [Host.Core.run]
  rw [hstep]

theorem run_quiet {l : List Instr} {s t : State} (hl : ∀ c ∈ l, ∀ e, c ≠ .coldReset e) (hs : s.quiet)
    (hp : s.pending = l) (ht : Host.Core.run Sys2Proof.core l.length s = .next t) : t.quiet := by
  induction l generalizing s with
  | nil =>
    obtain rfl := Host.Outcome.next.inj ht
    exact hs
  | cons c l ih =>
    obtain ⟨u, hu, hq, hpu⟩ := exec_quiet (s := s.setPending l) ⟨hs.held, hs.answer, hs.notice, hs.ready⟩ (hl c (by simp))
    have hstep : step s = .next u := by rw [step, hp, ← hu]
    rw [List.length_cons, run_succ hstep] at ht
    exact ih (fun d hd => hl d (by simp [hd])) hq (by simpa using hpu) ht

/-- Settles O13: the values are those of the reset state; the rest by the shape of the command. -/
theorem coldResetClearsAndHoldIsDeaf : Obligations.ColdResetClearsAndHoldIsDeaf := by
  unfold Obligations.ColdResetClearsAndHoldIsDeaf
  refine ⟨fun e s => ?_, fun c s hs hc => ?_, fun c s hs hk => ?_, fun l s t hl ht => ?_⟩
  · refine ⟨resetEdge e s, rfl, ?_⟩
    cases e with
    | falls =>
      refine ⟨rfl, rfl, rfl, rfl, rfl, rfl, rfl, rfl, rfl, rfl, fun _ => rfl, fun _ => rfl, rfl, rfl, rfl, rfl, rfl, rfl,
        rfl, rfl, rfl, rfl, rfl, rfl, rfl, rfl, rfl, fun c n => ?_, rfl, rfl, rfl, ?_, ?_, rfl, rfl⟩
      · cases c <;> rfl
      all_goals simp [resetEdge, resetBlocks, State.reset]
    | rises mid =>
      refine ⟨rfl, rfl, rfl, rfl, rfl, rfl, rfl, rfl, rfl, rfl, fun _ => rfl, fun _ => rfl, rfl, rfl, rfl, rfl, rfl, rfl,
        rfl, rfl, rfl, rfl, rfl, rfl, rfl, rfl, rfl, fun c n => ?_, rfl, rfl, rfl, ?_, ?_, rfl, rfl⟩
      · cases c <;> rfl
      all_goals simp [resetEdge, resetBlocks, State.reset]
  · exact ⟨fun n h => h ▸ exec_held_read hs n, fun rest h => h ▸ exec_held_bytes hs rest, fun h1 h2 => exec_held hs hc h1 h2⟩
  · refine ⟨fun n h => ?_, fun rest h => ?_, fun h => ?_⟩
    · subst h
      exact congrArg _ (readPort_skipped hs hk n)
    · subst h
      change execMalformedRequestFrame (90 :: rest) s = _
      rw [execMalformedRequestFrame, if_pos rfl, readPort_skipped hs hk]
    · rcases h with h | rfl | rfl | ⟨first, rest, hfirst, rfl⟩
      · obtain ⟨hd, owed, act, hexec, -⟩ := exec_request h
        rw [hexec, request, atPort_skipped hs hk]
        rfl
      · change Host.Outcome.next (frameDiscarded s) = _
        rw [frameDiscarded, if_neg (by simp [hs]), if_pos hk]
        rfl
      · change Host.Outcome.next (emptyTransaction s) = _
        rw [emptyTransaction, if_neg (by simp [hs]), if_pos hk]
        rfl
      · exact exec_skipped_frame hs hk hfirst rest
  · have hquiet : (resetEdge .falls (s.setPending l)).quiet :=
      ⟨rfl, rfl, by simp [noticePin, resetEdge, resetBlocks, State.reset], rfl⟩
    rw [run_succ (u := resetEdge .falls (s.setPending l)) rfl] at ht
    obtain ⟨-, ha, hn, hr⟩ := run_quiet hl hquiet rfl ht
    exact ⟨ha, hn, hr⟩

end Sys2Proof.Machine
end

section
/-! SUPPORT. SPLIT SEGMENT (R16 to R18): the tables that a split leaves, and what it indicates. -/

namespace Sys2Proof.Machine

/-! ## The tables of a split (R17, R18) -/

/-- A run of changes over a list of valves, as one over the valve table. -/
theorem valves_foldl_updValve (f : Valve → Valve) (l : List Nat) (s : State) :
    (l.foldl (fun s x => s.updValve x f) s).valves = l.foldl (fun t x => Table.upd t x f) s.valves :=
  foldl_field State.valves _ (fun t x => Table.upd t x f) (by simp) l s

/-- A run of changes over a list of points, as one over the point table. -/
theorem points_foldl_updPoint (f : Point → Point) (l : List Nat) (s : State) :
    (l.foldl (fun s x => s.updPoint x f) s).points = l.foldl (fun t x => Table.upd t x f) s.points :=
  foldl_field State.points _ (fun t x => Table.upd t x f) (by simp) l s

/-- A point put at another segment. -/
def Point.movedTo (p : Point) (n : Nat) : Point := { p with segment := n }

section
variable {seg t v moved : Nat} {vs ps : List Nat} {g : Segment} {s : State}

@[simp] theorem split_segments : (split seg t v vs ps moved g s).segments =
    Table.put (Table.put s.segments seg (splitOld g v vs ps moved)) t (splitNew g v vs ps moved) := by
  simp [split, State.putSegment]

@[simp] theorem split_stopCount : (split seg t v vs ps moved g s).stopCount = s.stopCount + 1 := by
  simp [split]

@[simp] theorem split_points : (split seg t v vs ps moved g s).points =
    ps.foldl (fun u x => Table.upd u x (fun p => p.movedTo t)) s.points := by
  have h := points_foldl_updPoint (fun p => { p with segment := t }) ps
  simp [split, h]
  rfl

@[simp] theorem split_valves : (split seg t v vs ps moved g s).valves =
    Table.put (vs.foldl (fun u x => Table.upd u x (fun a => a.rename seg t)) s.valves) v
      (freshValve .stop (some seg) t .opened .manual none .opened s.now) := by
  have h := valves_foldl_updValve (fun a => a.rename seg t) vs
  simp [split, State.putValve, h]

theorem at?_split_segments (n : Nat) : Table.at? (split seg t v vs ps moved g s).segments n =
    if n = t then some (splitNew g v vs ps moved)
    else if n = seg then some (splitOld g v vs ps moved) else Table.at? s.segments n := by
  rw [split_segments, Table.at?_put, Table.at?_put]

theorem at?_split_valves (hvs : vs.Nodup) (n : Nat) : Table.at? (split seg t v vs ps moved g s).valves n =
    if n = v then some (freshValve .stop (some seg) t .opened .manual none .opened s.now)
    else if n ∈ vs then (Table.at? s.valves n).map (fun a => a.rename seg t) else Table.at? s.valves n := by
  rw [split_valves, Table.at?_put, Table.at?_foldl_upd hvs]

theorem at?_split_points (hps : ps.Nodup) (n : Nat) : Table.at? (split seg t v vs ps moved g s).points n =
    if n ∈ ps then (Table.at? s.points n).map (fun p => p.movedTo t) else Table.at? s.points n := by
  rw [split_points, Table.at?_foldl_upd hps]

theorem split_indicates : Indicates [.model] ([(.segment, seg), (.segment, t), (.valve, v)] ++
    vs.map (fun x => (.valve, x)) ++ ps.map (fun x => (.point, x))) s (split seg t v vs ps moved g s) := by
  unfold split
  extract_lets s1 s2 s3 s4 s5
  have h4 : Indicates [] [] s s4 := .of_same (by simp [s4, s3, s2, s1]) (by simp [s4, s3, s2, s1])
  have h5 : Indicates [] _ s s5 := ((h4.flagAll .segment [seg, t]).flagAll .valve (v :: vs)).flagAll .point ps
  refine ((h5.raise .model).same (u := trigger (raise .model s5)) (by simp) (by simp)).congr (fun _ => .rfl)
    (fun x => ?_)
  simp only [List.map_cons, List.map_nil, List.mem_append, List.mem_cons, List.not_mem_nil, or_false]
  tauto

/-- A split triggers a pass over the records as it leaves them. -/
theorem split_triggers : triggers s (split seg t v vs ps moved g s) := by
  unfold split
  extract_lets s1 s2 s3 s4 s5
  exact triggers_trigger (by simp [s5, s4, s3, s2, s1])

theorem split_changes : changesOnly [.segments, .valves, .points, .stopCount, .tracer, .notices, .onPlace] s
    (split seg t v vs ps moved g s) := by
  intro q hq
  cases q
  case port => exact same_port (by simp)
  all_goals simp [State.same] at hq ⊢

end

/-! ## The tests of SPLIT SEGMENT (R16) -/

theorem targetedLive_eq_false {s : State} {seg : Nat} :
    targetedLive s seg = false ↔ ∀ p q, (p, q) ∈ s.plans → q.target = seg → q.activeState = .idle := by
  simp [targetedLive, List.any_eq_false]

theorem activelyListed_eq_false {s : State} {v : Nat} :
    activelyListed s v = false ↔ ∀ p q, (p, q) ∈ s.plans → v ∉ q.active := by
  simp [activelyListed, List.any_eq_false]

/-- Settles O23: the request passes its ten tests, and the split is read off its tables. -/
theorem splitSegmentDivides : Obligations.SplitSegmentDivides := by
  unfold Obligations.SplitSegmentDivides
  intro h seg vs ps customers t v s g hs hw hm hseg hvr hpr hvd hpd hin hg hvl hpl hsup hlive hlisted ht hv hstop hroom
    hnew
  have htests : ∀ x ∈ splitTests h seg vs ps s, x.1 = true := by
    have htest (f : Segment → Bool) : Table.test s.segments seg f = f g := by simp [Table.test, hg]
    have hall : vs.all (fun x => !activelyListed s x) = true := by
      simpa using fun x hx => activelyListed_eq_false.2 (hlisted x hx)
    simp [splitTests, htest, running_iff.2 hm, Config.segmentSlots, hseg, Config.valveSlots, Config.pointSlots,
      distinct_iff, hvd, hpd, hin, Table.has, hg, hsup, targetedLive_eq_false.2 hlive, hall, ht, hv,
      Config.stopCapacity, hstop, Config.segmentValveCapacity, hnew]
    exact ⟨⟨fun x hx => decide_eq_true (hvr x hx), fun x hx => decide_eq_true (hpr x hx)⟩, ⟨hvl, hpl⟩, by omega⟩
  have hact : splitSegment h seg vs ps customers s = (split seg t v vs ps (min g.customers customers) g s,
      .doneClamped (decide (g.customers < customers)) [.u16 t, .u16 v]) := by
    rw [splitSegment, tested_passed htests]
    simp [hg, show Table.lowestFree s.segments Config.segmentSlots = some t from ht,
      show Table.lowestFree s.valves Config.valveSlots = some v from hv]
  refine ⟨split seg t v vs ps (min g.customers customers) g s, ?_, split_changes, split_stopCount, fun n => ?_,
    fun n => ?_, fun n => at?_split_points hpd n, split_triggers, split_indicates.raises, split_indicates.flags⟩
  · refine Eq.trans (request_ready hs hw h _ _) ?_
    rw [hact]
    rfl
  · rw [at?_split_segments]
    have hcust : g.customers - min g.customers customers = g.customers - customers := by omega
    simp [splitNew, splitOld, hcust]
  · rw [at?_split_valves hvd]
    simp [freshValve, State.now]

end Sys2Proof.Machine
end

section
/-! SUPPORT. MERGE AT STOP (R19 to R22): the tables that a merge leaves, and what it indicates. -/

namespace Sys2Proof.Machine

/-! ## Changing every record that meets a test -/

/-- A run of one change over the records that meet a test is that change on each of them. -/
theorem Table.foldl_upd_which {α : Type} {t : Table α} (ht : Table.rises t) (p : α → Bool) (f : α → α) :
    (Table.which t p).foldl (fun u n => Table.upd u n f) t = Table.image (fun a => if p a then f a else a) t := by
  refine Table.ext (Table.rises_of_keys ht (Table.keys_foldl_upd (fun _ => f) _ _))
    (Table.rises_of_keys ht (Table.keys_image _ _)) fun n => ?_
  rw [Table.at?_image, Table.at?_foldl_upd (nodup_of_rising (Table.pairwise_which ht p)) (fun _ => f)]
  simp only [Table.mem_which ht]
  cases h : Table.at? t n with
  | none => simp
  | some a => by_cases hp : p a = true <;> simp [hp]

theorem Table.mem_which_iff_test {α : Type} {t : Table α} (ht : Table.rises t) {p : α → Bool} {n : Nat} :
    n ∈ Table.which t p ↔ Table.test t n p = true := (Table.mem_which ht).trans (Table.test_iff ..).symm

theorem Table.which_ne_nil {α : Type} {t : Table α} {p : α → Bool} :
    Table.which t p ≠ [] ↔ ∃ r ∈ t, p r.2 = true := by
  simp [Table.which, Table.keys, List.filter_eq_nil_iff]

/-! ## Renaming -/

theorem Valve.rename_of_not_ends {y : Valve} {b : Nat} (h : y.ends b = false) (a : Nat) : y.rename b a = y := by
  obtain ⟨hA, hB⟩ : y.endA ≠ some b ∧ y.endB ≠ b := by simpa [Valve.ends] using h
  have hmap : y.endA.map (fun x => if x = b then a else x) = y.endA := by
    cases e : y.endA with
    | none => rfl
    | some x =>
      have : x ≠ b := by rintro rfl; exact hA e
      simp [this]
  simp [Valve.rename, hB, hmap]

/-- An incident of the one segment is put at the other. -/
def Incident.rename (i : Incident) (old new : Nat) : Incident := if i.segment = old then { i with segment := new } else i

/-- A plan that targets the one segment targets the other. -/
def Plan.retarget (q : Plan) (old new : Nat) : Plan := { q with target := if q.target = old then new else q.target }

/-- A plan whose draft names a valve no longer does. -/
def Plan.undraft (q : Plan) (v : Nat) : Plan := { q with draft := q.draft.filter (fun x => x != v) }

theorem Plan.retarget_eq (q : Plan) (old new : Nat) :
    q.retarget old new = if q.target = old then { q with target := new } else q := by
  unfold Plan.retarget
  split <;> rfl

theorem Plan.undraft_eq (q : Plan) (v : Nat) :
    (if q.draft.contains v = true then q.undraft v else q) = q.undraft v := by
  split
  · rfl
  · rename_i h
    have hfilter : q.draft.filter (fun x => x != v) = q.draft :=
      List.filter_eq_self.2 fun x hx => by
        rw [bne_iff_ne]
        rintro rfl
        exact h (by simpa using hx)
    simp [Plan.undraft, hfilter]

/-! ## What a merge changes in other blocks (R21) -/

/-- The incidents of segment b, each put at segment a and flagged. -/
def renameIncidents (a b : Nat) (s : State) : State :=
  (Table.which s.incidents (fun i => i.segment = b)).foldl
    (fun s n => flag .incident n (s.updIncident n (fun i => { i with segment := a }))) s

/-- The plans that target segment b, each targeting segment a. -/
def retargetPlans (a b : Nat) (s : State) : State :=
  (Table.which s.plans (fun q => q.target = b)).foldl
    (fun s p => markPlan p (s.updPlan p (fun q => { q with target := a }))) s

/-- The drafts that name the stop, each without it. -/
def undraftPlans (v : Nat) (s : State) : State :=
  (Table.which s.plans (fun q => q.draft.contains v)).foldl
    (fun s p => markPlan p (s.updPlan p (fun q => { q with draft := q.draft.filter (fun x => x != v) }))) s

theorem mergeOthers_eq (v a b : Nat) (s : State) :
    mergeOthers v a b s = undraftPlans v (retargetPlans a b (renameIncidents a b s)) := rfl

section
variable {v a b : Nat} {s : State}

theorem renameIncidents_incidents (h : Table.rises s.incidents) :
    (renameIncidents a b s).incidents = Table.image (fun i => i.rename b a) s.incidents := by
  unfold renameIncidents
  rw [foldl_field State.incidents _ (fun t n => Table.upd t n (fun i => { i with segment := a })) (by simp),
    Table.foldl_upd_which h]
  simp only [decide_eq_true_eq]
  rfl

@[simp] theorem renameIncidents_plans : (renameIncidents a b s).plans = s.plans := by
  simp [renameIncidents]

theorem retargetPlans_plans (h : Table.rises s.plans) :
    (retargetPlans a b s).plans = Table.image (fun q => q.retarget b a) s.plans := by
  unfold retargetPlans
  rw [foldl_field State.plans _ (fun t n => Table.upd t n (fun q => { q with target := a })) (by simp),
    Table.foldl_upd_which h]
  simp only [decide_eq_true_eq, Plan.retarget_eq]

@[simp] theorem retargetPlans_incidents : (retargetPlans a b s).incidents = s.incidents := by
  simp [retargetPlans]

theorem undraftPlans_plans (h : Table.rises s.plans) :
    (undraftPlans v s).plans = Table.image (fun q => q.undraft v) s.plans := by
  unfold undraftPlans
  rw [foldl_field State.plans _ (fun t n => Table.upd t n (fun q => { q with draft := q.draft.filter (fun x => x != v) }))
    (by simp), Table.foldl_upd_which h]
  simp only [show ∀ q : Plan, { q with draft := q.draft.filter (fun x => x != v) } = q.undraft v from fun _ => rfl,
    Plan.undraft_eq]

@[simp] theorem undraftPlans_incidents : (undraftPlans v s).incidents = s.incidents := by
  simp [undraftPlans]

theorem mergeOthers_incidents (h : Table.rises s.incidents) :
    (mergeOthers v a b s).incidents = Table.image (fun i => i.rename b a) s.incidents := by
  simp [mergeOthers_eq, renameIncidents_incidents h]

theorem mergeOthers_plans (h : Table.rises s.plans) : (mergeOthers v a b s).plans =
    Table.image (fun q => q.undraft v) (Table.image (fun q => q.retarget b a) s.plans) := by
  have h1 : (retargetPlans a b (renameIncidents a b s)).plans = Table.image (fun q => q.retarget b a) s.plans := by
    simpa using retargetPlans_plans (a := a) (b := b) (s := renameIncidents a b s) (by simpa using h)
  rw [mergeOthers_eq, undraftPlans_plans (by rw [h1]; exact Table.rises_of_keys h (by simp)), h1]

/-- The numbers of records, each with its class. -/
def slotsOf (c : RecordClass) (l : List Nat) : List (RecordClass × Nat) := l.map (fun n => (c, n))

theorem mem_slotsOf {c k : RecordClass} {l : List Nat} {n : Nat} : (k, n) ∈ slotsOf c l ↔ k = c ∧ n ∈ l := by
  simp only [slotsOf, List.mem_map, Prod.mk.injEq]
  exact ⟨fun ⟨m, hm, hk, he⟩ => ⟨hk.symm, he ▸ hm⟩, fun ⟨hk, hn⟩ => ⟨n, hn, hk.symm, rfl⟩⟩

theorem renameIncidents_indicates (s : State) : Indicates []
    (slotsOf .incident (Table.which s.incidents (fun i => i.segment = b))) s (renameIncidents a b s) :=
  ((Indicates.refl s).foldl (ms := []) (fun t n => ((Indicates.refl t).same (by simp) (by simp)).flag .incident n) _).congr
    (by simp) (by simp [slotsOf])

theorem retargetPlans_indicates (s : State) : Indicates
    (if Table.which s.plans (fun q => q.target = b) = [] then [] else [.plan])
    (slotsOf .plan (Table.which s.plans (fun q => q.target = b))) s (retargetPlans a b s) :=
  ((Indicates.refl s).foldl (ms := [.plan])
    (fun t n => ((Indicates.refl t).same (by simp) (by simp)).mark .plan n .plan) _).congr (by simp) (by simp [slotsOf])

theorem undraftPlans_indicates (s : State) : Indicates
    (if Table.which s.plans (fun q => q.draft.contains v) = [] then [] else [.plan])
    (slotsOf .plan (Table.which s.plans (fun q => q.draft.contains v))) s (undraftPlans v s) :=
  ((Indicates.refl s).foldl (ms := [.plan])
    (fun t n => ((Indicates.refl t).same (by simp) (by simp)).mark .plan n .plan) _).congr (by simp) (by simp [slotsOf])

/-- The changes in the other blocks flag each record that they change, and raise PLAN where a plan is among them. -/
theorem mergeOthers_indicates (h : Table.rises s.plans) : Indicates
    (if s.plans.any (fun r => r.2.target = b || r.2.draft.contains v) then [.plan] else [])
    (slotsOf .incident (Table.which s.incidents (fun i => i.segment = b)) ++
      slotsOf .plan (Table.which s.plans (fun q => q.target = b || q.draft.contains v))) s (mergeOthers v a b s) := by
  have hdraft : Table.which (retargetPlans a b (renameIncidents a b s)).plans (fun q => q.draft.contains v) =
      Table.which s.plans (fun q => q.draft.contains v) := by
    rw [retargetPlans_plans (by simpa using h), Table.which_image, renameIncidents_plans]
    rfl
  have h3 := ((renameIncidents_indicates (a := a) (b := b) s).trans (retargetPlans_indicates (a := a) (b := b) _)).trans
    (undraftPlans_indicates (v := v) _)
  rw [hdraft, renameIncidents_plans] at h3
  have hmem (n : Nat) : n ∈ Table.which s.plans (fun q => q.target = b || q.draft.contains v) ↔
      n ∈ Table.which s.plans (fun q => q.target = b) ∨ n ∈ Table.which s.plans (fun q => q.draft.contains v) := by
    simp only [Table.mem_which h, Bool.or_eq_true, and_or_left, exists_or]
  refine h3.congr (fun c => ?_) (fun x => ?_)
  · have hany : s.plans.any (fun r => r.2.target = b || r.2.draft.contains v) = true ↔
        Table.which s.plans (fun q => q.target = b) ≠ [] ∨ Table.which s.plans (fun q => q.draft.contains v) ≠ [] := by
      rw [Table.which_ne_nil, Table.which_ne_nil, List.any_eq_true]
      simp only [Bool.or_eq_true, and_or_left, exists_or]
    simp only [hany]
    by_cases h1 : Table.which s.plans (fun q => q.target = b) = []
    · simp [h1]
    · simp [h1]
  · obtain ⟨k, n⟩ := x
    simp only [List.mem_append, mem_slotsOf, hmem]
    tauto

/-! ## The tables of a merge (R20, R21) -/

/-- The valves with an end at segment b, but for the stop (R20). -/
def renamedValves (v b : Nat) (s : State) : List Nat := Table.keys (s.valves.filter (fun r => r.1 != v && r.2.ends b))

theorem mem_renamedValves (h : Table.rises s.valves) {n : Nat} :
    n ∈ renamedValves v b s ↔ n ≠ v ∧ Table.test s.valves n (fun y => y.ends b) = true := by
  simp only [renamedValves, Table.keys, List.mem_map, List.mem_filter, Prod.exists, exists_and_right, exists_eq_right,
    Table.mem_iff_at? h, Table.test_iff, Bool.and_eq_true, bne_iff_ne]
  constructor
  · rintro ⟨y, hy, hne, he⟩
    exact ⟨hne, y, hy, he⟩
  · rintro ⟨hne, y, hy, he⟩
    exact ⟨y, hy, hne, he⟩

variable {ga gb : Segment}

theorem merge_segments : (merge v a b ga gb s).segments =
    Table.del (Table.put s.segments a (mergedSegment v ga gb)) b := by
  simp [merge, State.putSegment]

@[simp] theorem merge_stopCount : (merge v a b ga gb s).stopCount = s.stopCount - 1 := by
  simp [merge]

theorem merge_valves : (merge v a b ga gb s).valves =
    Table.del ((renamedValves v b s).foldl (fun u x => Table.upd u x (fun y => y.rename b a)) s.valves) v := by
  have h := valves_foldl_updValve (fun y => y.rename b a) (renamedValves v b s)
  unfold renamedValves at h
  simp [merge, renamedValves, h]

theorem merge_points : (merge v a b ga gb s).points =
    gb.pointList.foldl (fun u x => Table.upd u x (fun p => p.movedTo a)) s.points := by
  have h := points_foldl_updPoint (fun p => p.movedTo a) gb.pointList
  simp only [Point.movedTo] at h ⊢
  simp [merge, h]

theorem merge_incidents (h : Table.rises s.incidents) :
    (merge v a b ga gb s).incidents = Table.image (fun i => i.rename b a) s.incidents := by
  unfold merge
  extract_lets vs s1 s2 s3 s4 s5 s6 s7
  have h4 : s4.incidents = s.incidents := by simp [s4, s3, s2, s1]
  have h5 := mergeOthers_incidents (v := v) (a := a) (b := b) (s := s4) (h4 ▸ h)
  simp [s7, s6, s5, h5, h4]

theorem merge_plans (h : Table.rises s.plans) : (merge v a b ga gb s).plans =
    Table.image (fun q => q.undraft v) (Table.image (fun q => q.retarget b a) s.plans) := by
  unfold merge
  extract_lets vs s1 s2 s3 s4 s5 s6 s7
  have h4 : s4.plans = s.plans := by simp [s4, s3, s2, s1]
  have h5 := mergeOthers_plans (v := v) (a := a) (b := b) (s := s4) (h4 ▸ h)
  simp [s7, s6, s5, h5, h4]

theorem at?_merge_segments (n : Nat) : Table.at? (merge v a b ga gb s).segments n =
    if n = b then none else if n = a then some (mergedSegment v ga gb) else Table.at? s.segments n := by
  rw [merge_segments, Table.at?_del, Table.at?_put]

theorem at?_merge_valves (h : Table.rises s.valves) (w : Nat) : Table.at? (merge v a b ga gb s).valves w =
    if w = v then none else (Table.at? s.valves w).map (fun y => y.rename b a) := by
  have hrise : Table.rises (s.valves.filter (fun r => r.1 != v && r.2.ends b)) := Table.rises_filter h _
  rw [merge_valves, Table.at?_del]
  split
  · rfl
  rename_i hne
  rw [Table.at?_foldl_upd (l := renamedValves v b s) (nodup_of_rising hrise) (fun _ (y : Valve) => y.rename b a)]
  split
  · rfl
  rename_i hnot
  cases hw : Table.at? s.valves w with
  | none => rfl
  | some y =>
    have hends : y.ends b = false := by
      by_contra hyes
      exact hnot ((mem_renamedValves h).2 ⟨hne, (Table.test_iff ..).2 ⟨y, hw, by simpa using hyes⟩⟩)
    rw [Option.map_some, Valve.rename_of_not_ends hends]

theorem at?_merge_points (p : Nat) : Table.at? (merge v a b ga gb s).points p = if p ∈ gb.pointList
    then (Table.at? s.points p).map (fun q => q.movedTo a) else Table.at? s.points p := by
  rw [merge_points, Table.at?_foldl_upd_idem (f := fun _ (q : Point) => q.movedTo a) (fun _ _ => rfl)]

/-- What a merge flags: the two segments, the stop and the valves at segment b, the points that move, and the incidents
and plans that it changes. -/
def mergedSlots (v a b : Nat) (gb : Segment) (s : State) : List (RecordClass × Nat) :=
  [(.segment, a), (.segment, b), (.valve, v)] ++ slotsOf .valve (renamedValves v b s) ++ slotsOf .point gb.pointList ++
    slotsOf .incident (Table.which s.incidents (fun i => i.segment = b)) ++
    slotsOf .plan (Table.which s.plans (fun q => q.target = b || q.draft.contains v))

theorem merge_indicates (h : Table.rises s.plans) : Indicates
    (if s.plans.any (fun r => r.2.target = b || r.2.draft.contains v) then [.model, .plan] else [.model])
    (mergedSlots v a b gb s) s (merge v a b ga gb s) := by
  unfold merge
  extract_lets vs s1 s2 s3 s4 s5 s6 s7
  have h3 : Indicates [] [] s s3 := .of_same (by simp [s3, s2, s1]) (by simp [s3, s2, s1])
  have h4 : Indicates [] _ s s4 := ((h3.flag .segment a).flagAll .valve vs).flagAll .point gb.pointList
  have hp : s4.plans = s.plans := by simp [s4, s3, s2, s1]
  have hi : s4.incidents = s.incidents := by simp [s4, s3, s2, s1]
  have h5 := h4.trans (mergeOthers_indicates (v := v) (a := a) (b := b) (s := s4) (hp ▸ h))
  rw [hp, hi] at h5
  have h6 := (h5.same (u := (s5.setValves (Table.del s5.valves v)).setStopCount (s5.stopCount - 1)) rfl rfl).flag .valve v
  have h7 := ((h6.same (u := s6.setSegments (Table.del s6.segments b)) rfl rfl).flag .segment b).same (u := s7)
    (by simp [s7]) (by simp [s7])
  have h8 := (h7.raise .model).same (u := trigger (raise .model s7)) (by simp) (by simp)
  have hvs : vs = renamedValves v b s := rfl
  clear_value vs s3 s4 s5 s6 s7
  clear h3 h4 h5 h6 h7
  subst hvs
  refine h8.congr (fun c => ?_) (fun x => ?_)
  · split <;> simp
  · obtain ⟨k, n⟩ := x
    have hslots (c : RecordClass) (l : List Nat) : l.map (fun n => (c, n)) = slotsOf c l := rfl
    simp only [mergedSlots, hslots, List.mem_append, List.mem_cons, mem_slotsOf, List.not_mem_nil,
      Prod.mk.injEq, or_assoc, or_comm, or_left_comm]

theorem noteFreed_idle {n : Nat} (h : s.tracer.pass = .idle) : (noteFreed n s).tracer = s.tracer := by
  rw [noteFreed, h]

theorem noteFreed_running {n : Nat} {inp : PassInputs} (h : s.tracer.pass = .running inp) : (noteFreed n s).tracer =
    { s.tracer with pass := .running { inp with freed := n :: inp.freed } } := by
  rw [noteFreed, h]
  rfl

theorem merge_triggers (hp : s.tracer.pass = .idle ∨ s.tracer.restarts < 3) : triggers s (merge v a b ga gb s) := by
  unfold merge
  extract_lets vs s1 s2 s3 s4 s5 s6 s7
  have h6 : (flag .segment b (s6.setSegments (Table.del s6.segments b))).tracer = s.tracer := by
    simp [s6, s5, s4, s3, s2, s1]
  have hin : takeInputs (trigger (raise .model s7)) = takeInputs (raise .model s7) := by simp [takeInputs]
  unfold triggers
  rw [hin]
  cases e : s.tracer.pass with
  | idle =>
    have h7 : s7.tracer = s.tracer := (noteFreed_idle (by rw [h6, e])).trans h6
    simp [trigger, h7, e]
  | running inp =>
    have h7 : s7.tracer = { s.tracer with pass := .running { inp with freed := b :: inp.freed } } := by
      rw [← h6]
      exact noteFreed_running (by rw [h6, e])
    have hlt : s.tracer.restarts < 3 := by simpa [e] using hp
    simp [trigger, h7, hlt]

/-- After three restarts the pass runs on, with the freed slot noted and a rerun set (R22, R68). -/
theorem merge_reruns {inp : PassInputs} (hp : s.tracer.pass = .running inp) (hr : 3 ≤ s.tracer.restarts) :
    (merge v a b ga gb s).tracer =
      { s.tracer with pass := .running { inp with freed := b :: inp.freed }, rerun := true } := by
  unfold merge
  extract_lets vs s1 s2 s3 s4 s5 s6 s7
  have h6 : (flag .segment b (s6.setSegments (Table.del s6.segments b))).tracer = s.tracer := by
    simp [s6, s5, s4, s3, s2, s1]
  have h7 : s7.tracer = { s.tracer with pass := .running { inp with freed := b :: inp.freed } } := by
    rw [← h6]
    exact noteFreed_running (by rw [h6, hp])
  have h8 : (raise .model s7).tracer = s7.tracer := by simp
  unfold trigger
  rw [h8, h7]
  exact congrArg State.tracer (if_neg (Nat.not_lt.2 hr))

theorem merge_changes : changesOnly
    [.segments, .valves, .points, .incidents, .plans, .stopCount, .tracer, .notices, .onPlace] s
    (merge v a b ga gb s) := by
  intro q hq
  cases q
  case port => exact same_port (by simp)
  all_goals simp [State.same] at hq ⊢

end

/-! ## The tests of MERGE AT STOP (R19) -/

/-- Settles O24: the request passes its tests, and the merge is read off its tables. -/
theorem mergeAtStopJoins : Obligations.MergeAtStopJoins := by
  unfold Obligations.MergeAtStopJoins
  intro h v a b s x ga gb hs hlegal hw hm hv hx hkind hendA hendB hab hina hinb hrep hhold hord hact hga hgb hsa hsb
    hlive hpar hvcap hpcap
  obtain ⟨hseg, hval, hpt, -, hinc, hplan, -⟩ := hlegal
  have htests : ∀ t ∈ (inWindow s h.desk a && inWindow s h.desk b, Result.outOfArea) :: mergeTests v a b s,
      t.1 = true := by
    have htest (f : Valve → Bool) : Table.test s.valves v f = f x := by simp [Table.test, hx]
    have hla : targetedLive s a = false := targetedLive_eq_false.2 fun p q hq ht => hlive p q hq (.inl ht)
    have hlb : targetedLive s b = false := targetedLive_eq_false.2 fun p q hq ht => hlive p q hq (.inr ht)
    have hapart : s.valves.any (fun r => r.1 != v && r.2.ends a && r.2.ends b) = false := by
      simp only [List.any_eq_false, Bool.and_eq_true, bne_iff_ne, not_and, Prod.forall, and_imp]
      exact fun w y hw hne ha hb => hpar w y hw hne ⟨ha, hb⟩
    simp [mergeTests, hina, hinb, htest, hrep, hhold, hord, activelyListed_eq_false.2 hact, hga, hgb, hsa, hsb, hla,
      hlb, hapart, Config.segmentValveCapacity, hvcap, Config.segmentPointCapacity, hpcap]
  have hdone : mergeAtStop h v s = (merge v a b ga gb s,
      .doneClamped (decide (65535 < ga.customers + gb.customers)) [.u16 a]) := by
    obtain ⟨kind, endA, endB⟩ := x
    obtain rfl : endA = some a := hendA
    obtain rfl : endB = b := hendB
    rw [mergeAtStop, tested_passed (by
      simp [running_iff.2 hm, Config.valveSlots, hv, Table.has, hx, Table.test, show kind = .stop from hkind])]
    simp only [hx]
    rw [tested_passed htests, hga, hgb]
    rfl
  have hind := merge_indicates (v := v) (a := a) (b := b) (ga := ga) (gb := gb) hplan.1
  have hflags (k : RecordClass) (n : Nat) (p : Bool) (hp : (k, n) ∈ mergedSlots v a b gb s ↔ p = true) :
      flagsIf k n p s (merge v a b ga gb s) := by
    have hcontains : (mergedSlots v a b gb s).contains (k, n) = p := by
      rw [Bool.eq_iff_iff, List.contains_iff_mem]
      exact hp
    exact hcontains ▸ hind.flags k n
  refine ⟨merge v a b ga gb s, ?_, merge_changes, merge_stopCount, by simp [at?_merge_segments], ?_, fun n ha hb => ?_,
    at?_merge_valves hval.1, at?_merge_points, fun n => ?_, fun p => ?_, hind.raises, fun n => ?_, fun n => ?_,
    fun n => ?_, fun n => ?_, fun n => ?_, fun n => ?_, merge_triggers, fun inp => merge_reruns⟩
  · refine Eq.trans (request_ready hs hw h _ _) ?_
    rw [hdone]
    rfl
  · refine ⟨mergedSegment v ga gb, by simp [at?_merge_segments, hab], rfl, rfl, rfl, rfl, rfl, rfl, rfl,
      pairwise_sortNat _, pairwise_sortNat _, fun w => ?_, fun p => ?_⟩
    · simp only [mergedSegment, mergedValves, mem_sortNat, List.mem_filter, List.mem_append, bne_iff_ne]
      tauto
    · simp only [mergedSegment, mem_sortNat, List.mem_append]
  · simp [at?_merge_segments, ha, hb]
  · rw [merge_incidents hinc.1, Table.at?_image]
    rfl
  · rw [merge_plans hplan.1, Table.at?_image, Table.at?_image, Option.map_map]
    rfl
  · exact hflags .segment n _ (by simp [mergedSlots, mem_slotsOf])
  · refine hflags .valve n _ ?_
    by_cases e : n = v <;> simp [mergedSlots, mem_slotsOf, mem_renamedValves hval.1, e]
  · exact hflags .point n _ (by simp [mergedSlots, mem_slotsOf])
  · exact hflags .incident n _ (by simp [mergedSlots, mem_slotsOf, Table.mem_which_iff_test hinc.1])
  · exact hflags .plan n _ (by simp [mergedSlots, mem_slotsOf, Table.mem_which_iff_test hplan.1])
  · exact hflags .outage n _ (by simp [mergedSlots, mem_slotsOf])

end Sys2Proof.Machine
end

section
/-! SUPPORT. OPEN MODEL (R10 to R14, R41): the record that is at fault first, and the opening. -/

namespace Sys2Proof.Machine

/-! ## The first record at fault (R10 to R13) -/

theorem Table.has_eq_false {α : Type} {t : Table α} {n : Nat} : Table.has t n = false ↔ Table.at? t n = none := by
  simp [Table.has]

/-- Check 1 on one valve (R11). -/
theorem valveAtFault_iff {s : State} {a : Valve} : valveAtFault s a = true ↔
    (a.kind = .offtake ∧ (a.endA ≠ none ∨ Table.at? s.segments a.endB = none)) ∨
      (a.kind ≠ .offtake ∧ (a.endA = none ∨ Table.at? s.segments a.endB = none ∨
        ∃ x, a.endA = some x ∧ (Table.at? s.segments x = none ∨ x = a.endB))) := by
  unfold valveAtFault
  cases hk : a.kind <;> cases hA : a.endA <;> simp [Table.has_eq_false, or_left_comm, or_assoc]

theorem segmentOverfull_iff {s : State} {n : Nat} : segmentOverfull s n = true ↔
    12 < (s.valves.filter (fun r => decide (r.2.endA = some n ∨ r.2.endB = n))).length ∨
      4 < (s.points.filter (fun r => decide (r.2.segment = n))).length := by
  simp [segmentOverfull, valvesOn, pointsOn, Table.length_which, Table.count, Valve.ends, Config.segmentValveCapacity,
    Config.segmentPointCapacity]

/-- The first of the numbers in use that meets a test. -/
theorem Table.find?_keys {α : Type} {t : Table α} (ht : Table.rises t) {p : Nat → Bool} {n : Nat} :
    (Table.keys t).find? p = some n ↔
      (Table.has t n = true ∧ p n = true) ∧ ∀ m, Table.has t m = true ∧ p m = true → n ≤ m := by
  rw [← List.head?_filter, rising_head? (List.Pairwise.sublist List.filter_sublist ht)]
  simp only [List.mem_filter, Table.mem_keys]

/-- The first of the records in use that meet a test. -/
theorem Table.head?_which {α : Type} {t : Table α} (ht : Table.rises t) {p : α → Bool} {n : Nat} :
    (Table.which t p).head? = some n ↔
      (∃ a, Table.at? t n = some a ∧ p a = true) ∧ ∀ m a, Table.at? t m = some a → p a = true → n ≤ m := by
  rw [rising_head? (Table.pairwise_which ht p)]
  simp only [Table.mem_which ht, forall_exists_index, and_imp]

/-! ## Tags (R13) -/

/-- A table's part of the walk of check 4. -/
def tagWalk {α : Type} (k : FaultKind) (tag : α → Option Tag) (t : Table α) : List (FaultKind × Nat × Option Tag) :=
  t.map (fun r => (k, r.1, tag r.2))

/-- A record whose tag is none, or came earlier in the walk: among those seen, or in a lower slot of its table. -/
def tagFault {α : Type} (tag : α → Option Tag) (t : Table α) (seen : List (Option Tag)) (n : Nat) : Prop :=
  ∃ a, Table.at? t n = some a ∧
    (tag a = none ∨ tag a ∈ seen ∨ ∃ m b, m < n ∧ Table.at? t m = some b ∧ tag b = tag a)

theorem firstTagFault_append (l m : List (FaultKind × Nat × Option Tag)) (seen : List (Option Tag)) :
    firstTagFault seen (l ++ m) =
      (firstTagFault seen l).or (firstTagFault ((l.map (fun r => r.2.2)).reverse ++ seen) m) := by
  induction l generalizing seen with
  | nil => rfl
  | cons r l ih =>
    obtain ⟨k, n, x⟩ := r
    simp only [List.cons_append, firstTagFault]
    split
    · rfl
    · rw [ih]
      simp

section
variable {α : Type} {tag : α → Option Tag} {k : FaultKind}

/-- Past a record that is not at fault, the faults of the walk are those of the rest with its tag seen. -/
theorem tagFault_cons {t : Table α} {j : Nat} {a : α} (ht : Table.rises ((j, a) :: t)) {seen : List (Option Tag)} {n : Nat}
    (hn : n ≠ j) : tagFault tag ((j, a) :: t) seen n ↔ tagFault tag t (tag a :: seen) n := by
  obtain ⟨hj, -⟩ := Table.rises_cons.1 ht
  have hat (m : Nat) (hm : m ≠ j) : Table.at? ((j, a) :: t) m = Table.at? t m := by simp [Table.at?, Ne.symm hm]
  unfold tagFault
  rw [hat n hn]
  refine exists_congr fun b => and_congr_right fun hb => ?_
  have hlt : j < n := hj n (Table.mem_keys_of_at? hb)
  have hj' : Table.at? t j = none := by
    rw [← Table.has_eq_false, ← Bool.not_eq_true, ← Table.mem_keys]
    exact fun h => (hj j h).ne rfl
  rw [List.mem_cons]
  constructor
  · rintro (h | h | ⟨m, c, hm, hc, htag⟩)
    · exact .inl h
    · exact .inr (.inl (.inr h))
    · by_cases e : m = j
      · subst e
        obtain rfl : a = c := by simpa [Table.at?] using hc
        exact .inr (.inl (.inl htag.symm))
      · exact .inr (.inr ⟨m, c, hm, hat m e ▸ hc, htag⟩)
  · rintro (h | (h | h) | ⟨m, c, hm, hc, htag⟩)
    · exact .inl h
    · exact .inr (.inr ⟨j, a, hlt, by simp [Table.at?], h.symm⟩)
    · exact .inr (.inl h)
    · have e : m ≠ j := by rintro rfl; simp [hj'] at hc
      exact .inr (.inr ⟨m, c, hm, (hat m e).symm ▸ hc, htag⟩)

theorem tagFault_head {t : Table α} {j : Nat} {a : α} (ht : Table.rises ((j, a) :: t)) {seen : List (Option Tag)} :
    tagFault tag ((j, a) :: t) seen j ↔ tag a = none ∨ tag a ∈ seen := by
  obtain ⟨hj, -⟩ := Table.rises_cons.1 ht
  constructor
  · rintro ⟨b, hb, h⟩
    obtain rfl : a = b := by simpa [Table.at?] using hb
    rcases h with h | h | ⟨m, c, hm, hc, -⟩
    · exact .inl h
    · exact .inr h
    · have hc' : Table.at? t m = some c := by simpa [Table.at?, hm.ne'] using hc
      exact absurd (hj m (Table.mem_keys_of_at? hc')) hm.not_gt
  · intro h
    exact ⟨a, by simp [Table.at?], h.imp_right .inl⟩

/-- The walk finds the lowest record of the table that is at fault. -/
theorem firstTagFault_some {t : Table α} (ht : Table.rises t) {seen : List (Option Tag)} {n : Nat}
    (hn : tagFault tag t seen n) (hmin : ∀ m, m < n → ¬ tagFault tag t seen m) :
    firstTagFault seen (tagWalk k tag t) = some (k, n) := by
  induction t generalizing seen with
  | nil => obtain ⟨a, ha, -⟩ := hn; simp [Table.at?] at ha
  | cons r t ih =>
    obtain ⟨j, a⟩ := r
    obtain ⟨hj, ht'⟩ := Table.rises_cons.1 ht
    have hle : n = j ∨ j < n := by
      obtain ⟨b, hb, -⟩ := hn
      by_cases e : n = j
      · exact .inl e
      · exact .inr (hj n (Table.mem_keys_of_at? (t := t) (by simpa [Table.at?, Ne.symm e] using hb)))
    change (if _ then _ else _) = _
    split
    · rename_i hbad
      have hbad' : tagFault tag ((j, a) :: t) seen j := (tagFault_head ht).2 (by simpa using hbad)
      rcases hle with rfl | hlt
      · rfl
      · exact absurd hbad' (hmin j hlt)
    · rename_i hok
      have hne : n ≠ j := by
        rintro rfl
        exact hok (by simpa using (tagFault_head ht).1 hn)
      refine ih ht' ((tagFault_cons ht hne).1 hn) fun m hm hbad => ?_
      have hmj : m ≠ j := by
        rintro rfl
        obtain ⟨b, hb, -⟩ := hbad
        exact (hj m (Table.mem_keys_of_at? hb)).ne rfl
      exact hmin m hm ((tagFault_cons ht hmj).2 hbad)

theorem firstTagFault_none {t : Table α} (ht : Table.rises t) {seen : List (Option Tag)}
    (h : ∀ n, ¬ tagFault tag t seen n) : firstTagFault seen (tagWalk k tag t) = none := by
  induction t generalizing seen with
  | nil => rfl
  | cons r t ih =>
    obtain ⟨j, a⟩ := r
    obtain ⟨hj, ht'⟩ := Table.rises_cons.1 ht
    change (if _ then _ else _) = _
    rw [if_neg fun hbad => h j ((tagFault_head ht).2 (by simpa using hbad))]
    refine ih ht' fun n hbad => ?_
    have hne : n ≠ j := by
      rintro rfl
      obtain ⟨b, hb, -⟩ := hbad
      exact (hj n (Table.mem_keys_of_at? hb)).ne rfl
    exact h n ((tagFault_cons ht hne).2 hbad)

end

/-- A point's tag, as check 4 walks it. -/
def Point.walkTag (p : Point) : Option Tag := some p.tag

/-- The tags of the points, as the valves' part of the walk has seen them. -/
def seenTags (s : State) : List (Option Tag) := (s.points.map (fun r => some r.2.tag)).reverse

theorem firstTagFault_taggedRecords (s : State) : firstTagFault [] (taggedRecords s) =
    (firstTagFault [] (tagWalk .point Point.walkTag s.points)).or
      (firstTagFault (seenTags s) (tagWalk .valve Valve.tag (s.valves.filter (fun r => r.2.operation = .remote)))) := by
  unfold taggedRecords
  rw [firstTagFault_append]
  simp [seenTags, tagWalk, Point.walkTag, Function.comp_def]

theorem mem_seenTags {s : State} (h : Table.rises s.points) {x : Tag} :
    some x ∈ seenTags s ↔ ∃ m q, Table.at? s.points m = some q ∧ q.tag = x := by
  simp [seenTags, Table.mem_iff_at? h]

theorem tagFault_points {s : State} {n : Nat} : tagFault Point.walkTag s.points [] n ↔
    ∃ p, Table.at? s.points n = some p ∧ ∃ m q, m < n ∧ Table.at? s.points m = some q ∧ q.tag = p.tag := by
  simp [tagFault, Point.walkTag]

/-- A REMOTE valve with the tag, or with none. -/
def State.remote (s : State) (v : Nat) (tag : Option Tag) : Prop :=
  ∃ a, Table.at? s.valves v = some a ∧ a.operation = .remote ∧ a.tag = tag

theorem tagFault_valves {s : State} (hv : Table.rises s.valves) (hp : Table.rises s.points) {v : Nat} :
    tagFault Valve.tag (s.valves.filter (fun r => r.2.operation = .remote)) (seenTags s) v ↔
      s.remote v none ∨ ∃ x, s.remote v (some x) ∧
        ((∃ m q, Table.at? s.points m = some q ∧ q.tag = x) ∨ ∃ w, w < v ∧ s.remote w (some x)) := by
  have hat (n : Nat) (a : Valve) : Table.at? (s.valves.filter (fun r => r.2.operation = .remote)) n = some a ↔
      Table.at? s.valves n = some a ∧ a.operation = .remote := by
    rw [Table.at?_filter hv (fun a : Valve => decide (a.operation = .remote)), Option.filter_eq_some_iff]
    simp
  simp only [tagFault, State.remote, hat]
  constructor
  · rintro ⟨a, ⟨ha, hr⟩, h⟩
    cases ht : a.tag with
    | none => exact .inl ⟨a, ha, hr, ht⟩
    | some x =>
      refine .inr ⟨x, ⟨a, ha, hr, ht⟩, ?_⟩
      rcases h with h | h | ⟨m, b, hm, ⟨hb, hbr⟩, hbt⟩
      · simp [ht] at h
      · exact .inl ((mem_seenTags hp).1 (ht ▸ h))
      · exact .inr ⟨m, hm, b, hb, hbr, hbt.trans ht⟩
  · rintro (⟨a, ha, hr, ht⟩ | ⟨x, ⟨a, ha, hr, ht⟩, h | ⟨w, hw, b, hb, hbr, hbt⟩⟩)
    · exact ⟨a, ⟨ha, hr⟩, .inl ht⟩
    · exact ⟨a, ⟨ha, hr⟩, .inr (.inl (ht ▸ (mem_seenTags hp).2 h))⟩
    · exact ⟨a, ⟨ha, hr⟩, .inr (.inr ⟨w, b, hw, ⟨hb, hbr⟩, hbt.trans ht.symm⟩)⟩

/-! ## The checks in their order (R10) -/

section
variable {s : State}

/-- The first checks, up to the one of a number, find nothing. -/
structure State.checked (s : State) (upTo : Nat) : Prop where
  ends : 1 ≤ upTo → (Table.which s.valves (valveAtFault s)).head? = none
  lists : 2 ≤ upTo → (Table.keys s.segments).find? (segmentOverfull s) = none
  points : 3 ≤ upTo → (Table.which s.points (fun p => !Table.has s.segments p.segment)).head? = none

theorem openFault_ends {n : Nat} (h : (Table.which s.valves (valveAtFault s)).head? = some n) :
    openFault s = some (1, .valve, n) := by
  rw [openFault, h]

theorem openFault_lists (h1 : s.checked 1) {n : Nat} (h : (Table.keys s.segments).find? (segmentOverfull s) = some n) :
    openFault s = some (2, .segment, n) := by
  rw [openFault, h1.ends le_rfl]
  simp only [h]

theorem openFault_points (h2 : s.checked 2) {n : Nat}
    (h : (Table.which s.points (fun p => !Table.has s.segments p.segment)).head? = some n) :
    openFault s = some (3, .point, n) := by
  rw [openFault, h2.ends (by omega)]
  simp only [h2.lists le_rfl, h]

/-- Past the first three checks the fault is the one that the walk of check 4 finds. -/
theorem openFault_tags (h3 : s.checked 3) :
    openFault s = (firstTagFault [] (taggedRecords s)).map (fun r => (4, r.1, r.2)) := by
  rw [openFault, h3.ends (by omega)]
  simp only [h3.lists (by omega), h3.points le_rfl]

theorem openFault_pointTags (h3 : s.checked 3) {n : Nat}
    (h : firstTagFault [] (tagWalk .point Point.walkTag s.points) = some (.point, n)) :
    openFault s = some (4, .point, n) := by
  rw [openFault_tags h3, firstTagFault_taggedRecords, h]
  rfl

end

/-! ## The opening (R14, R41) -/

theorem openModel_refuses {h : Header} {s : State} (hd : h.desk = 0) (hm : s.model = .loading) {check n : Nat}
    {kind : FaultKind} (hf : openFault s = some (check, kind, n)) :
    openModel h s = (s, .refusalWith .badField [.u8 check, .u8 kind.code, .u16 n]) := by
  rw [openModel, tested_passed (by simp [hd, State.running, hm])]
  simp only [hf]

theorem openModel_opens {h : Header} {s : State} (hd : h.desk = 0) (hm : s.model = .loading) (hf : openFault s = none) :
    openModel h s = (opening s, .done []) := by
  rw [openModel, tested_passed (by simp [hd, State.running, hm])]
  simp only [hf]

theorem selection_congr {s u : State} (hp : u.profiles = s.profiles) (hc : u.clock = s.clock) (g : Nat) :
    selection u g = selection s g := by
  simp [selection, hp, hc]

/-- A point as the opening leaves it: its contact counts from now, and its selection is made (R41). -/
def openedPoint (s : State) (p : Point) : Point :=
  { p with lastContact := s.clock.second, selected := selection s p.group, candidate := none, count := 0,
           condition := conditionAfter p.condition (selection s p.group) }

/-- The condition that a selection leaves is one that a test does not drop its entry for, unless it is as it was. -/
theorem conditionAfter_drops {c : Condition} {x : Option Nat} (h : conditionAfter c x ≠ c) :
    (conditionAfter c x).drops = false := by
  cases c <;> cases x <;> simp_all [conditionAfter, Condition.drops]

section
variable {s : State} {n : Nat}

/-- A condition that drops no entry reaches the point alone. -/
theorem setCondition_points {c : Condition} {p : Point} (hp : Table.at? s.points n = some p)
    (hc : c ≠ p.condition → c.drops = false) (m : Nat) : Table.at? (setCondition n c s).points m =
      if m = n then some { p with condition := c } else Table.at? s.points m := by
  unfold setCondition
  by_cases e : p.condition = c
  · rw [if_neg (by simp [Table.test, hp, e])]
    split
    · subst_vars; exact hp
    · rfl
  · rw [if_pos (by simp [Table.test, hp, e])]
    simp only [hc (Ne.symm e), Bool.false_eq_true, if_false, markPoint_frame, updPoint_frame, Table.at?_upd]
    split
    · subst_vars; simp [hp]
    · rfl

theorem setCondition_others {c : Condition} {p : Point} (hp : Table.at? s.points n = some p)
    (hc : c ≠ p.condition → c.drops = false) :
    (setCondition n c s).plans = s.plans ∧ (setCondition n c s).incidents = s.incidents ∧
      ∃ ns fs, Indicates ns fs s (setCondition n c s) ∧ .model ∉ ns := by
  unfold setCondition
  by_cases e : p.condition = c
  · rw [if_neg (by simp [Table.test, hp, e])]
    exact ⟨rfl, rfl, _, _, .refl s, by simp⟩
  · rw [if_pos (by simp [Table.test, hp, e])]
    simp only [hc (Ne.symm e), Bool.false_eq_true, if_false]
    have hind : Indicates [.pressure] [(.point, n)] s (markPoint n (s.updPoint n (fun p => { p with condition := c }))) :=
      ((Indicates.refl s).same (u := s.updPoint n (fun p => { p with condition := c })) rfl rfl).mark .point n .pressure
    exact ⟨by simp, by simp, _, _, hind, by simp⟩

theorem firstSelection_free (hp : Table.at? s.points n = none) : firstSelection n s = s := by
  rw [firstSelection, hp]

/-- A point with its contact counted from now, and a selection made before its condition follows. -/
def Point.selecting (p : Point) (now : Nat) (chosen : Option Nat) : Point :=
  { p with lastContact := now, selected := chosen, candidate := none, count := 0 }

theorem firstSelection_eq {p : Point} (hp : Table.at? s.points n = some p) : ∃ u, firstSelection n s =
      setCondition n (conditionAfter p.condition (selection s p.group)) u ∧
    (u.plans = s.plans ∧ u.incidents = s.incidents ∧ u.notices = s.notices ∧ u.port = s.port) ∧
    ∀ m, Table.at? u.points m =
      if m = n then some (p.selecting s.now (selection s p.group)) else Table.at? s.points m := by
  refine ⟨(s.putPoint n { p with lastContact := s.now }).putPoint n (p.selecting s.now (selection s p.group)), ?_,
    by simp, fun m => ?_⟩
  · rw [firstSelection, hp]
    simp [applySelection, Point.selecting]
  · by_cases e : m = n <;> simp [Table.at?_put, e]

theorem firstSelection_points (m : Nat) : Table.at? (firstSelection n s).points m =
    if m = n then (Table.at? s.points m).map (openedPoint s) else Table.at? s.points m := by
  cases hp : Table.at? s.points n with
  | none =>
    rw [firstSelection_free hp]
    split
    · subst_vars; rw [hp]; rfl
    · rfl
  | some p =>
    obtain ⟨u, hu, -, hat⟩ := firstSelection_eq hp
    rw [hu, setCondition_points (c := conditionAfter p.condition (selection s p.group)) ((hat n).trans (if_pos rfl))
      conditionAfter_drops]
    by_cases e : m = n
    · subst e
      rw [if_pos rfl, if_pos rfl, hp]
      rfl
    · rw [if_neg e, if_neg e, hat, if_neg e]

theorem firstSelection_others : (firstSelection n s).plans = s.plans ∧ (firstSelection n s).incidents = s.incidents ∧
    ∃ ns fs, Indicates ns fs s (firstSelection n s) ∧ .model ∉ ns := by
  cases hp : Table.at? s.points n with
  | none =>
    rw [firstSelection_free hp]
    exact ⟨rfl, rfl, _, _, .refl s, by simp⟩
  | some p =>
    obtain ⟨u, hu, ⟨hplans, hinc, hn, hport⟩, hat⟩ := firstSelection_eq hp
    obtain ⟨h1, h2, ns, fs, hind, hnot⟩ := setCondition_others ((hat n).trans (if_pos rfl)) conditionAfter_drops
    rw [hu]
    exact ⟨h1.trans hplans, h2.trans hinc, ns, fs, (Indicates.of_same hn (by rw [hport])).trans hind, hnot⟩

/-- The first selections of a list of points. -/
theorem foldl_firstSelection (l : List Nat) (hl : l.Nodup) (s : State) :
    (∀ m, Table.at? (l.foldl (fun s n => firstSelection n s) s).points m =
      if m ∈ l then (Table.at? s.points m).map (openedPoint s) else Table.at? s.points m) ∧
    (l.foldl (fun s n => firstSelection n s) s).plans = s.plans ∧
    (l.foldl (fun s n => firstSelection n s) s).incidents = s.incidents ∧
    ∃ ns fs, Indicates ns fs s (l.foldl (fun s n => firstSelection n s) s) ∧ .model ∉ ns := by
  induction l generalizing s with
  | nil => exact ⟨fun _ => by simp, rfl, rfl, _, _, .refl s, by simp⟩
  | cons n l ih =>
    obtain ⟨hn, hl'⟩ := List.nodup_cons.1 hl
    obtain ⟨hpts, hplans, hinc, ns, fs, hind, hnot⟩ := ih hl' (firstSelection n s)
    obtain ⟨hplans1, hinc1, ns1, fs1, hind1, hnot1⟩ := firstSelection_others (s := s) (n := n)
    rw [List.foldl_cons]
    refine ⟨fun m => ?_, hplans.trans hplans1, hinc.trans hinc1, ns1 ++ ns, fs1 ++ fs, hind1.trans hind, by simp_all⟩
    have hopened : openedPoint (firstSelection n s) = openedPoint s := by
      funext p
      simp [openedPoint, selection_congr (u := firstSelection n s) (s := s)]
    rw [hpts, hopened, firstSelection_points]
    by_cases e : m = n
    · subst e; simp [hn]
    · simp [e]

/-- A segment with its lists as the valves and points of a table give them, and supplied. -/
theorem at?_opened (s : State) (t : Table Segment) (n : Nat) :
    Table.at? (t.map (fun r => (r.1, openedSegment s r.1 r.2))) n = (Table.at? t n).map (openedSegment s n) := by
  induction t with
  | nil => rfl
  | cons r t ih =>
    obtain ⟨k, g⟩ := r
    by_cases e : k = n
    · subst e; simp [Table.at?]
    · simp only [List.map_cons, Table.at?, e, if_false, ih]

@[simp] theorem opening_model : (opening s).model = .running := by
  simp [opening]

@[simp] theorem opening_segments :
    (opening s).segments = s.segments.map (fun r => (r.1, openedSegment s r.1 r.2)) := by
  simp [opening]

/-- What the opening does to the points and to the records of other blocks, and what it raises. -/
theorem opening_effect (hp : Table.rises s.points) :
    (∀ m, Table.at? (opening s).points m = (Table.at? s.points m).map (openedPoint s)) ∧
    (opening s).plans = s.plans ∧ (opening s).incidents = s.incidents ∧ raisesIf .model true s (opening s) := by
  unfold opening
  extract_lets s1 s2
  have hpts : s2.points = s.points := by simp [s2, s1]
  obtain ⟨h1, h2, h3, ns, fs, hind, hnot⟩ := foldl_firstSelection (Table.keys s2.points)
    (by rw [hpts]; exact nodup_of_rising hp) s2
  have hs2 : Indicates [.model] [] s s2 := by
    have h : Indicates [] [] s (s1.setModel .running) := .of_same (by simp [s1]) (by simp [s1])
    exact h.raise .model
  refine ⟨fun m => ?_, ?_, ?_, ?_⟩
  · have hopened : openedPoint s2 = openedPoint s := by
      funext p
      simp [openedPoint, s2, s1, selection_congr (u := s2) (s := s)]
    simp only [trigger_frame]
    rw [h1, hopened, hpts]
    split
    · rfl
    · rename_i hmem
      have hnone : Table.at? s.points m = none := by
        rw [← Table.has_eq_false, ← Bool.not_eq_true, ← Table.mem_keys]
        exact hmem
      rw [hnone]
      rfl
  · simp only [trigger_frame]
    exact h2.trans (by simp [s2, s1])
  · simp only [trigger_frame]
    exact h3.trans (by simp [s2, s1])
  · have hall := (hs2.trans hind).same (u := trigger ((Table.keys s2.points).foldl (fun s n => firstSelection n s) s2))
      (by simp) (by simp)
    have := hall.raises.2.2.2 .model
    simpa using this

theorem opening_triggers : triggers s (opening s) := by
  unfold opening
  extract_lets s1 s2
  exact triggers_trigger (by simp [s2, s1])

end

/-- Settles O21: at each check, the first record that it finds; past all of them, the opening. -/
theorem openModelOpens : Obligations.OpenModelOpens := by
  unfold Obligations.OpenModelOpens
  intro h s hs hlegal hw hd hm
  obtain ⟨hseg, hval, hpt, -⟩ := hlegal
  extract_lets free remote badValve overfull lost doublePoint badTag refuses
  have hexec : exec (.openModel h) s = .next (acting h.tag (openModel h s).2 (openModel h s).1) :=
    request_listening hs hw h [] _
  have hrefuse {check n : Nat} {kind : FaultKind} (hf : openFault s = some (check, kind, n)) :
      exec (.openModel h) s = .next (acting h.tag
        { result := .badField, clamped := false, body := [.u8 check, .u8 kind.code, .u16 n] } s) := by
    rw [hexec, openModel_refuses hd hm hf]
    rfl
  have hbadValve (v : Nat) : badValve v ↔ ∃ a, Table.at? s.valves v = some a ∧ valveAtFault s a = true := by
    simp only [valveAtFault_iff]
    rfl
  have hoverfull (n : Nat) : overfull n ↔ Table.has s.segments n = true ∧ segmentOverfull s n = true := by
    rw [segmentOverfull_iff, ← Bool.not_eq_false, Table.has_eq_false]
  have hlost (n : Nat) : lost n ↔ ∃ p, Table.at? s.points n = some p ∧ (!Table.has s.segments p.segment) = true := by
    simp only [Bool.not_eq_true', Table.has_eq_false]
    rfl
  have hbadTag (v : Nat) : badTag v ↔
      tagFault Valve.tag (s.valves.filter (fun r => r.2.operation = .remote)) (seenTags s) v :=
    (tagFault_valves hval.1 hpt.1).symm
  refine ⟨fun n hn hmin => ?_, fun h1 => ?_⟩
  · exact hrefuse (openFault_ends ((Table.head?_which hval.1).2 ⟨(hbadValve n).1 hn, fun m a ha hbad =>
      not_lt.1 fun hlt => hmin m hlt ((hbadValve m).2 ⟨a, ha, hbad⟩)⟩))
  have c1 : s.checked 1 := ⟨fun _ => (Table.head?_which_none hval.1).2 fun n a ha => by
    by_contra hbad
    exact h1 n ((hbadValve n).2 ⟨a, ha, by simpa using hbad⟩), by omega, by omega⟩
  refine ⟨fun n hn hmin => ?_, fun h2 => ?_⟩
  · exact hrefuse (openFault_lists c1 ((Table.find?_keys hseg.1).2 ⟨(hoverfull n).1 hn, fun m hbad =>
      not_lt.1 fun hlt => hmin m hlt ((hoverfull m).2 hbad)⟩))
  have c2 : s.checked 2 := ⟨fun _ => c1.ends le_rfl, fun _ => List.find?_eq_none.2 fun n hn hbad =>
    h2 n ((hoverfull n).2 ⟨Table.mem_keys.1 hn, hbad⟩), by omega⟩
  refine ⟨fun n hn hmin => ?_, fun h3 => ?_⟩
  · exact hrefuse (openFault_points c2 ((Table.head?_which hpt.1).2 ⟨(hlost n).1 hn, fun m p hp hbad =>
      not_lt.1 fun hlt => hmin m hlt ((hlost m).2 ⟨p, hp, hbad⟩)⟩))
  have c3 : s.checked 3 := ⟨fun _ => c1.ends le_rfl, fun _ => c2.lists le_rfl, fun _ =>
    (Table.head?_which_none hpt.1).2 fun n p hp => by
      by_contra hbad
      exact h3 n ((hlost n).2 ⟨p, hp, by simpa using hbad⟩)⟩
  refine ⟨fun n hn hmin => ?_, fun h4 => ?_⟩
  · exact hrefuse (openFault_pointTags c3 (firstTagFault_some hpt.1 (tagFault_points.2 hn) fun m hlt hbad =>
      hmin m hlt (tagFault_points.1 hbad)))
  have hpoints : firstTagFault [] (tagWalk .point Point.walkTag s.points) = none :=
    firstTagFault_none hpt.1 fun n hbad => h4 n (tagFault_points.1 hbad)
  have hwalk : openFault s = (firstTagFault (seenTags s)
      (tagWalk .valve Valve.tag (s.valves.filter (fun r => r.2.operation = .remote)))).map (fun r => (4, r.1, r.2)) := by
    rw [openFault_tags c3, firstTagFault_taggedRecords, hpoints]
    rfl
  have hremote : Table.rises (s.valves.filter (fun r => r.2.operation = .remote)) := Table.rises_filter hval.1 _
  refine ⟨fun n hn hmin => ?_, fun h5 => ?_⟩
  · refine hrefuse (kind := .valve) ?_
    rw [hwalk, firstTagFault_some hremote ((hbadTag n).1 hn) fun m hlt hbad => hmin m hlt ((hbadTag m).2 hbad)]
    rfl
  have hnone : openFault s = none := by
    rw [hwalk, firstTagFault_none hremote fun n hbad => h5 n ((hbadTag n).2 hbad)]
    rfl
  obtain ⟨hpts, hplans, hinc, hraise⟩ := opening_effect hpt.1
  refine ⟨opening s, ?_, fun q hq => ?_, opening_model, opening_triggers, fun n => ?_, fun n => hpts n, hraise⟩
  · rw [hexec, openModel_opens hd hm hnone]
    rfl
  · cases q
    case port => exact same_port (by simp)
    all_goals simp [State.same, hplans, hinc] at hq ⊢
  · rw [opening_segments, at?_opened]
    rfl

end Sys2Proof.Machine
end

section
/-! SUPPORT. The laws of the network across the definitions and OPEN MODEL (R6 to R14, R39). -/

namespace Sys2Proof.Machine

/-! ## While LOADING -/

section
variable {s u : State}

/-- While LOADING the laws of ends say nothing, and those of lists that every list is empty. -/
theorem listsLegal_of_loading (hm : u.model = .loading)
    (h : ∀ n g, Table.at? u.segments n = some g → g.valveList = [] ∧ g.pointList = []) : u.listsLegal :=
  ⟨fun _ => h, fun hr => by simp [hm] at hr⟩

theorem endsLegal_of_loading (hm : u.model = .loading) : u.endsLegal := fun hr => by simp [hm] at hr

/-- Without an outage record, a segment names none. -/
theorem outagesLegal_of_nil (ho : u.outages = []) : u.outagesLegal ↔ ∀ n g, Table.at? u.segments n = some g →
    (g.supply = .supplied → g.relit = 0) ∧ g.outage = none ∧ g.relit ≤ g.customers := by
  constructor
  · rintro ⟨hseg, -⟩ n g hn
    obtain ⟨h1, h2, h3⟩ := hseg n g hn
    refine ⟨fun h => (h1 h).2, ?_, h2⟩
    cases e : g.outage with
    | none => rfl
    | some o => have := h3 o e; simp [ho, Table.has, Table.at?] at this
  · refine fun h => ⟨fun n g hn => ?_, fun n o hn => by simp [ho, Table.at?] at hn⟩
    obtain ⟨h1, h2, h3⟩ := h n g hn
    exact ⟨fun hs => ⟨h2, h1 hs⟩, h3, by simp [h2]⟩

theorem length_openIncidents_of_nil (hi : u.incidents = []) (n : Nat) : (openIncidents u n).length = 0 := by
  simp [length_openIncidents, hi, Table.count]

theorem Table.count_eq_zero {α : Type} {t : Table α} (ht : Table.rises t) {p : α → Bool} :
    Table.count t p = 0 ↔ ∀ n a, Table.at? t n = some a → p a = false := by
  rw [← Table.length_which, List.length_eq_zero_iff, ← List.head?_eq_none_iff, Table.head?_which_none ht]

end

/-! ## The definitions (R7 to R9, R40) -/

theorem model_loading_of_definition {h : Header} {s : State} {l : List (Bool × Result)}
    (hok : ∀ x ∈ definitionTests h s ++ l, x.1 = true) : s.model = .loading := by
  have hr : (!s.running) = true := hok (!s.running, .modelLocked) (by simp [definitionTests])
  cases e : s.model with
  | loading => rfl
  | running => simp [State.running, e] at hr

theorem defineSegment_upholds (h : Header) (n tier zone customers : Nat) {s : State} (hs : s.loadingLegal) :
    Upholds s (defineSegment h n tier zone customers s).1 := by
  refine tested_induct (.refl s) fun hok => ?_
  have hm := model_loading_of_definition hok
  obtain ⟨-, hinc, -, hout, -⟩ := hs hm
  generalize hnew : newSegment ((Tier.ofCode? tier).getD .lp) zone customers = new
  have hempty : (new.valveList = [] ∧ new.pointList = []) ∧
      (new.supply = .supplied ∧ new.outage = none ∧ new.relit = 0 ∧ new.openIncidents = 0) := by
    subst hnew; exact ⟨⟨rfl, rfl⟩, rfl, rfl, rfl, rfl⟩
  obtain ⟨hlists, -, hnone, hzero, hopen⟩ := hempty
  generalize hu : unflag .segment n (s.putSegment n new) = u
  have hseg (m : Nat) : Table.at? u.segments m = if m = n then some new else Table.at? s.segments m := by
    simp [← hu, Table.at?_put]
  have hcases {P : Segment → Prop} (hP : P new) (hold : ∀ m g, Table.at? s.segments m = some g → P g) :
      ∀ m g, Table.at? u.segments m = some g → P g := by
    intro m g hg
    rw [hseg] at hg
    split at hg
    · exact Option.some.inj hg ▸ hP
    · exact hold m g hg
  obtain ⟨hmu, hiu, hou, hvu, hpu, hcu⟩ : u.model = .loading ∧ u.incidents = [] ∧ u.outages = [] ∧
      u.valves = s.valves ∧ u.points = s.points ∧ u.stopCount = s.stopCount := by simp [← hu, hm, hinc, hout]
  refine ⟨⟨fun k => ⟨by simpa [← hu] using Table.rises_put k.segments n new, hvu ▸ k.valves, hpu ▸ k.points,
      by simp [hiu], by simp [hou]⟩, fun _ _ => endsLegal_of_loading hmu, fun _ _ hl => ?_, fun _ _ hc => ?_⟩,
    fun _ ho => ?_⟩
  · exact listsLegal_of_loading hmu (hcases hlists (hl.1 hm))
  · obtain ⟨hstop, hcap, -, hcounts, hsound⟩ := hc
    refine ⟨by rw [hcu, hvu, hstop], by rwa [hcu], by simp [hiu, Table.at?], fun m g hg => ?_, by rwa [hpu]⟩
    rw [length_openIncidents_of_nil hiu]
    refine hcases (P := fun g => g.openIncidents = min 255 0) hopen (fun m g hg => ?_) m g hg
    rw [hcounts m g hg, length_openIncidents_of_nil hinc]
  · exact (outagesLegal_of_nil hou).2 (hcases ⟨fun _ => hzero, hnone, by omega⟩ ((outagesLegal_of_nil hout).1 ho))

theorem defineValve_upholds (h : Header) (n k : Nat) (a b : Option Nat) (normal op : Nat) (tag : Option Tag) (r : Nat)
    {s : State} (hs : s.loadingLegal) : Upholds s (defineValve h n k a b normal op tag r s).1 := by
  refine tested_induct (.refl s) fun hok => ?_
  have hm := model_loading_of_definition hok
  obtain ⟨-, -, -, -, -, -, hzero, -⟩ := hs hm
  have htest : defineValveTest n k a b normal op tag r = true :=
    hok (defineValveTest n k a b normal op tag r, .badField) (List.mem_append_right _ (List.mem_singleton.2 rfl))
  generalize hnew : freshValve ((ValveKind.ofCode? k).getD .line) a (b.getD 0) ((Position.ofCode? normal).getD .opened)
    ((Operation.ofCode? op).getD .remote) tag ((Reported.ofCode? r).getD .unknown) s.now = new
  have hkind : new.kind ≠ .stop := by
    have hdef : definableKind k = true := by
      unfold defineValveTest at htest
      simp only [Bool.and_eq_true] at htest
      tauto
    subst hnew
    unfold definableKind at hdef
    cases e : ValveKind.ofCode? k with
    | none => simp [e] at hdef
    | some x => simpa [e, freshValve] using hdef
  generalize hu : unflag .valve n (s.putValve n new) = u
  have hval : u.valves = Table.put s.valves n new := by simp [← hu, State.putValve]
  obtain ⟨hmu, hgu, hiu, hou, hpu, hcu⟩ : u.model = .loading ∧ u.segments = s.segments ∧ u.incidents = s.incidents ∧
      u.outages = s.outages ∧ u.points = s.points ∧ u.stopCount = s.stopCount := by simp [← hu, hm]
  refine ⟨⟨fun k => ⟨hgu ▸ k.segments, by rw [hval]; exact Table.rises_put k.valves n new, hpu ▸ k.points,
      hiu ▸ k.incidents, hou ▸ k.outages⟩, fun _ _ => endsLegal_of_loading hmu, fun _ _ hl => ?_, fun k _ hc => ?_⟩,
    fun _ ho => outagesLegal_of_views (by rw [hgu]) hou ho⟩
  · exact listsLegal_of_loading hmu (by rw [hgu]; exact hl.1 hm)
  · obtain ⟨hstop, hcap, hincs, hcounts, hsound⟩ := hc
    have hnone := (Table.count_eq_zero k.valves).1 (hstop.symm.trans hzero)
    refine ⟨?_, by rwa [hcu], by rwa [hiu, hgu], fun m g hg => ?_, by rwa [hpu]⟩
    · rw [hcu, hzero, hval, eq_comm, Table.count_eq_zero (Table.rises_put k.valves n new)]
      intro m x hx
      rw [Table.at?_put] at hx
      split at hx
      · simpa using Option.some.inj hx ▸ hkind
      · exact hnone m x hx
    · rw [hcounts m g (hgu ▸ hg), length_openIncidents, length_openIncidents, hiu]

theorem definePoint_upholds (h : Header) (n : Nat) (t : Tag) (seg z g group k hyst stale : Nat) (s : State) :
    Upholds s (definePoint h n t seg z g group k hyst stale s).1 := by
  refine tested_induct (.refl s) fun hok => ?_
  have hm := model_loading_of_definition hok
  generalize hnew : newPoint t seg z g group k hyst stale s.now = new
  have hsound : new.sound := by subst hnew; simp [Point.sound, newPoint]
  generalize hu : unflag .point n (s.putPoint n new) = u
  have hpt : u.points = Table.put s.points n new := by simp [← hu, State.putPoint]
  obtain ⟨hmu, hgu, hiu, hou, hvu, hcu⟩ : u.model = .loading ∧ u.segments = s.segments ∧ u.incidents = s.incidents ∧
      u.outages = s.outages ∧ u.valves = s.valves ∧ u.stopCount = s.stopCount := by simp [← hu, hm]
  refine ⟨⟨fun k => ⟨hgu ▸ k.segments, hvu ▸ k.valves, by rw [hpt]; exact Table.rises_put k.points n new,
      hiu ▸ k.incidents, hou ▸ k.outages⟩, fun _ _ => endsLegal_of_loading hmu, fun _ _ hl => ?_, fun k _ hc => ?_⟩,
    fun _ ho => outagesLegal_of_views (by rw [hgu]) hou ho⟩
  · exact listsLegal_of_loading hmu (by rw [hgu]; exact hl.1 hm)
  · refine countsLegal_of_views hcu (by rw [hgu]) (by rw [hvu]) (by rw [hiu]) (fun hall m p hp => ?_) hc
    rw [hpt, Table.at?_put] at hp
    split at hp
    · exact Option.some.inj hp ▸ hsound
    · exact hall m p hp

/-! ## OPEN MODEL (R10 to R14) -/

/-- Where OPEN MODEL finds no fault, no record is at fault under the first three. -/
theorem checked_of_openFault {s : State} (h : openFault s = none) : s.checked 3 := by
  unfold openFault at h
  split at h
  · simp at h
  rename_i h1
  split at h
  · simp at h
  rename_i h2
  split at h
  · simp at h
  rename_i h3
  exact ⟨fun _ => h1, fun _ => h2, fun _ => h3⟩

/-- A valve that check 1 passes has its ends at different segments in use (R11). -/
theorem ends_of_not_valveAtFault {s : State} {a : Valve} (h : valveAtFault s a = false) :
    Table.has s.segments a.endB = true ∧
      ∀ x, a.endA = some x → Table.has s.segments x = true ∧ x ≠ a.endB := by
  have hnot : ¬ valveAtFault s a = true := by simp [h]
  rw [valveAtFault_iff, not_or, not_and, not_and] at hnot
  obtain ⟨hoff, hother⟩ := hnot
  simp only [← Table.has_eq_false, ← Bool.not_eq_true, not_or, not_exists, not_and, not_not] at hoff hother
  by_cases hk : a.kind = .offtake
  · obtain ⟨hA, hB⟩ := hoff hk
    exact ⟨hB, fun x hx => by simp [hA] at hx⟩
  · obtain ⟨-, hB, hx⟩ := hother hk
    exact ⟨hB, hx⟩

theorem opening_upholds {s : State} (hs : s.loadingLegal) (hm : s.model = .loading) (hf : openFault s = none) :
    Upholds s (opening s) := by
  obtain ⟨-, hinc, -, hout, -⟩ := hs hm
  obtain ⟨hends, hlists, hpoints⟩ := checked_of_openFault hf
  unfold opening
  extract_lets s1 s2
  have hstands : Stands s2 (trigger ((Table.keys s2.points).foldl (fun s n => firstSelection n s) s2)) :=
    trigger_stands (.foldl (fun h => firstSelection_stands h) (.refl s2))
  refine Upholds.stands ?_ hstands
  obtain ⟨hm2, hseg, hv, hp, hi, ho, hc⟩ : s2.model = .running ∧
      s2.segments = s.segments.map (fun r => (r.1, openedSegment s r.1 r.2)) ∧ s2.valves = s.valves ∧
      s2.points = s.points ∧ s2.incidents = [] ∧ s2.outages = [] ∧ s2.stopCount = s.stopCount := by
    simp [s2, s1, hinc, hout]
  clear_value s2
  have hkeys : Table.keys s2.segments = Table.keys s.segments := by
    simp [hseg, Table.keys, Function.comp_def]
  have hat (n : Nat) : Table.at? s2.segments n = (Table.at? s.segments n).map (openedSegment s n) := by
    rw [hseg, at?_opened]
  have hhas (n : Nat) : Table.has s2.segments n = Table.has s.segments n := Table.has_of_keys hkeys n
  refine ⟨⟨fun k => ⟨Table.rises_of_keys k.segments hkeys, hv ▸ k.valves, hp ▸ k.points, by simp [hi], by simp [ho]⟩,
    fun k _ _ v a ha => ?_, fun k _ _ => ⟨fun hl => by simp [hm2] at hl, fun _ => ⟨fun n g hn => ?_, fun n p hn => ?_⟩⟩,
    fun k _ hcl => ?_⟩, fun k _ => ?_⟩
  · have hok := (Table.head?_which_none k.valves).1 (hends (by omega)) v a (hv ▸ ha)
    simp only [hhas]
    exact ends_of_not_valveAtFault hok
  · rw [hat] at hn
    obtain ⟨g', hg', rfl⟩ := Option.map_eq_some_iff.1 hn
    have hfull := List.find?_eq_none.1 (hlists (by omega)) n (Table.mem_keys_of_at? hg')
    have hsmall : (valvesOn s n).length ≤ Config.segmentValveCapacity ∧
        (pointsOn s n).length ≤ Config.segmentPointCapacity := by
      simpa only [segmentOverfull, Bool.or_eq_true, decide_eq_true_eq, not_or, not_lt] using hfull
    rw [hv, hp]
    exact ⟨rfl, rfl, hsmall.1, hsmall.2⟩
  · have hok := (Table.head?_which_none k.points).1 (hpoints le_rfl) n p (hp ▸ hn)
    rw [hhas]
    simpa using hok
  · obtain ⟨hstop, hcap, -, -, hsound⟩ := hcl
    refine ⟨by rw [hc, hv, hstop], by rwa [hc], by simp [hi, Table.at?], fun n g hn => ?_, by rwa [hp]⟩
    rw [hat] at hn
    obtain ⟨g', hg', rfl⟩ := Option.map_eq_some_iff.1 hn
    rw [length_openIncidents_of_nil hi]
    rfl
  · refine (outagesLegal_of_nil ho).2 fun n g hn => ?_
    rw [hat] at hn
    obtain ⟨g', hg', rfl⟩ := Option.map_eq_some_iff.1 hn
    exact ⟨fun _ => rfl, rfl, Nat.zero_le _⟩

theorem openModel_upholds (h : Header) {s : State} (hs : s.loadingLegal) : Upholds s (openModel h s).1 := by
  refine tested_induct (.refl s) fun hok => ?_
  have hm : s.model = .loading := by
    have hr : (!s.running) = true := hok (!s.running, .modelLocked) (by simp)
    cases e : s.model with
    | loading => rfl
    | running => simp [State.running, e] at hr
  split
  · exact .refl s
  · rename_i hf
    exact opening_upholds hs hm hf

end Sys2Proof.Machine
end

section
/-! SUPPORT. The laws of the network across SPLIT SEGMENT and MERGE AT STOP (R16 to R21). -/

namespace Sys2Proof.Machine

/-! ## The ends of a renamed valve -/

section
variable {a : Valve} {old new n : Nat}

@[simp] theorem Valve.kind_rename : (a.rename old new).kind = a.kind := rfl

theorem Valve.endA_rename : (a.rename old new).endA = a.endA.map (fun x => if x = old then new else x) := rfl

theorem Valve.endB_rename : (a.rename old new).endB = if a.endB = old then new else a.endB := rfl

theorem Valve.ends_iff : a.ends n = true ↔ a.endA = some n ∨ a.endB = n := by
  simp [Valve.ends]

theorem Valve.ends_rename_new : (a.rename old new).ends new = true ↔ a.ends old = true ∨ a.ends new = true := by
  rw [Valve.ends_iff, Valve.ends_iff, Valve.ends_iff, Valve.endA_rename, Valve.endB_rename]
  cases a.endA with
  | none => by_cases h : a.endB = old <;> simp [h]
  | some x => by_cases h : a.endB = old <;> by_cases hx : x = old <;> simp [h, hx]

theorem Valve.ends_rename_old (h : old ≠ new) : ¬ (a.rename old new).ends old = true := by
  rw [Valve.ends_iff, Valve.endA_rename, Valve.endB_rename]
  rintro (e | e)
  · obtain ⟨x, -, hx⟩ := Option.map_eq_some_iff.1 e
    by_cases hxo : x = old <;> simp_all
  · by_cases hb : a.endB = old <;> simp_all

theorem Valve.ends_rename_other (h1 : n ≠ old) (h2 : n ≠ new) : (a.rename old new).ends n = true ↔ a.ends n = true := by
  rw [Valve.ends_iff, Valve.ends_iff, Valve.endA_rename, Valve.endB_rename]
  cases a.endA with
  | none => by_cases h : a.endB = old <;> simp [h, h1.symm, h2.symm]
  | some x => by_cases h : a.endB = old <;> by_cases hx : x = old <;> simp [h, hx, h1.symm, h2.symm]

end

/-- The ends of a valve are at different segments in use (R11). -/
def Valve.joins (a : Valve) (s : State) : Prop :=
  Table.has s.segments a.endB = true ∧ ∀ x, a.endA = some x → Table.has s.segments x = true ∧ x ≠ a.endB

theorem Valve.joins.has {a : Valve} {s : State} (h : a.joins s) {n : Nat} (hn : a.ends n = true) :
    Table.has s.segments n = true := by
  rcases Valve.ends_iff.1 hn with e | e
  · exact (h.2 n e).1
  · exact e ▸ h.1

/-- A renamed valve joins its ends where the segments in use are those before, but for the one renamed, with the other
one, and the other is not one that the valve has an end at already. -/
theorem Valve.joins.rename {a : Valve} {s u : State} (h : a.joins s) {old new : Nat}
    (hold : ∀ m, m ≠ old → Table.has s.segments m = true → Table.has u.segments m = true)
    (hnew : Table.has u.segments new = true) (happart : ¬ (a.ends old = true ∧ a.ends new = true)) :
    (a.rename old new).joins u := by
  obtain ⟨hB, hA⟩ := h
  unfold Valve.joins
  rw [Valve.endA_rename, Valve.endB_rename]
  rw [Valve.ends_iff, Valve.ends_iff] at happart
  refine ⟨?_, fun y hy => ?_⟩
  · split
    · exact hnew
    · exact hold _ ‹_› hB
  · obtain ⟨x, hx, rfl⟩ := Option.map_eq_some_iff.1 hy
    obtain ⟨hxs, hne⟩ := hA x hx
    by_cases e1 : x = old
    · have e2 : a.endB ≠ old := fun e => hne (e1.trans e.symm)
      have e3 : a.endB ≠ new := fun e => happart ⟨.inl (e1 ▸ hx), .inr e⟩
      simp only [e1, if_true, if_neg e2]
      exact ⟨hnew, e3.symm⟩
    · rw [if_neg e1]
      refine ⟨hold x e1 hxs, ?_⟩
      split
      · rename_i e2
        rintro rfl
        exact happart ⟨.inr e2, .inl hx⟩
      · exact hne

/-! ## Counting -/

/-- Tests that no record meets both count apart. -/
theorem Table.count_or {α : Type} (t : Table α) {p q : α → Bool} (h : ∀ a, p a = true → q a = false) :
    Table.count t (fun a => p a || q a) = Table.count t p + Table.count t q := by
  induction t with
  | nil => rfl
  | cons r t ih =>
    obtain ⟨k, a⟩ := r
    simp only [Table.count] at ih ⊢
    cases hp : p a with
    | true => simp [hp, h a hp, ih]; omega
    | false => cases hq : q a <;> simp [hp, hq, ih]; omega

theorem length_le_of_nodup_subset {l m : List Nat} (hl : l.Nodup) (h : ∀ x ∈ l, x ∈ m) : l.length ≤ m.length :=
  (List.subperm_of_subset hl h).length_le

/-! ## SPLIT SEGMENT -/

/-- What the tests of R16 give of an admitted split. -/
structure Splits (seg t v : Nat) (vs ps : List Nat) (g : Segment) (s : State) : Prop where
  running : s.model = .running
  old : Table.at? s.segments seg = some g
  newSegment : Table.at? s.segments t = none
  newValve : Table.at? s.valves v = none
  supplied : g.supply = .supplied
  valvesDistinct : vs.Nodup
  pointsDistinct : ps.Nodup
  valves : ∀ x ∈ vs, x ∈ g.valveList
  points : ∀ x ∈ ps, x ∈ g.pointList
  stops : s.stopCount < 256
  room : g.valveList.length - vs.length + 1 ≤ 12
  newRoom : vs.length + 1 ≤ 12

theorem splits_of_tests {h : Header} {seg : Nat} {vs ps : List Nat} {s : State} {g : Segment} {t v : Nat}
    (hok : ∀ x ∈ splitTests h seg vs ps s, x.1 = true) (hg : Table.at? s.segments seg = some g)
    (ht : Table.lowestFree s.segments Config.segmentSlots = some t)
    (hv : Table.lowestFree s.valves Config.valveSlots = some v) : Splits seg t v vs ps g s := by
  have htest (f : Segment → Bool) : Table.test s.segments seg f = f g := by simp [Table.test, hg]
  simp only [splitTests, List.mem_cons, List.not_mem_nil, or_false, forall_eq_or_imp, forall_eq, htest,
    Bool.and_eq_true, decide_eq_true_eq, List.all_eq_true, distinct_iff, List.contains_iff_mem] at hok
  obtain ⟨hrun, ⟨⟨-, hvd⟩, hpd⟩, -, -, ⟨hvl, hpl⟩, hsup, -, -, ⟨-, hstop⟩, hroom, hnew⟩ := hok
  exact ⟨running_iff.1 hrun, hg, (Table.lowestFree_some ht).2.1, (Table.lowestFree_some hv).2.1, hsup, hvd, hpd, hvl,
    hpl, hstop, hroom, hnew⟩

section
variable {seg t v moved : Nat} {vs ps : List Nat} {g : Segment} {s : State}

theorem Splits.ne (h : Splits seg t v vs ps g s) : t ≠ seg := by
  rintro rfl
  simpa [h.old] using h.newSegment

theorem has_split_segments (h : Splits seg t v vs ps g s) (n : Nat) :
    Table.has (split seg t v vs ps moved g s).segments n = true ↔ n = t ∨ Table.has s.segments n = true := by
  unfold Table.has
  rw [at?_split_segments]
  by_cases e : n = t
  · simp [e]
  · by_cases e' : n = seg
    · simp [e', h.old, h.ne.symm]
    · simp [e, e']

theorem split_ends (h : Splits seg t v vs ps g s) (he : s.endsLegal) :
    (split seg t v vs ps moved g s).endsLegal := by
  intro _ w y hy
  have hhas := has_split_segments (moved := moved) h
  have hused : ∀ m, Table.has s.segments m = true → Table.has (split seg t v vs ps moved g s).segments m = true :=
    fun m hm => (hhas m).2 (.inr hm)
  rw [at?_split_valves h.valvesDistinct] at hy
  split at hy
  · obtain rfl := Option.some.inj hy
    exact ⟨(hhas t).2 (.inl rfl), fun x hx => by
      obtain rfl : seg = x := Option.some.inj hx
      exact ⟨hused seg (Table.has_some h.old), h.ne.symm⟩⟩
  · split at hy
    · obtain ⟨a, ha, rfl⟩ := Option.map_eq_some_iff.1 hy
      have hj : a.joins s := he h.running w a ha
      refine hj.rename (fun m _ => hused m) ((hhas t).2 (.inl rfl)) fun hboth => ?_
      have := hj.has hboth.2
      simp [Table.has, h.newSegment] at this
    · obtain ⟨hB, hA⟩ := he h.running w y hy
      exact ⟨hused _ hB, fun x hx => ⟨hused x (hA x hx).1, (hA x hx).2⟩⟩

theorem split_keysRise (k : s.keysRise) :
    (split seg t v vs ps moved g s).keysRise where
  segments := by rw [split_segments]; exact Table.rises_put (Table.rises_put k.segments _ _) _ _
  valves := by
    rw [split_valves]
    exact Table.rises_put (Table.rises_of_keys k.valves (Table.keys_foldl_upd (fun _ a => a.rename seg t) _ _)) _ _
  points := by
    rw [split_points]
    exact Table.rises_of_keys k.points (Table.keys_foldl_upd (fun _ (p : Point) => p.movedTo t) _ _)
  incidents := by simpa using k.incidents
  outages := by simpa using k.outages

/-- The valves with an end at a segment after a split. -/
theorem split_valve_ends (h : Splits seg t v vs ps g s) (k : s.keysRise) (he : s.endsLegal) (hl : s.listsLegal)
    (n w : Nat) : (∃ a, Table.at? (split seg t v vs ps moved g s).valves w = some a ∧ a.ends n = true) ↔
      if n = t then w = v ∨ w ∈ vs
      else if n = seg then w = v ∨ w ∈ g.valveList ∧ w ∉ vs
      else ∃ a, Table.at? s.valves w = some a ∧ a.ends n = true := by
  obtain ⟨hlists, -⟩ := hl.2 h.running
  obtain ⟨hgv, -⟩ := hlists seg g h.old
  have hmem (x : Nat) : x ∈ g.valveList ↔ ∃ a, Table.at? s.valves x = some a ∧ a.ends seg = true := by
    rw [hgv, Table.mem_which k.valves]
  have hnot_t {x : Nat} {a : Valve} (hx : Table.at? s.valves x = some a) : ¬ a.ends t = true := fun hn => by
    have hj : a.joins s := he h.running x a hx
    have := hj.has hn
    simp [Table.has, h.newSegment] at this
  rw [at?_split_valves h.valvesDistinct]
  by_cases hwv : w = v
  · subst hwv
    have hstop : (freshValve .stop (some seg) t .opened .manual none .opened s.now).ends n = true ↔ n = seg ∨ n = t := by
      rw [Valve.ends_iff]
      simp [freshValve, eq_comm]
    simp only [if_true, Option.some.injEq, exists_eq_left', hstop, h.newValve]
    split
    · simp_all
    · split
      · simp_all
      · simp_all
  rw [if_neg hwv]
  simp only [hwv, false_or]
  by_cases hwvs : w ∈ vs
  · obtain ⟨a, ha, haseg⟩ := (hmem w).1 (h.valves w hwvs)
    simp only [hwvs, if_true, ha, Option.map_some, Option.some.injEq, exists_eq_left', not_true, and_false]
    split
    · subst_vars; simp [Valve.ends_rename_new, haseg]
    · rename_i hnt
      split
      · subst_vars; simpa using Valve.ends_rename_old h.ne.symm
      · rename_i hns
        exact Valve.ends_rename_other hns hnt
  · simp only [hwvs, if_false, not_false_eq_true, and_true]
    split
    · subst_vars
      simp only [iff_false, not_exists, not_and]
      exact fun a ha => hnot_t ha
    · split
      · subst_vars; exact (hmem w).symm
      · rfl

/-- The points at a segment after a split. -/
theorem split_point_segments (h : Splits seg t v vs ps g s) (k : s.keysRise) (hl : s.listsLegal) (n w : Nat) :
    (∃ p, Table.at? (split seg t v vs ps moved g s).points w = some p ∧ p.segment = n) ↔
      if n = t then w ∈ ps
      else if n = seg then w ∈ g.pointList ∧ w ∉ ps
      else ∃ p, Table.at? s.points w = some p ∧ p.segment = n := by
  obtain ⟨hlists, hpoints⟩ := hl.2 h.running
  obtain ⟨-, hgp, -⟩ := hlists seg g h.old
  have hmem (x : Nat) : x ∈ g.pointList ↔ ∃ p, Table.at? s.points x = some p ∧ p.segment = seg := by
    rw [hgp, Table.mem_which k.points]
    simp
  rw [at?_split_points h.pointsDistinct]
  by_cases hwps : w ∈ ps
  · obtain ⟨p, hp, hseg⟩ := (hmem w).1 (h.points w hwps)
    simp only [hwps, if_true, hp, Option.map_some, Option.some.injEq, exists_eq_left', Point.movedTo, not_true, and_false]
    split
    · simp_all
    · rename_i hnt
      split
      · subst_vars; simpa using h.ne
      · rename_i hns
        simp [hseg, Ne.symm hns, Ne.symm hnt]
  · simp only [hwps, if_false, not_false_eq_true, and_true]
    split
    · subst_vars
      simp only [iff_false, not_exists, not_and]
      rintro p hp rfl
      have := hpoints w p hp
      simp [Table.has, h.newSegment] at this
    · split
      · subst_vars; exact (hmem w).symm
      · rfl

theorem split_lists (h : Splits seg t v vs ps g s) (k : s.keysRise) (he : s.endsLegal) (hl : s.listsLegal) :
    (split seg t v vs ps moved g s).listsLegal := by
  have ku := split_keysRise (seg := seg) (t := t) (v := v) (moved := moved) (vs := vs) (ps := ps) (g := g) k
  obtain ⟨hlists, hpoints⟩ := hl.2 h.running
  obtain ⟨hgv, hgp, hgvlen, hgplen⟩ := hlists seg g h.old
  have hgvrise : g.valveList.Pairwise (· < ·) := by rw [hgv]; exact Table.pairwise_which k.valves _
  have hgprise : g.pointList.Pairwise (· < ·) := by rw [hgp]; exact Table.pairwise_which k.points _
  have hvalves (n w : Nat) := split_valve_ends (moved := moved) h k he hl n w
  have hpts (n w : Nat) := split_point_segments (moved := moved) h k hl n w
  refine ⟨fun hload => by simp [h.running] at hload, fun _ => ⟨fun n y hy => ?_, fun w p hp => ?_⟩⟩
  · rw [at?_split_segments] at hy
    split at hy
    · obtain rfl := Option.some.inj hy
      subst_vars
      refine ⟨Table.eq_which ku.valves (pairwise_insertNat v (pairwise_sortNat vs)) fun w => ?_,
        Table.eq_which ku.points (pairwise_sortNat ps) fun w => ?_, ?_, ?_⟩
      · rw [hvalves, if_pos rfl, splitNew, mem_insertNat, mem_sortNat]
      · simp only [decide_eq_true_eq]
        rw [hpts, if_pos rfl, splitNew, mem_sortNat]
      · have h1 := length_insertNat_le v (sortNat vs)
        have h2 := length_sortNat_le vs
        have h3 := h.newRoom
        simp only [splitNew, Config.segmentValveCapacity]
        omega
      · have h1 := length_sortNat_le ps
        have h2 := length_le_of_nodup_subset h.pointsDistinct h.points
        simp only [splitNew]
        omega
    · rename_i hnt
      split at hy
      · obtain rfl := Option.some.inj hy
        subst_vars
        refine ⟨Table.eq_which ku.valves (pairwise_insertNat v (hgvrise.sublist List.filter_sublist)) fun w => ?_,
          Table.eq_which ku.points (hgprise.sublist List.filter_sublist) fun w => ?_, ?_, ?_⟩
        · rw [hvalves, if_neg hnt, if_pos rfl, splitOld, mem_insertNat, List.mem_filter]
          simp
        · simp only [decide_eq_true_eq]
          rw [hpts, if_neg hnt, if_pos rfl, splitOld, List.mem_filter]
          simp
        · have h1 := length_insertNat_le v (g.valveList.filter (fun x => !vs.contains x))
          have h2 := length_filter_notMem h.valvesDistinct h.valves
          have h3 := h.room
          simp only [splitOld, Config.segmentValveCapacity]
          omega
        · exact (List.length_filter_le _ _).trans hgplen
      · rename_i hns
        obtain ⟨hyv, hyp, hyvlen, hyplen⟩ := hlists n y hy
        refine ⟨Table.eq_which ku.valves (by rw [hyv]; exact Table.pairwise_which k.valves _) fun w => ?_,
          Table.eq_which ku.points (by rw [hyp]; exact Table.pairwise_which k.points _) fun w => ?_, hyvlen, hyplen⟩
        · rw [hvalves, if_neg hnt, if_neg hns, hyv, Table.mem_which k.valves]
        · simp only [decide_eq_true_eq]
          rw [hpts, if_neg hnt, if_neg hns, hyp, Table.mem_which k.points]
          simp
  · rw [has_split_segments h]
    rw [at?_split_points h.pointsDistinct] at hp
    split at hp
    · obtain ⟨q, -, rfl⟩ := Option.map_eq_some_iff.1 hp
      exact .inl rfl
    · exact .inr (hpoints w p hp)

theorem split_counts (h : Splits seg t v vs ps g s) (k : s.keysRise) (hc : s.countsLegal) :
    (split seg t v vs ps moved g s).countsLegal := by
  obtain ⟨hstop, hcap, hincs, hcounts, hsound⟩ := hc
  have hopen (n : Nat) : openIncidents (split seg t v vs ps moved g s) n = openIncidents s n := by simp [openIncidents]
  refine ⟨?_, ?_, fun n i hi => ?_, fun n y hy => ?_, fun w p hp => ?_⟩
  · have hkinds : Table.image Valve.kind (vs.foldl (fun u x => Table.upd u x (fun a => a.rename seg t)) s.valves) =
        Table.image Valve.kind s.valves := Table.image_foldl_upd (g := fun _ (a : Valve) => a.rename seg t) (fun _ _ => rfl) _ _
    have hfree : Table.at? (vs.foldl (fun u x => Table.upd u x (fun a => a.rename seg t)) s.valves) v = none := by
      rw [Table.at?_foldl_upd h.valvesDistinct (fun _ (a : Valve) => a.rename seg t), h.newValve]
      simp
    rw [split_stopCount, split_valves, Table.count_put_free hfree, hstop,
      Table.count_of_image hkinds (fun x => decide (x = .stop))]
    rfl
  · rw [split_stopCount]
    exact h.stops
  · rw [has_split_segments h]
    exact .inr (hincs n i (by simpa using hi))
  · rw [hopen]
    rw [at?_split_segments] at hy
    split at hy
    · obtain rfl := Option.some.inj hy
      subst_vars
      have hzero : Table.count s.incidents (fun i => i.segment = n) = 0 :=
        (Table.count_eq_zero k.incidents).2 fun m i hi => by
          have := hincs m i hi
          simp only [decide_eq_false_iff_not]
          rintro rfl
          simp [Table.has, h.newSegment] at this
      rw [length_openIncidents, hzero]
      rfl
    · split at hy
      · obtain rfl := Option.some.inj hy
        subst_vars
        exact hcounts n g h.old
      · exact hcounts n y hy
  · rw [at?_split_points h.pointsDistinct] at hp
    split at hp
    · obtain ⟨q, hq, rfl⟩ := Option.map_eq_some_iff.1 hp
      exact hsound w q hq
    · exact hsound w p hp

theorem split_outages (h : Splits seg t v vs ps g s) (k : s.keysRise) (ho : s.outagesLegal) :
    (split seg t v vs ps moved g s).outagesLegal := by
  obtain ⟨hnone, hzero⟩ := (ho.1 seg g h.old).1 h.supplied
  refine outagesLegal_of_strangers k.segments (split_keysRise k).segments (by simp) (fun m x hx => ?_)
    (fun m x hx hxo => ?_) ho
  · rw [at?_split_segments] at hx
    split at hx
    · exact Option.some.inj hx ▸ .inr ⟨rfl, rfl⟩
    · split at hx
      · exact Option.some.inj hx ▸ .inr ⟨hnone, hzero⟩
      · exact .inl hx
  · have hmt : m ≠ t := by rintro rfl; simp [h.newSegment] at hx
    have hms : m ≠ seg := by
      rintro rfl
      exact hxo (Option.some.inj (h.old.symm.trans hx) ▸ hnone)
    rw [at?_split_segments, if_neg hmt, if_neg hms, hx]

theorem split_upholds (h : Splits seg t v vs ps g s) : Upholds s (split seg t v vs ps moved g s) where
  keysRise := split_keysRise
  ends _ := split_ends h
  lists := split_lists h
  counts k _ := split_counts h k
  outages := split_outages h

end

theorem splitSegment_upholds (h : Header) (seg : Nat) (vs ps : List Nat) (customers : Nat) (s : State) :
    Upholds s (splitSegment h seg vs ps customers s).1 := by
  refine tested_induct (.refl s) fun hok => ?_
  split
  · rename_i g t v hg ht hv
    exact split_upholds (splits_of_tests hok hg ht hv)
  · exact .refl s

end Sys2Proof.Machine
end

section
/-! SUPPORT. The laws of the network across MERGE AT STOP (R19 to R21). -/

namespace Sys2Proof.Machine

/-- What the tests of R19 give of an admitted merge at the stop `v` with ends `a` and `b`. -/
structure Merges (v a b : Nat) (x : Valve) (ga gb : Segment) (s : State) : Prop where
  running : s.model = .running
  stop : Table.at? s.valves v = some x
  kind : x.kind = .stop
  endA : x.endA = some a
  endB : x.endB = b
  segmentA : Table.at? s.segments a = some ga
  segmentB : Table.at? s.segments b = some gb
  suppliedA : ga.supply = .supplied
  suppliedB : gb.supply = .supplied
  happart : ∀ w y, Table.at? s.valves w = some y → w ≠ v → ¬ (y.ends b = true ∧ y.ends a = true)
  valveRoom : (mergedValves v ga gb).length ≤ 12
  pointRoom : ga.pointList.length + gb.pointList.length ≤ 4

theorem merges_of_tests {v a b : Nat} {x : Valve} {ga gb : Segment} {s : State} (hrun : s.model = .running)
    (hx : Table.at? s.valves v = some x) (hkind : x.kind = .stop) (hA : x.endA = some a) (hB : x.endB = b)
    (hga : Table.at? s.segments a = some ga) (hgb : Table.at? s.segments b = some gb)
    (hok : ∀ t ∈ mergeTests v a b s, t.1 = true) : Merges v a b x ga gb s := by
  simp only [mergeTests, hga, hgb, List.mem_cons, List.not_mem_nil, or_false, forall_eq_or_imp, forall_eq,
    Bool.and_eq_true, decide_eq_true_eq] at hok
  obtain ⟨-, -, ⟨hsa, hsb⟩, -, hapart, hvroom, hproom⟩ := hok
  refine ⟨hrun, hx, hkind, hA, hB, hga, hgb, hsa, hsb, fun w y hy hne hboth => ?_, hvroom, hproom⟩
  have : s.valves.any (fun r => r.1 != v && r.2.ends a && r.2.ends b) = true :=
    List.any_eq_true.2 ⟨(w, y), Table.mem_of_at? hy, by simp [hne, hboth]⟩
  simp [this] at hapart

section
variable {v a b : Nat} {x : Valve} {ga gb : Segment} {s : State}

/-- With ends at different segments in use, the two segments of the stop are different. -/
theorem Merges.ne (h : Merges v a b x ga gb s) (he : s.endsLegal) : a ≠ b := by
  have := ((he h.running v x h.stop).2 a h.endA).2
  rwa [h.endB] at this

theorem merge_keysRise (k : s.keysRise) : (merge v a b ga gb s).keysRise where
  segments := by rw [merge_segments]; exact Table.rises_del (Table.rises_put k.segments _ _) _
  valves := by
    rw [merge_valves]
    exact Table.rises_del (Table.rises_of_keys k.valves (Table.keys_foldl_upd (fun _ (y : Valve) => y.rename b a) _ _)) _
  points := by
    rw [merge_points]
    exact Table.rises_of_keys k.points (Table.keys_foldl_upd (fun _ (p : Point) => p.movedTo a) _ _)
  incidents := by
    rw [merge_incidents k.incidents]
    exact Table.rises_of_keys k.incidents (Table.keys_image _ _)
  outages := by simpa using k.outages

theorem has_merge_segments (h : Merges v a b x ga gb s) (n : Nat) :
    Table.has (merge v a b ga gb s).segments n = true ↔ n ≠ b ∧ Table.has s.segments n = true := by
  unfold Table.has
  rw [at?_merge_segments]
  by_cases e : n = b
  · simp [e]
  · by_cases e' : n = a
    · subst e'; simp [e, h.segmentA]
    · simp [e, e']

theorem merge_ends (h : Merges v a b x ga gb s) (k : s.keysRise) (he : s.endsLegal) :
    (merge v a b ga gb s).endsLegal := by
  intro _ w y hy
  have hhas := has_merge_segments h
  rw [at?_merge_valves k.valves] at hy
  split at hy
  · simp at hy
  rename_i hne
  obtain ⟨z, hz, rfl⟩ := Option.map_eq_some_iff.1 hy
  have hj : z.joins s := he h.running w z hz
  exact hj.rename (fun m hm hs => (hhas m).2 ⟨hm, hs⟩) ((hhas a).2 ⟨h.ne he, Table.has_some h.segmentA⟩)
    (h.happart w z hz hne)

/-- The valves with an end at a segment after a merge. -/
theorem merge_valve_ends (h : Merges v a b x ga gb s) (k : s.keysRise) (hl : s.listsLegal)
    {n : Nat} (hb : n ≠ b) (w : Nat) :
    (∃ y, Table.at? (merge v a b ga gb s).valves w = some y ∧ y.ends n = true) ↔
      if n = a then w ≠ v ∧ (w ∈ ga.valveList ∨ w ∈ gb.valveList)
      else ∃ y, Table.at? s.valves w = some y ∧ y.ends n = true := by
  obtain ⟨hlists, -⟩ := hl.2 h.running
  have hga := (hlists a ga h.segmentA).1
  have hgb := (hlists b gb h.segmentB).1
  rw [at?_merge_valves k.valves, hga, hgb, Table.mem_which k.valves, Table.mem_which k.valves]
  by_cases hw : w = v
  · subst hw
    simp only [if_true, reduceCtorEq, false_and, exists_false, ne_eq, not_true, false_iff]
    split
    · exact fun h' => h'
    · rename_i hna
      rintro ⟨y, hy, hn⟩
      obtain rfl := Option.some.inj (h.stop.symm.trans hy)
      rcases Valve.ends_iff.1 hn with e | e
      · exact hna (Option.some.inj (e.symm.trans h.endA))
      · exact hb (e.symm.trans h.endB)
  · rw [if_neg hw]
    cases Table.at? s.valves w with
    | none => simp
    | some y =>
      simp only [Option.map_some, Option.some.injEq, exists_eq_left', ne_eq, hw, not_false_eq_true, true_and]
      split
      · subst_vars; rw [Valve.ends_rename_new]; tauto
      · rename_i hna
        exact Valve.ends_rename_other hb hna

/-- The points at a segment after a merge. -/
theorem merge_point_segments (h : Merges v a b x ga gb s) (k : s.keysRise) (hab : a ≠ b) (hl : s.listsLegal) {n : Nat}
    (hb : n ≠ b) (w : Nat) : (∃ p, Table.at? (merge v a b ga gb s).points w = some p ∧ p.segment = n) ↔
      if n = a then w ∈ ga.pointList ∨ w ∈ gb.pointList
      else ∃ p, Table.at? s.points w = some p ∧ p.segment = n := by
  obtain ⟨hlists, -⟩ := hl.2 h.running
  obtain ⟨-, hga, -⟩ := hlists a ga h.segmentA
  obtain ⟨-, hgb, -⟩ := hlists b gb h.segmentB
  have hmem (x : Nat) : x ∈ gb.pointList ↔ ∃ p, Table.at? s.points x = some p ∧ p.segment = b := by
    rw [hgb, Table.mem_which k.points]
    simp
  rw [at?_merge_points, hga, Table.mem_which k.points]
  by_cases hw : w ∈ gb.pointList
  · obtain ⟨p, hp, hseg⟩ := (hmem w).1 hw
    simp only [hw, if_true, hp, Option.map_some, Option.some.injEq, exists_eq_left', Point.movedTo, hseg, or_true]
    split
    · simp_all
    · rename_i hna
      simp [Ne.symm hna, Ne.symm hb]
  · simp only [hw, if_false, or_false, decide_eq_true_eq]
    split
    · subst_vars; rfl
    · rfl

theorem merge_lists (h : Merges v a b x ga gb s) (k : s.keysRise) (he : s.endsLegal) (hl : s.listsLegal) :
    (merge v a b ga gb s).listsLegal := by
  have ku := merge_keysRise (v := v) (a := a) (b := b) (ga := ga) (gb := gb) k
  have hab := h.ne he
  obtain ⟨hlists, hpoints⟩ := hl.2 h.running
  refine ⟨fun hload => by simp [h.running] at hload, fun _ => ⟨fun n y hy => ?_, fun w p hp => ?_⟩⟩
  · rw [at?_merge_segments] at hy
    split at hy
    · simp at hy
    rename_i hnb
    have hvalves (w : Nat) := merge_valve_ends h k hl hnb w
    have hpts (w : Nat) := merge_point_segments h k hab hl hnb w
    split at hy
    · obtain rfl := Option.some.inj hy
      subst_vars
      refine ⟨Table.eq_which ku.valves (pairwise_sortNat _) fun w => ?_,
        Table.eq_which ku.points (pairwise_sortNat _) fun w => ?_, h.valveRoom, ?_⟩
      · rw [hvalves, if_pos rfl]
        change w ∈ mergedValves v ga gb ↔ _
        rw [mergedValves, mem_sortNat, List.mem_filter, List.mem_append, bne_iff_ne, and_comm]
      · simp only [decide_eq_true_eq]
        rw [hpts, if_pos rfl]
        change w ∈ sortNat (ga.pointList ++ gb.pointList) ↔ _
        rw [mem_sortNat, List.mem_append]
      · have h1 := length_sortNat_le (ga.pointList ++ gb.pointList)
        have h2 := h.pointRoom
        simp only [mergedSegment, Config.segmentPointCapacity]
        simp only [List.length_append] at h1
        omega
    · rename_i hna
      obtain ⟨hyv, hyp, hyvlen, hyplen⟩ := hlists n y hy
      refine ⟨Table.eq_which ku.valves (by rw [hyv]; exact Table.pairwise_which k.valves _) fun w => ?_,
        Table.eq_which ku.points (by rw [hyp]; exact Table.pairwise_which k.points _) fun w => ?_, hyvlen, hyplen⟩
      · rw [hvalves, if_neg hna, hyv, Table.mem_which k.valves]
      · simp only [decide_eq_true_eq]
        rw [hpts, if_neg hna, hyp, Table.mem_which k.points]
        simp
  · rw [has_merge_segments h]
    rw [at?_merge_points] at hp
    split at hp
    · obtain ⟨q, -, rfl⟩ := Option.map_eq_some_iff.1 hp
      exact ⟨hab, Table.has_some h.segmentA⟩
    · rename_i hnot
      refine ⟨?_, hpoints w p hp⟩
      rintro rfl
      rw [(hlists p.segment gb h.segmentB).2.1, Table.mem_which k.points] at hnot
      exact hnot ⟨p, hp, by simp⟩

/-- The incidents of the merged segment are those of both. -/
theorem length_openIncidents_merge (k : s.keysRise) (hab : a ≠ b) {n : Nat} (hb : n ≠ b) :
    (openIncidents (merge v a b ga gb s) n).length =
      (openIncidents s n).length + if n = a then (openIncidents s b).length else 0 := by
  simp only [length_openIncidents]
  rw [merge_incidents k.incidents, Table.count_image]
  by_cases e : n = a
  · subst e
    rw [if_pos rfl, ← Table.count_or _ (p := fun i : Incident => decide (i.segment = n)) (by simp; rintro i rfl; exact hab)]
    congr 1
    funext i
    unfold Incident.rename
    by_cases hi : i.segment = b <;> simp [hi]
  · rw [if_neg e, Nat.add_zero]
    congr 1
    funext i
    unfold Incident.rename
    by_cases hi : i.segment = b
    · simp [hi, Ne.symm hb, Ne.symm e]
    · simp [hi]

theorem merge_counts (h : Merges v a b x ga gb s) (k : s.keysRise) (he : s.endsLegal) (hc : s.countsLegal) :
    (merge v a b ga gb s).countsLegal := by
  have hab := h.ne he
  obtain ⟨hstop, hcap, hincs, hcounts, hsound⟩ := hc
  refine ⟨?_, ?_, fun n i hi => ?_, fun n y hy => ?_, fun w p hp => ?_⟩
  · have hkinds : Table.image Valve.kind ((renamedValves v b s).foldl (fun u x => Table.upd u x (fun y => y.rename b a))
        s.valves) = Table.image Valve.kind s.valves :=
      Table.image_foldl_upd (g := fun _ (y : Valve) => y.rename b a) (fun _ _ => rfl) _ _
    have hrise : Table.rises ((renamedValves v b s).foldl (fun u x => Table.upd u x (fun y => y.rename b a)) s.valves) :=
      Table.rises_of_keys k.valves (Table.keys_of_image hkinds)
    obtain ⟨z, hz, hzk⟩ := Table.exists_of_image hkinds.symm h.stop
    have hdel := Table.count_del hrise hz (fun y => decide (y.kind = .stop))
    rw [Table.count_of_image hkinds (fun x => decide (x = .stop)), ← hstop, hzk, h.kind] at hdel
    rw [merge_stopCount, merge_valves, ← hdel]
    simp
  · rw [merge_stopCount]
    exact (Nat.sub_le _ _).trans hcap
  · rw [has_merge_segments h]
    rw [merge_incidents k.incidents, Table.at?_image] at hi
    obtain ⟨j, hj, rfl⟩ := Option.map_eq_some_iff.1 hi
    unfold Incident.rename
    split
    · exact ⟨hab, Table.has_some h.segmentA⟩
    · exact ⟨‹_›, hincs n j hj⟩
  · rw [at?_merge_segments] at hy
    split at hy
    · simp at hy
    rename_i hnb
    rw [length_openIncidents_merge k hab hnb]
    split at hy
    · obtain rfl := Option.some.inj hy
      subst_vars
      have h1 := hcounts n ga h.segmentA
      have h2 := hcounts b gb h.segmentB
      rw [if_pos rfl]
      change min 255 (ga.openIncidents + gb.openIncidents) = _
      omega
    · rename_i hna
      rw [if_neg hna]
      exact hcounts n y hy
  · rw [at?_merge_points] at hp
    split at hp
    · obtain ⟨q, hq, rfl⟩ := Option.map_eq_some_iff.1 hp
      exact hsound w q hq
    · exact hsound w p hp

theorem merge_outages (h : Merges v a b x ga gb s) (k : s.keysRise) (ho : s.outagesLegal) :
    (merge v a b ga gb s).outagesLegal := by
  refine outagesLegal_of_strangers k.segments (merge_keysRise k).segments (by simp) (fun m y hy => ?_)
    (fun m y hy hyo => ?_) ho
  · rw [at?_merge_segments] at hy
    split at hy
    · simp at hy
    · split at hy
      · exact Option.some.inj hy ▸ .inr ⟨rfl, rfl⟩
      · exact .inl hy
  · have hsup : ∀ n g, Table.at? s.segments n = some g → g.supply = .supplied → m ≠ n := by
      rintro n g hg hs rfl
      exact hyo (Option.some.inj (hg.symm.trans hy) ▸ ((ho.1 m g hg).1 hs).1)
    rw [at?_merge_segments, if_neg (hsup b gb h.segmentB h.suppliedB), if_neg (hsup a ga h.segmentA h.suppliedA), hy]

theorem merge_upholds (h : Merges v a b x ga gb s) : Upholds s (merge v a b ga gb s) where
  keysRise := merge_keysRise
  ends := merge_ends h
  lists := merge_lists h
  counts := merge_counts h
  outages := merge_outages h

end

theorem mergeAtStop_upholds (h : Header) (v : Nat) (s : State) : Upholds s (mergeAtStop h v s).1 := by
  refine tested_induct (.refl s) fun hok => ?_
  split
  · rename_i x a b hx
    refine tested_induct (.refl s) fun hok' => ?_
    split
    · rename_i ga gb hga hgb
      simp only [List.mem_cons, forall_eq_or_imp, List.not_mem_nil, or_false, forall_eq] at hok
      obtain ⟨hrun, -, -, hstop⟩ := hok
      refine merge_upholds (merges_of_tests (running_iff.1 hrun) hx ?_ rfl rfl hga hgb fun t ht =>
        hok' t (List.mem_cons_of_mem _ ht))
      simpa [Table.test, hx] using hstop
    · exact .refl s
  · exact .refl s

end Sys2Proof.Machine
end

section
/-! SUPPORT. The requests and the laws of the network: each of the 52 upholds them, and leaves nothing in use while
LOADING but the loaded records. -/

namespace Sys2Proof.Machine

/-! ## Lawful steps -/

/-- From a state that meets the law of LOADING, the step upholds the laws of the network and that law. -/
structure Lawful (s u : State) : Prop where
  upholds : s.loadingLegal → Upholds s u
  loading : s.keysRise → s.loadingLegal → u.loadingLegal

theorem Lawful.refl (s : State) : Lawful s s := ⟨fun _ => .refl s, fun _ h => h⟩

theorem loadingLegal_of_running {u : State} (h : u.model = .running) : u.loadingLegal :=
  fun hm => by simp [h] at hm

section
variable {s t u : State}

/-- The laws are upheld only from rising tables, so these may be assumed. -/
theorem Upholds.of_keysRise (h : s.keysRise → Upholds s u) : Upholds s u :=
  ⟨⟨fun k => (h k).keysRise k, fun k => (h k).ends k, fun k => (h k).lists k, fun k => (h k).counts k⟩,
    fun k => (h k).outages k⟩

theorem Lawful.trans (h : Lawful s t) (h' : Lawful t u) : Lawful s u where
  upholds hl := .of_keysRise fun k => (h.upholds hl).trans (h'.upholds (h.loading k hl))
  loading k hl := h'.loading ((h.upholds hl).keysRise k) (h.loading k hl)

theorem Upholds.lawful (h : Upholds s u) (hr : s.model = .running) (hm : u.model = s.model) : Lawful s u :=
  ⟨fun _ => h, fun _ _ => loadingLegal_of_running (hm.trans hr)⟩

theorem Stands.lawful_of_running (h : Stands s u) (hr : s.model = .running) : Lawful s u :=
  ⟨fun _ => h.upholds, fun k _ => loadingLegal_of_running ((h.sameNetwork k).model.trans hr)⟩

/-- A step that leaves the network is lawful, if it keeps the law of LOADING. -/
theorem Stands.lawful (h : Stands s u) (hl : s.model = .loading → s.loadingLegal → u.loadingLegal) : Lawful s u := by
  refine ⟨fun _ => h.upholds, fun k hload => ?_⟩
  cases hm : s.model with
  | loading => exact hl hm hload
  | running => exact (h.lawful_of_running hm).loading k hload

theorem Lawful.of_frame (h : u.model = s.model ∧ u.stopCount = s.stopCount ∧ u.segments = s.segments ∧
    u.outages = s.outages ∧ u.valves = s.valves ∧ u.points = s.points ∧ u.incidents = s.incidents)
    (hl : s.loadingLegal → u.loadingLegal) : Lawful s u :=
  (Stands.of_frame h).lawful (fun _ => hl)

theorem Lawful.setPort (h : Lawful s t) (x : Port) : Lawful s (t.setPort x) := h.trans (.of_frame (by simp) id)

/-- The port, and the queue of commands, are no part of the laws. -/
theorem Lawful.setPending (s : State) (l : List Instr) : Lawful s (s.setPending l) := .of_frame (by simp) id

end

/-! ## The work owed -/

theorem caughtUp_of_loading {s : State} (hm : s.model = .loading) (hl : s.loadingLegal) : s.caughtUp := by
  obtain ⟨-, -, -, -, -, -, -, hdue⟩ := hl hm
  exact hdue

theorem settle_lawful (l : List TimedWork) (s : State) : Lawful s (settle l s) := by
  refine (settle_stands (.refl s)).lawful fun hm hl => ?_
  rwa [settle_of_caughtUp (caughtUp_of_loading hm hl)]

/-- A request whose action is lawful is lawful: it acts once its blocks did the work they owed. -/
theorem request_lawful {c : Instr} {h : Header} {owed : List TimedWork} {act : State → State × Reply}
    (hact : ∀ s, Lawful s (act s).1) {s t : State} (ht : request c h owed act s = .next t) : Lawful s t := by
  rcases request_cases ht with ⟨x, rfl⟩ | ⟨x, rfl⟩
  · exact (Lawful.refl s).setPort x
  · exact ((settle_lawful owed s).trans (hact _)).setPort x

/-! ## Requests with the test that the model is RUNNING -/

section
variable {l : List (Bool × Result)} {r : Result} {f : State → State × Reply} {s : State}

theorem tested_lawful (hf : (∀ x ∈ l, x.1 = true) → Lawful s (f s).1) : Lawful s (tested l f s).1 :=
  tested_induct (.refl s) hf

theorem tested_running_lawful (hl : (s.running, r) ∈ l)
    (hf : s.model = .running → (∀ x ∈ l, x.1 = true) → Lawful s (f s).1) : Lawful s (tested l f s).1 :=
  tested_lawful fun hok => hf (running_iff.1 (hok _ hl)) hok

/-- The action stands, and is taken only while RUNNING. -/
theorem tested_running_stands (hl : (s.running, r) ∈ l) (hf : Stands s (f s).1) : Lawful s (tested l f s).1 :=
  tested_running_lawful hl fun hr _ => hf.lawful_of_running hr

/-- The request upholds the laws, and is taken only while RUNNING. -/
theorem tested_running_upholds (hl : (s.running, r) ∈ l) (hm : (f s).1.model = s.model)
    (h : Upholds s (tested l f s).1) : Lawful s (tested l f s).1 :=
  ⟨fun _ => h, fun _ hload => tested_induct hload fun hok =>
    loadingLegal_of_running (hm.trans (running_iff.1 (hok _ hl)))⟩

/-- A request that reads leaves the state, whatever it answers. -/
theorem tested_reads_lawful (hf : (f s).1 = s) : Lawful s (tested l f s).1 :=
  tested_lawful fun _ => by rw [hf]; exact .refl s

end

/-! ## Network Model -/

section
variable (h : Header) (s : State)

theorem loadingLegal_of_definition {u : State} (hl : s.loadingLegal)
    (hu : u.model = s.model ∧ u.plans = s.plans ∧ u.incidents = s.incidents ∧ u.orders = s.orders ∧
      u.outages = s.outages ∧ u.intake = s.intake ∧ u.tracer = s.tracer ∧ u.stopCount = s.stopCount ∧
      u.clock = s.clock) : u.loadingLegal := by
  obtain ⟨hm, hp, hi, ho, hg, hq, ht, hc, hk⟩ := hu
  intro hu
  rw [hp, hi, ho, hg, hq, ht, hc, hk]
  exact hl (hm ▸ hu)

theorem defineSegment_lawful (n tier zone customers : Nat) : Lawful s (defineSegment h n tier zone customers s).1 :=
  ⟨defineSegment_upholds h n tier zone customers, fun _ hl => tested_induct hl fun _ =>
    loadingLegal_of_definition s hl (by simp)⟩

theorem defineValve_lawful (n k : Nat) (a b : Option Nat) (normal op : Nat) (tag : Option Tag) (r : Nat) :
    Lawful s (defineValve h n k a b normal op tag r s).1 :=
  ⟨defineValve_upholds h n k a b normal op tag r, fun _ hl => tested_induct hl fun _ =>
    loadingLegal_of_definition s hl (by simp)⟩

theorem definePoint_lawful (n : Nat) (t : Tag) (seg z g group k hyst stale : Nat) :
    Lawful s (definePoint h n t seg z g group k hyst stale s).1 :=
  ⟨fun _ => definePoint_upholds h n t seg z g group k hyst stale s, fun _ hl => tested_induct hl fun _ =>
    loadingLegal_of_definition s hl (by simp)⟩

theorem openModel_lawful : Lawful s (openModel h s).1 := by
  refine ⟨openModel_upholds h, fun _ hl => tested_induct hl fun _ => ?_⟩
  split
  · exact hl
  · exact loadingLegal_of_running (by simp [opening, State.setModel])

theorem alterSegment_lawful (n : Nat) (zone customers : Option Nat) :
    Lawful s (alterSegment h n zone customers s).1 :=
  tested_running_upholds (List.mem_cons_self ..) (by dsimp only; split <;> simp)
    (alterSegment_upholds h n zone customers s)

theorem splitSegment_lawful (n : Nat) (vs ps : List Nat) (customers : Nat) :
    Lawful s (splitSegment h n vs ps customers s).1 := by
  refine tested_running_upholds (List.mem_cons_self ..) ?_ (splitSegment_upholds h n vs ps customers s)
  split
  · simp
  · rfl

theorem mergeAtStop_lawful (v : Nat) : Lawful s (mergeAtStop h v s).1 := by
  refine tested_running_upholds (List.mem_cons_self ..) ?_ (mergeAtStop_upholds h v s)
  split
  · refine tested_induct (P := fun u => u.model = s.model) rfl fun _ => ?_
    split
    · simp
    · rfl
  · rfl

theorem readSegment_lawful (n : Nat) : Lawful s (readSegment n s).1 :=
  tested_reads_lawful (by split <;> rfl)

theorem readValve_lawful (n : Nat) : Lawful s (readValve n s).1 :=
  tested_reads_lawful (by split <;> rfl)

/-! ## Telemetry Intake, Pressure Supervisor and Supply Tracer -/

theorem readStrays_lawful (c : Option Nat) : Lawful s (readStrays c s).1 := .of_frame (by simp [readStrays]) id

theorem resetLink_lawful : Lawful s (resetLink s) := by
  refine .of_frame (by simp) fun hl hm => ?_
  obtain ⟨hp, hi, ho, hg, -, ht, hc, hk⟩ := hl hm
  exact ⟨hp, hi, ho, hg, rfl, ht, hc, hk⟩

theorem linkReset_lawful : Lawful s (linkReset h s).1 := tested_lawful fun _ => resetLink_lawful s

theorem alterPoint_lawful (n : Nat) (z g group k hyst stale : Option Nat) :
    Lawful s (alterPoint h n z g group k hyst stale s).1 := by
  unfold alterPoint
  split
  · exact tested_reads_lawful rfl
  · exact tested_running_stands (List.mem_cons_self ..) (alterFields_stands (.refl s))

theorem writeProfile_lawful (n : Nat) (e : Profile) : Lawful s (writeProfile n e s) := by
  refine (writeProfile_stands (.refl s)).lawful fun hm hl => ?_
  have hstay : writeProfile n e s = s.setProfiles (Table.put s.profiles n e) := by simp [writeProfile, State.running, hm]
  rw [hstay]
  exact hl

theorem setProfile_lawful (n group pv pm ll l hi hh : Nat) (enabled : Bool) :
    Lawful s (setProfile h n group pv pm ll l hi hh enabled s).1 := tested_lawful fun _ => writeProfile_lawful s n _

theorem readTrace_lawful : Lawful s (readTrace s).1 := .refl s

theorem readOutage_lawful (n start : Nat) : Lawful s (readOutage n start s).1 :=
  tested_reads_lawful (by split <;> rfl)

theorem reportRelit_lawful (n count : Nat) : Lawful s (reportRelit h n count s).1 := by
  refine tested_running_lawful (List.mem_cons_self ..) fun hr hok => ?_
  have hsup : Table.test s.segments n (fun g => g.supply = .relight) = true :=
    hok (Table.test s.segments n (fun g => g.supply = .relight), .wrongState) (by simp)
  split
  · exact .refl s
  · rename_i g hg
    have hrelight : g.supply = .relight := by simpa [Table.test, hg] using hsup
    exact (countRelit_upholds hg hrelight).lawful hr (by simp)

/-! ## Incident Register -/

theorem reportCall_lawful (ref seg : Nat) (indoor damage newInc : Bool) (mergeInto : Option Nat) :
    Lawful s (reportCall h ref seg indoor damage newInc mergeInto s).1 := by
  refine tested_running_lawful (List.mem_cons_self ..) fun hr hok => ?_
  have hseg : Table.has s.segments seg = true := hok (Table.has s.segments seg, .noRecord) (by simp [callTests])
  dsimp only
  split
  · exact (joinIncident_stands (.refl s)).lawful_of_running hr
  · split
    · exact .refl s
    · rename_i n hn
      obtain ⟨-, hfree, -⟩ := Table.lowestFree_some hn
      exact (makeIncident_upholds hfree hseg).lawful hr (by simp)

theorem regrade_lawful (n : Nat) (a : Int) : Lawful s (regrade h n a s).1 :=
  tested_running_stands (List.mem_cons_self ..) (adjustIncident_stands (.refl s))

theorem setAllowances_lawful (a b c : Nat) : Lawful s (setAllowances h a b c s).1 :=
  tested_lawful fun _ => .of_frame (by simp) id

theorem declareControlled_lawful (n : Nat) : Lawful s (declareControlled h n s).1 :=
  tested_running_stands (List.mem_cons_self ..) (setSafety_stands (n := n) (f := fun _ => .controlled) (.refl s))

theorem closeIncident_lawful (n : Nat) : Lawful s (closeIncident h n s).1 := by
  refine tested_running_lawful (List.mem_cons_self ..) fun hr _ => ?_
  split
  · exact .refl s
  · rename_i i hi
    exact (retireIncident_upholds hi).lawful hr (by simp)

theorem readIncident_lawful (n : Nat) : Lawful s (readIncident n s).1 :=
  tested_running_stands (List.mem_cons_self ..) (.of_frame (by simp))

/-! ## Dispatch Selector -/

theorem offerNext_lawful (v m : Nat) : Lawful s (offerNext h v m s).1 := by
  refine tested_running_stands (List.mem_cons_self ..) ?_
  have hw : Stands s (withdrawOffer h.desk s) := withdrawOffer_stands (.refl s)
  dsimp only
  split
  · exact hw
  · exact makeOffer_stands hw

theorem acceptOffer_lawful (n : Nat) : Lawful s (acceptOffer h n s).1 :=
  tested_running_stands (List.mem_cons_self ..) (attend_stands (clearOffer_stands (.refl s)))

theorem declineOffer_lawful (n : Nat) : Lawful s (declineOffer h n s).1 :=
  tested_running_stands (List.mem_cons_self ..) (attend_stands (clearOffer_stands (.refl s)))

theorem dispatchDirect_lawful (n : Nat) : Lawful s (dispatchDirect h n s).1 :=
  tested_running_stands (List.mem_cons_self ..) (sendCrew_stands (.refl s))

theorem reportAttended_lawful (n : Nat) : Lawful s (reportAttended h n s).1 :=
  tested_running_stands (List.mem_cons_self ..) (crewOnSite_stands (.refl s))

theorem setOfferTime_lawful (n : Nat) : Lawful s (setOfferTime h n s).1 :=
  tested_lawful fun _ => .of_frame (by simp) id

/-! ## Plan Engine -/

theorem createPlan_lawful (i t : Option Nat) (m : Nat) (w a k : Option Nat) :
    Lawful s (createPlan h i t m w a k s).1 := by
  refine tested_running_stands (List.mem_cons_self ..) ?_
  split
  · exact linkIncident_stands (.of_frame (by simp))
  · exact .refl s

theorem deletePlan_lawful (p : Nat) : Lawful s (deletePlan h p s).1 := by
  refine tested_running_stands (List.mem_cons_self ..) ?_
  split
  · exact .refl s
  · exact discardPlan_stands (.refl s)

theorem lockDraft_lawful (p : Nat) (c : Bool) : Lawful s (lockDraft h p c s).1 :=
  tested_running_stands (List.mem_cons_self ..) (.of_frame (by simp))

theorem addValve_lawful (p v : Nat) : Lawful s (addValve h p v s).1 :=
  tested_running_stands (List.mem_cons_self ..) (.of_frame (by simp))

theorem removeValve_lawful (p v : Nat) : Lawful s (removeValve h p v s).1 :=
  tested_running_stands (List.mem_cons_self ..) (.of_frame (by simp))

theorem commitDraft_lawful (p : Nat) : Lawful s (commitDraft h p s).1 := by
  have hc : Stands s (commitPlan p s) := .of_frame (by simp)
  exact tested_running_stands (List.mem_cons_self ..) (.ite (transfer_stands hc) hc)

theorem unlockDraft_lawful (p : Nat) : Lawful s (unlockDraft h p s).1 :=
  tested_running_stands (List.mem_cons_self ..) (.of_frame (by simp))

theorem releasePlan_lawful (p : Nat) : Lawful s (releasePlan h p s).1 :=
  tested_running_stands (List.mem_cons_self ..) (release_stands (.refl s))

theorem readPlan_lawful (p : Nat) : Lawful s (readPlan p s).1 :=
  tested_reads_lawful (by split <;> rfl)

/-! ## Order Unit -/

theorem reportValve_lawful (v position : Nat) : Lawful s (reportValve h v position s).1 :=
  tested_running_stands (List.mem_cons_self ..) (positionReport_stands (.refl s))

theorem fetchOrder_lawful : Lawful s (fetchOrder h s).1 := by
  refine tested_running_stands (List.mem_cons_self ..) ?_
  split
  · exact .refl s
  · exact takeOrder_stands (.refl s)

theorem withdrawOrder_lawful (n : Nat) : Lawful s (withdrawOrder h n s).1 := by
  refine tested_running_stands (List.mem_cons_self ..) ?_
  split
  · exact .refl s
  · exact withdraw_stands (.refl s)

theorem reissueValve_lawful (v : Nat) : Lawful s (reissueValve h v s).1 :=
  tested_running_stands (List.mem_cons_self ..) (reissue_stands (.refl s))

theorem declareInoperable_lawful (v : Nat) : Lawful s (declareInoperable h v s).1 :=
  tested_running_stands (List.mem_cons_self ..) (declare_stands (.refl s))

theorem restoreOperable_lawful (v : Nat) : Lawful s (restoreOperable h v s).1 :=
  tested_running_stands (List.mem_cons_self ..) (restore_stands (.refl s))

theorem setOrderTimes_lawful (remote crew : Nat) : Lawful s (setOrderTimes h remote crew s).1 :=
  tested_lawful fun _ => .of_frame (by simp) id

theorem readOrders_lawful (start selection : Nat) : Lawful s (readOrders start selection s).1 :=
  tested_running_stands (List.mem_cons_self ..) (.of_frame (by simp))

/-! ## Timebase, Notice Unit and desk windows -/

/-- A change of the clock that leaves the work owed is lawful; only while RUNNING does it reselect. -/
theorem clockChange_lawful {c : Clock} (hc : c.due = s.clock.due) : Lawful s (periodChanged s.clock (s.setClock c)) := by
  refine (periodChanged_stands (.of_frame (by simp))).lawful fun hm hl => ?_
  have hstay : periodChanged s.clock (s.setClock c) = s.setClock c := by simp [periodChanged, State.running, hm]
  obtain ⟨hp, hi, ho, hg, hq, ht, hs, hk⟩ := hl hm
  rw [hstay]
  exact fun _ => ⟨hp, hi, ho, hg, hq, ht, hs, hc.trans hk⟩

theorem setClock_lawful (n : Nat) : Lawful s (setClock h n s).1 := tested_lawful fun _ => clockChange_lawful s rfl

theorem setDayClass_lawful (d : Nat) : Lawful s (setDayClass h d s).1 := tested_lawful fun _ => clockChange_lawful s rfl

theorem setNoticeEnables_lawful (e : NoticeSet) : Lawful s (setNoticeEnables h e s).1 :=
  tested_lawful fun _ => .of_frame (by simp) id

theorem getNotices_lawful : Lawful s (getNotices s).1 := .of_frame (by simp [getNotices]) id

theorem peekNotices_lawful : Lawful s (peekNotices s).1 := .refl s

theorem listChanged_lawful (c m : Nat) : Lawful s (listChanged c m s).1 :=
  tested_lawful fun _ => .of_frame (by simp) id

theorem setDeskArea_lawful (d b l : Nat) : Lawful s (setDeskArea h d b l s).1 :=
  tested_lawful fun _ => .of_frame (by simp [setWindow]) id

end

/-! ## The commands that are requests -/

theorem exec_request_lawful {c : Instr} (hc : isRequest c = true) {s t : State} (ht : exec c s = .next t) :
    Lawful s t := by
  cases c with
  | defineSegment h n tier zone customers =>
    exact request_lawful (fun s => defineSegment_lawful h s n tier zone customers) ht
  | defineValve h n k a b normal op tag r =>
    exact request_lawful (fun s => defineValve_lawful h s n k a b normal op tag r) ht
  | openModel h => exact request_lawful (openModel_lawful h) ht
  | alterSegment h n zone customers => exact request_lawful (fun s => alterSegment_lawful h s n zone customers) ht
  | splitSegment h n vs ps customers => exact request_lawful (fun s => splitSegment_lawful h s n vs ps customers) ht
  | mergeAtStop h v => exact request_lawful (fun s => mergeAtStop_lawful h s v) ht
  | readSegment h n => exact request_lawful (fun s => readSegment_lawful s n) ht
  | readValve h n => exact request_lawful (fun s => readValve_lawful s n) ht
  | readStrays h c => exact request_lawful (fun s => readStrays_lawful s c) ht
  | linkReset h => exact request_lawful (linkReset_lawful h) ht
  | definePoint h n t seg z g group k hyst stale =>
    exact request_lawful (fun s => definePoint_lawful h s n t seg z g group k hyst stale) ht
  | alterPoint h n z g group k hyst stale =>
    exact request_lawful (fun s => alterPoint_lawful h s n z g group k hyst stale) ht
  | setProfile h n group pv pm ll l hi hh enabled =>
    exact request_lawful (fun s => setProfile_lawful h s n group pv pm ll l hi hh enabled) ht
  | readTrace h => exact request_lawful readTrace_lawful ht
  | readOutage h n start => exact request_lawful (fun s => readOutage_lawful s n start) ht
  | reportRelit h n count => exact request_lawful (fun s => reportRelit_lawful h s n count) ht
  | reportCall h ref seg indoor damage newInc mergeInto =>
    exact request_lawful (fun s => reportCall_lawful h s ref seg indoor damage newInc mergeInto) ht
  | regrade h n a => exact request_lawful (fun s => regrade_lawful h s n a) ht
  | setAllowances h a b c => exact request_lawful (fun s => setAllowances_lawful h s a b c) ht
  | declareControlled h n => exact request_lawful (fun s => declareControlled_lawful h s n) ht
  | closeIncident h n => exact request_lawful (fun s => closeIncident_lawful h s n) ht
  | readIncident h n => exact request_lawful (fun s => readIncident_lawful s n) ht
  | offerNext h v m => exact request_lawful (fun s => offerNext_lawful h s v m) ht
  | acceptOffer h n => exact request_lawful (fun s => acceptOffer_lawful h s n) ht
  | declineOffer h n => exact request_lawful (fun s => declineOffer_lawful h s n) ht
  | dispatchDirect h n => exact request_lawful (fun s => dispatchDirect_lawful h s n) ht
  | reportAttended h n => exact request_lawful (fun s => reportAttended_lawful h s n) ht
  | setOfferTime h n => exact request_lawful (fun s => setOfferTime_lawful h s n) ht
  | createPlan h i t m w a k => exact request_lawful (fun s => createPlan_lawful h s i t m w a k) ht
  | deletePlan h p => exact request_lawful (fun s => deletePlan_lawful h s p) ht
  | lockDraft h p c => exact request_lawful (fun s => lockDraft_lawful h s p c) ht
  | addValve h p v => exact request_lawful (fun s => addValve_lawful h s p v) ht
  | removeValve h p v => exact request_lawful (fun s => removeValve_lawful h s p v) ht
  | commitDraft h p => exact request_lawful (fun s => commitDraft_lawful h s p) ht
  | unlockDraft h p => exact request_lawful (fun s => unlockDraft_lawful h s p) ht
  | releasePlan h p => exact request_lawful (fun s => releasePlan_lawful h s p) ht
  | readPlan h p => exact request_lawful (fun s => readPlan_lawful s p) ht
  | reportValve h v position => exact request_lawful (fun s => reportValve_lawful h s v position) ht
  | fetchOrder h => exact request_lawful (fetchOrder_lawful h) ht
  | withdrawOrder h n => exact request_lawful (fun s => withdrawOrder_lawful h s n) ht
  | reissueValve h v => exact request_lawful (fun s => reissueValve_lawful h s v) ht
  | declareInoperable h v => exact request_lawful (fun s => declareInoperable_lawful h s v) ht
  | restoreOperable h v => exact request_lawful (fun s => restoreOperable_lawful h s v) ht
  | setOrderTimes h remote crew => exact request_lawful (fun s => setOrderTimes_lawful h s remote crew) ht
  | readOrders h start selection => exact request_lawful (fun s => readOrders_lawful s start selection) ht
  | setClock h n => exact request_lawful (fun s => setClock_lawful h s n) ht
  | setDayClass h d => exact request_lawful (fun s => setDayClass_lawful h s d) ht
  | setNoticeEnables h e => exact request_lawful (fun s => setNoticeEnables_lawful h s e) ht
  | getNotices h => exact request_lawful getNotices_lawful ht
  | peekNotices h => exact request_lawful peekNotices_lawful ht
  | listChanged h c m => exact request_lawful (fun s => listChanged_lawful s c m) ht
  | setDeskArea h d b l => exact request_lawful (fun s => setDeskArea_lawful h s d b l) ht
  | malformedRequestFrame | requestDiscarded | answerPlaced | readTransaction | telemetryByte | readingItem | holdItem |
    positionItem | linkUpItem | linkDownItem | badItem | publication | secondEvent | pointStale | incidentOverdue |
    offerExpiry | orderTimeout | windowEnd | coldReset => simp [isRequest, requestHeader] at hc

end Sys2Proof.Machine
end

section
/-! SUPPORT. The steps that are no request, and the laws of the network across every step of the part. -/

namespace Sys2Proof.Machine

section
variable (s : State)

/-! ## Items (R28, R31 to R36) -/

theorem toPoint_upholds {t : Tag} {act : Nat → State → State} (h : ∀ n, Upholds s (act n s)) :
    Upholds s (toPoint t act s) := by
  have hbad : Stands s (badIndication s) := .of_frame (by simp)
  have hstray : Stands s (strayTag t s) := .of_frame (by simp)
  unfold toPoint
  split
  · exact h _
  · exact .ite hbad.upholds hstray.upholds

theorem toValve_upholds {t : Tag} {act : Nat → State → State} (h : ∀ v, Upholds s (act v s)) :
    Upholds s (toValve t act s) := by
  have hbad : Stands s (badIndication s) := .of_frame (by simp)
  have hstray : Stands s (strayTag t s) := .of_frame (by simp)
  unfold toValve
  split
  · exact hbad.upholds
  · split
    · exact h _
    · exact hstray.upholds

theorem toPoint_model {t : Tag} {act : Nat → State → State} (h : ∀ n, (act n s).model = s.model) :
    (toPoint t act s).model = s.model := by
  unfold toPoint
  split
  · exact h _
  · split <;> simp

theorem toValve_model {t : Tag} {act : Nat → State → State} (h : ∀ v, (act v s).model = s.model) :
    (toValve t act s).model = s.model := by
  unfold toValve
  split
  · simp
  · split
    · exact h _
    · simp

/-- Items wait only while RUNNING; what is done with one is lawful if it leaves the model state and upholds the laws. -/
theorem takeItem_lawful {k : ItemKind} {owed : List TimedWork} {act : Item → State → State}
    (hm : ∀ i u, (act i u).model = u.model) (hact : ∀ i u, Upholds u (act i u)) :
    Lawful s (takeItem k owed act s) := by
  cases hs : s.model with
  | loading =>
    refine ⟨fun hl => ?_, fun _ hl => ?_⟩
    all_goals
      obtain ⟨-, -, -, -, hq, -⟩ := hl hs
      simp only [takeItem, hq]
    · exact .refl s
    · exact hl
  | running =>
    unfold takeItem
    split
    · exact .refl s
    · rename_i i rest hq
      split
      · have h1 : Stands s ((settle owed s).setIntake { (settle owed s).intake with queue := rest }) :=
          (settle_stands (.refl s) (l := owed)).frame (by simp)
        exact (h1.upholds.trans (hact i _)).lawful hs (by simp [hm])
      · exact .refl s

theorem readingItem_lawful : Lawful s (takeItem .reading [.staleness, .overdue, .windowEnd]
    (fun i => toPoint i.tag (fun n => reading n i.value)) s) :=
  takeItem_lawful s (fun _ u => toPoint_model u (by simp)) fun _ u => toPoint_upholds u fun n => reading_upholds n _ u

theorem holdItem_lawful : Lawful s (takeItem .hold [.staleness, .overdue, .windowEnd]
    (fun i => toPoint i.tag (fun n => holdReading n i.value)) s) :=
  takeItem_lawful s (fun _ u => toPoint_model u (by simp)) fun _ u =>
    toPoint_upholds u fun n => holdReading_upholds n _ u

theorem positionItem_lawful : Lawful s (takeItem .position [.overdue, .timeout, .windowEnd]
    (fun i => toValve i.tag (fun v => positionReport v (positionOfCode i.value))) s) :=
  takeItem_lawful s (fun _ u => toValve_model u (by simp)) fun _ u =>
    toValve_upholds u fun _ => (positionReport_stands (.refl u)).upholds

theorem linkUpItem_lawful : Lawful s (takeItem .linkUp [] (fun i => setLink i.tag.concentrator .up) s) :=
  takeItem_lawful s (by simp) fun _ u => (Stands.of_frame (s := u) (by simp)).upholds

theorem linkDownItem_lawful :
    Lawful s (takeItem .linkDown [.staleness, .timeout, .windowEnd] (fun i => linkDown i.tag.concentrator) s) :=
  takeItem_lawful s (by simp) fun _ u => (linkDown_stands (.refl u)).upholds

theorem badItem_lawful : Lawful s (takeItem .bad [] (fun _ => badIndication) s) :=
  takeItem_lawful s (by simp) fun _ u => (Stands.of_frame (s := u) (by simp)).upholds

/-! ## The receiver (R26) -/

theorem updReport_queue (f : IntakeReport → IntakeReport) : (updReport f s).intake.queue = s.intake.queue := by
  unfold updReport
  split <;> rfl

theorem beginItem_queue (b : Byte) : (beginItem b s).intake.queue = s.intake.queue := by
  unfold beginItem
  split
  · rfl
  · simp [updReport_queue, setReceiver]

theorem loseFraming_queue : (loseFraming s).intake.queue = [] := rfl

/-- While LOADING no item joins the queue. -/
theorem receiveByte_queue (marked : Bool) (b : Byte) (hm : s.model = .loading) (hq : s.intake.queue = []) :
    (receiveByte marked b s).intake.queue = [] := by
  unfold receiveByte
  split
  · rw [beginItem_queue, hq]
  · exact hq
  · rw [beginItem_queue, hq]
  · exact loseFraming_queue s
  · rw [beginItem_queue, loseFraming_queue]
  · split
    · exact hq
    · simp [completeItem, State.running, hm, setReceiver, hq]
  · rw [beginItem_queue, loseFraming_queue]
  · split <;> exact hq

theorem receiveByte_lawful (marked : Bool) (b : Byte) : Lawful s (receiveByte marked b s) := by
  refine (Stands.of_frame (by simp)).lawful fun hm hl => ?_
  obtain ⟨hp, hi, ho, hg, hq, ht, hc, hk⟩ := hl hm
  exact fun _ => ⟨by simpa using hp, by simpa using hi, by simpa using ho, by simpa using hg,
    receiveByte_queue s marked b hm hq, by simpa using ht, by simpa using hc, by simpa using hk⟩

/-! ## Time -/

theorem doWork_lawful (w : TimedWork) : Lawful s (doWork w s) := settle_lawful [w] s

theorem secondEvent_lawful : Lawful s (secondEvent s) := by
  refine (secondEvent_stands (.refl s)).lawful fun hm hl => ?_
  have hstay : secondEvent s = s.setClock { s.clock with second := nextSecond s.clock.second, due := [] } := by
    simp [secondEvent, settle_of_caughtUp (caughtUp_of_loading hm hl), periodChanged, State.running, hm]
  obtain ⟨hp, hi, ho, hg, hq, ht, hc, -⟩ := hl hm
  rw [hstay]
  exact fun _ => ⟨hp, hi, ho, hg, hq, ht, hc, rfl⟩

/-! ## The port -/

theorem clearSlots_lawful (l : Option (RecordClass × List Nat)) : Lawful s (clearSlots l s) := by
  cases l with
  | none => exact .refl s
  | some r => exact .of_frame (by simp [clearSlots]) id

theorem clearIncidentFull_lawful (b : Bool) : Lawful s (clearIncidentFull b s) := by
  cases b with
  | false => exact .refl s
  | true => exact .of_frame (by simp [clearIncidentFull]) id

theorem clearIndications_lawful (b : Bool) : Lawful s (clearIndications b s) := by
  cases b with
  | false => exact .refl s
  | true => exact .of_frame (by simp [clearIndications]) id

theorem clearStrays_lawful : Lawful s (clearStrays s) := by
  unfold clearStrays
  split
  · exact .refl s
  · exact .of_frame (by simp) id

/-- The placing of an answer clears notices, flags and indications only. -/
theorem placeAnswer_lawful : Lawful s (placeAnswer s) := by
  unfold placeAnswer
  split
  · have hnotices : Lawful s (clearNotices s.port.onPlace.notices s) := .of_frame (by simp [clearNotices]) id
    exact ((((hnotices.trans (clearSlots_lawful _ _)).trans (clearIncidentFull_lawful _ _)).trans
      (clearIndications_lawful _ _)).trans (clearStrays_lawful _)).setPort _
  · exact .refl s
  · exact .refl s

theorem readPort_lawful (n : Nat) : Lawful s (readPort n s) := by
  have hsent (l : List Byte) : Lawful s (setSent l s) := (Lawful.refl s).setPort _
  unfold readPort
  split
  · exact hsent _
  · split
    · exact ((Lawful.refl s).setPort _).setPort _
    · unfold readAnswer
      split
      · dsimp only
        split
        · exact (hsent _).setPort _
        · exact hsent _
      · exact hsent _
      · exact hsent _

end

/-! ## Cold reset (R193) -/

/-- After an edge of RESET no record is in use. -/
theorem resetEdge_upholds (e : ResetEdge) (s : State) : Upholds s (resetEdge e s) ∧ (resetEdge e s).loadingLegal := by
  obtain ⟨a, b, hr⟩ : ∃ a b, resetEdge e s = resetBlocks a b s := by cases e <;> exact ⟨_, _, rfl⟩
  rw [hr]
  have hm : (resetBlocks a b s).model = .loading := rfl
  refine ⟨⟨⟨fun _ => ⟨?_, ?_, ?_, ?_, ?_⟩, fun _ _ => endsLegal_of_loading hm, fun _ _ _ => ?_, fun _ _ _ => ?_⟩,
    fun _ _ => ?_⟩, fun _ => ⟨rfl, rfl, rfl, rfl, rfl, rfl, rfl, rfl⟩⟩
  · exact List.Pairwise.nil
  · exact List.Pairwise.nil
  · exact List.Pairwise.nil
  · exact List.Pairwise.nil
  · exact List.Pairwise.nil
  · exact listsLegal_of_loading hm fun n g h => by simp [resetBlocks, State.reset, Table.at?] at h
  · refine ⟨rfl, Nat.zero_le _, fun n g h => ?_, fun n g h => ?_, fun n g h => ?_⟩
    all_goals simp [resetBlocks, State.reset, Table.at?] at h
  · exact (outagesLegal_of_nil rfl).2 fun n g h => by simp [resetBlocks, State.reset, Table.at?] at h

/-! ## Every command -/

theorem partStep_lawful {act : State → State} {s t : State} (h : Lawful s (act s)) (ht : partStep act s = .next t) :
    Lawful s t := by
  obtain rfl := Host.Outcome.next.inj ht
  split
  · exact .refl s
  · exact h

theorem malformedRequestFrame_lawful {l : List Byte} {s t : State} (ht : exec (.malformedRequestFrame l) s = .next t) :
    Lawful s t := by
  change execMalformedRequestFrame l s = _ at ht
  unfold execMalformedRequestFrame at ht
  split at ht
  · obtain rfl := Host.Outcome.next.inj ht
    unfold emptyTransaction
    split
    · exact .refl s
    · split
      · exact (Lawful.refl s).setPort _
      · exact .refl s
  · rename_i first rest
    split at ht
    · obtain rfl := Host.Outcome.next.inj ht
      exact readPort_lawful s _
    · split at ht
      · rename_i tag r hp
        obtain rfl := Host.Outcome.next.inj ht
        unfold atPort
        split
        · exact .refl s
        · split
          · exact (Lawful.refl s).setPort _
          · split <;> exact (Lawful.refl s).setPort _
      · rename_i c hp
        obtain ⟨h, owed, act, hexec, hframe⟩ := exec_request (isRequest_of_parseFrame hp)
        exact exec_request_lawful (isRequest_of_parseFrame hp) ((hexec s).trans ((hframe s).symm.trans ht))

theorem requestDiscarded_lawful (s : State) : Lawful s (frameDiscarded s) := by
  have hport (x : Port) : Lawful s (s.setPort x) := (Lawful.refl s).setPort x
  unfold frameDiscarded
  split
  · exact .refl s
  · split
    · exact hport _
    · split
      · exact .refl s
      · exact hport _
      · exact hport _

/-- Every command but PUBLICATION is lawful. -/
theorem exec_lawful {c : Instr} (hc : c ≠ .publication) {s t : State} (ht : exec c s = .next t) : Lawful s t := by
  cases c with
  | publication => exact absurd rfl hc
  | malformedRequestFrame l => exact malformedRequestFrame_lawful ht
  | requestDiscarded => exact Host.Outcome.next.inj ht ▸ requestDiscarded_lawful s
  | answerPlaced => exact partStep_lawful (placeAnswer_lawful s) ht
  | readTransaction n => exact Host.Outcome.next.inj ht ▸ readPort_lawful s n
  | telemetryByte l =>
    refine partStep_lawful ?_ ht
    split
    · exact receiveByte_lawful s _ _
    · exact .refl s
  | readingItem => exact partStep_lawful (readingItem_lawful s) ht
  | holdItem => exact partStep_lawful (holdItem_lawful s) ht
  | positionItem => exact partStep_lawful (positionItem_lawful s) ht
  | linkUpItem => exact partStep_lawful (linkUpItem_lawful s) ht
  | linkDownItem => exact partStep_lawful (linkDownItem_lawful s) ht
  | badItem => exact partStep_lawful (badItem_lawful s) ht
  | secondEvent => exact partStep_lawful (secondEvent_lawful s) ht
  | pointStale | incidentOverdue | offerExpiry | orderTimeout | windowEnd => exact partStep_lawful (doWork_lawful s _) ht
  | coldReset e =>
    obtain rfl := Host.Outcome.next.inj ht
    exact ⟨fun _ => (resetEdge_upholds e s).1, fun _ _ => (resetEdge_upholds e s).2⟩
  | _ => exact exec_request_lawful rfl ht

/-- A publication upholds the laws of the network, and with the pass in its ranges those of the outage records; while
LOADING no pass is RUNNING. -/
theorem publication_laws (s : State) : UpholdsNetwork s (publication s) ∧
    (s.keysRise → s.tracerLegal → s.outagesLegal → (publication s).outagesLegal) ∧
    (s.loadingLegal → (publication s).loadingLegal) := by
  unfold publication
  split
  · exact ⟨(Upholds.refl s).toUpholdsNetwork, fun _ _ h => h, id⟩
  · rename_i inp hp
    refine ⟨publish_network inp s, fun k ⟨_, _, _, _, hinp⟩ h => publish_legal (hinp inp hp) k h, fun hl hm => ?_⟩
    obtain ⟨-, -, -, -, -, hidle, -⟩ := hl (by simpa using hm)
    simp [hp] at hidle

/-- What every command keeps: the law of LOADING, those of the network, and with the pass in its ranges those of the
outage records. -/
theorem exec_keeps {c : Instr} {s t : State} (k : s.keysRise) (hl : s.loadingLegal) (ht : exec c s = .next t) :
    t.loadingLegal ∧ UpholdsNetwork s t ∧ (s.tracerLegal → s.outagesLegal → t.outagesLegal) := by
  by_cases hc : c = .publication
  · subst hc
    obtain rfl := Host.Outcome.next.inj ht
    split
    · exact ⟨hl, (Upholds.refl s).toUpholdsNetwork, fun _ h => h⟩
    · obtain ⟨hnet, hout, hload⟩ := publication_laws s
      exact ⟨hload hl, hnet, hout k⟩
  · have h := exec_lawful hc ht
    have hup := h.upholds hl
    exact ⟨h.loading k hl, hup.toUpholdsNetwork, fun _ => hup.outages k⟩

/-- Settles O11: each command keeps the laws; the queue that it leaves is no part of them. -/
theorem recordLawsHold : Obligations.RecordLawsHold := by
  unfold Obligations.RecordLawsHold
  intro s t htab hl hstep
  have k := htab.keysRise
  have hkeep : t.loadingLegal ∧ UpholdsNetwork s t ∧ (s.tracerLegal → s.outagesLegal → t.outagesLegal) := by
    unfold step at hstep
    split at hstep
    · obtain rfl := Host.Outcome.next.inj hstep
      exact ⟨hl, (Upholds.refl s).toUpholdsNetwork, fun _ h => h⟩
    · rename_i c rest hp
      have hpending := Lawful.setPending s rest
      have hup := hpending.upholds hl
      obtain ⟨hload, hnet, hout⟩ := exec_keeps (hup.keysRise k) (hpending.loading k hl) hstep
      exact ⟨hload, hup.toUpholdsNetwork.trans hnet, fun htr ho => hout htr (hup.outages k ho)⟩
  obtain ⟨hload, hnet, hout⟩ := hkeep
  exact ⟨hload, fun he => ⟨hnet.ends k he, hnet.lists k he⟩, hnet.counts k, hout⟩

end Sys2Proof.Machine
end

section
/-! SUPPORT. The settings that a step keeps (R97, R108, R145, R172, R190): the allowances, the offer time and the order
times, of which each block's own operations leave some alone. -/

namespace Sys2Proof.Machine

/-! ## The settings of a block -/

/-- The order times of the Order Unit (R155). -/
def OrderUnit.times (u : OrderUnit) : Nat × Nat := (u.remoteTime, u.crewTime)

/-- The allowances of the Incident Register (R97). -/
def Register.allowances (r : Register) : Nat × Nat × Nat := (r.allowanceA, r.allowanceB, r.allowanceC)

@[simp] theorem OrderUnit.times_mk (u : OrderUnit) (n : Nat) (x y : Indication) :
    OrderUnit.times ⟨n, u.remoteTime, u.crewTime, x, y⟩ = u.times := rfl

@[simp] theorem Register.allowances_mk (r : Register) (full : Bool) (last : Option Nat) :
    Register.allowances ⟨r.allowanceA, r.allowanceB, r.allowanceC, full, last⟩ = r.allowances := rfl

@[simp] theorem times_ite (c : Prop) [Decidable c] (a b : OrderUnit) :
    (if c then a else b).times = if c then a.times else b.times := apply_ite _ _ _ _

@[simp] theorem allowances_ite (c : Prop) [Decidable c] (a b : Register) :
    (if c then a else b).allowances = if c then a.allowances else b.allowances := apply_ite _ _ _ _

@[simp] theorem offerTime_ite (c : Prop) [Decidable c] (a b : Dispatch) :
    (if c then a else b).offerTime = if c then a.offerTime else b.offerTime := apply_ite _ _ _ _

/-- A run of changes leaves what each change leaves. -/
theorem kept_foldl {α γ : Type} {field : State → γ} {f : State → α → State} (hf : ∀ s a, field (f s a) = field s)
    (l : List α) (s : State) : field (l.foldl f s) = field s := by
  induction l generalizing s with
  | nil => rfl
  | cons a l ih => rw [List.foldl_cons, ih, hf]

@[simp] theorem times_foldl {α : Type} (f : State → α → State)
    (hf : ∀ s a, (f s a).orderUnit.times = s.orderUnit.times) (l : List α) (s : State) :
    (l.foldl f s).orderUnit.times = s.orderUnit.times :=
  kept_foldl (field := fun s => s.orderUnit.times) hf l s

@[simp] theorem offerTime_foldl {α : Type} (f : State → α → State)
    (hf : ∀ s a, (f s a).dispatch.offerTime = s.dispatch.offerTime) (l : List α) (s : State) :
    (l.foldl f s).dispatch.offerTime = s.dispatch.offerTime :=
  kept_foldl (field := fun s => s.dispatch.offerTime) hf l s

/-! ## The order times (R145, R155) -/

section
variable (s : State)

@[simp] theorem queueOrder_times (v : Nat) : (queueOrder v s).orderUnit.times = s.orderUnit.times := by
  unfold queueOrder
  split
  · rfl
  · split <;> simp

@[simp] theorem queueIfOwed_times (v : Nat) : (queueIfOwed v s).orderUnit.times = s.orderUnit.times := by
  simp [queueIfOwed]

@[simp] theorem drawWaitingFrom_times (k : Nat) : (drawWaitingFrom k s).orderUnit.times = s.orderUnit.times := by
  induction k generalizing s with
  | zero => rfl
  | succ k ih =>
    unfold drawWaitingFrom
    split
    · split
      · rfl
      · simp [ih]
    · rfl

@[simp] theorem drawWaiting_times : (drawWaiting s).orderUnit.times = s.orderUnit.times := drawWaitingFrom_times s _

@[simp] theorem wantedChange_times (v : Nat) : (wantedChange v s).orderUnit.times = s.orderUnit.times := by
  unfold wantedChange
  split
  · rfl
  · split
    · simp
    · split
      · rfl
      · split <;> simp

@[simp] theorem wantedChanges_times (l : List Nat) : (wantedChanges l s).orderUnit.times = s.orderUnit.times := by
  simp [wantedChanges]

@[simp] theorem completeOrder_times (v : Nat) (a : Valve) (o : Order) :
    (completeOrder v a o s).orderUnit.times = s.orderUnit.times := by
  simp [completeOrder]

@[simp] theorem timeOutOrders_times : (timeOutOrders s).orderUnit.times = s.orderUnit.times := by
  unfold timeOutOrders
  dsimp only
  split <;> simp

@[simp] theorem transferCore_times (p : Nat) : (transferCore p s).1.orderUnit.times = s.orderUnit.times := by
  unfold transferCore
  split <;> simp

@[simp] theorem testRelease_times (k p : Nat) : (testRelease k p s).orderUnit.times = s.orderUnit.times := by
  induction k generalizing p s with
  | zero => rfl
  | succ k ih =>
    unfold testRelease
    split
    · rfl
    · simp [ih]

@[simp] theorem testPlan_times (p : Nat) : (testPlan p s).orderUnit.times = s.orderUnit.times := testRelease_times s _ p

@[simp] theorem transfer_times (p : Nat) : (transfer p s).orderUnit.times = s.orderUnit.times := by
  simp [transfer]

@[simp] theorem becomeSecured_times (p : Nat) : (becomeSecured p s).orderUnit.times = s.orderUnit.times := by
  simp [becomeSecured]

@[simp] theorem reevaluate_times (v p : Nat) : (reevaluate v p s).orderUnit.times = s.orderUnit.times := by
  unfold reevaluate
  split
  · rfl
  · split
    · rfl
    · split <;> simp

@[simp] theorem positionChanged_times (v : Nat) : (positionChanged v s).orderUnit.times = s.orderUnit.times := by
  simp [positionChanged]

@[simp] theorem operabilityChanged_times (v : Nat) : (operabilityChanged v s).orderUnit.times = s.orderUnit.times := by
  simp [operabilityChanged]

@[simp] theorem release_times (p : Nat) : (release p s).orderUnit.times = s.orderUnit.times := by
  unfold release
  split <;> simp

@[simp] theorem orderSteps_times (v : Nat) (a : Valve) (r : Reported) :
    (orderSteps v a r s).orderUnit.times = s.orderUnit.times := by
  unfold orderSteps
  split <;> simp

@[simp] theorem positionReport_times (v : Nat) (r : Reported) :
    (positionReport v r s).orderUnit.times = s.orderUnit.times := by
  unfold positionReport
  split <;> simp

@[simp] theorem withdraw_times (n v : Nat) : (withdraw n v s).orderUnit.times = s.orderUnit.times := by
  simp [withdraw, silently]

@[simp] theorem reissue_times (v : Nat) : (reissue v s).orderUnit.times = s.orderUnit.times := by
  unfold reissue
  split <;> simp

@[simp] theorem declare_times (v : Nat) : (declare v s).orderUnit.times = s.orderUnit.times := by
  unfold declare
  split <;> simp

@[simp] theorem restore_times (v : Nat) : (restore v s).orderUnit.times = s.orderUnit.times := by
  unfold restore
  split <;> simp

/-! ## The allowances (R97) -/

@[simp] theorem pressureRequest_allowances (seg : Nat) :
    (pressureRequest seg s).register.allowances = s.register.allowances := by
  unfold pressureRequest
  split
  · simp
  · split <;> simp

@[simp] theorem bandHandOff_allowances (seg : Nat) (b : Band) :
    (bandHandOff seg b s).register.allowances = s.register.allowances := by
  simp [bandHandOff]

@[simp] theorem evaluateBand_allowances (n : Nat) (e : Profile) (p m : Nat) :
    (evaluateBand n e p m s).register.allowances = s.register.allowances := by
  unfold evaluateBand
  split
  · rfl
  · dsimp only
    split <;> simp

@[simp] theorem applyPressure_allowances (n : Nat) (c : Nat × Bool) (m : Nat) :
    (applyPressure n c m s).register.allowances = s.register.allowances := by
  unfold applyPressure
  split
  · rfl
  · dsimp only
    split <;> simp

@[simp] theorem reading_allowances (n r : Nat) : (reading n r s).register.allowances = s.register.allowances := by
  unfold reading
  split <;> simp

@[simp] theorem holdReading_allowances (n k : Nat) :
    (holdReading n k s).register.allowances = s.register.allowances := by
  unfold holdReading
  split
  · rfl
  · split <;> simp

/-! ## The offer time (R108) -/

@[simp] theorem clearOffer_offerTime (d : Nat) : (clearOffer d s).dispatch.offerTime = s.dispatch.offerTime := rfl

@[simp] theorem expireOffer_offerTime (d : Nat) : (expireOffer d s).dispatch.offerTime = s.dispatch.offerTime := by
  unfold expireOffer
  split <;> simp

@[simp] theorem expireOffers_offerTime : (expireOffers s).dispatch.offerTime = s.dispatch.offerTime := by
  simp [expireOffers]

@[simp] theorem unlinkOffer_offerTime (i : Incident) :
    (unlinkOffer i s).dispatch.offerTime = s.dispatch.offerTime := by
  unfold unlinkOffer
  split <;> simp

@[simp] theorem retireIncident_offerTime (n : Nat) (i : Incident) :
    (retireIncident n i s).dispatch.offerTime = s.dispatch.offerTime := by
  simp [retireIncident]

@[simp] theorem withdrawOffer_offerTime (d : Nat) : (withdrawOffer d s).dispatch.offerTime = s.dispatch.offerTime := by
  unfold withdrawOffer
  split <;> simp

@[simp] theorem makeOffer_offerTime (d n : Nat) : (makeOffer d n s).dispatch.offerTime = s.dispatch.offerTime := by
  simp [makeOffer]

@[simp] theorem sendCrew_offerTime (d n : Nat) : (sendCrew d n s).dispatch.offerTime = s.dispatch.offerTime := by
  unfold sendCrew
  split <;> simp

@[simp] theorem clearOfferOf_offerTime (i : Incident) :
    (clearOfferOf i s).dispatch.offerTime = s.dispatch.offerTime := by
  unfold clearOfferOf
  split <;> simp

@[simp] theorem crewOnSite_offerTime (n : Nat) : (crewOnSite n s).dispatch.offerTime = s.dispatch.offerTime := by
  unfold crewOnSite
  split <;> simp

end

end Sys2Proof.Machine
end

section
/-! SUPPORT. The commands of the port that are no request of their own (R182 to R185): each writes the port alone, or is
the request that its frame spells. -/

namespace Sys2Proof.Machine

/-- What a request makes of the state, as `request_cases` has it, with what the port test of the frame gives. -/
theorem request_wellFormed_cases {c : Instr} {h : Header} {owed : List TimedWork} {act : State → State × Reply}
    {s t : State} (ht : request c h owed act s = .next t) :
    (∃ x, t = s.setPort x) ∨ wellFormed c = true ∧ ∃ x, t = ((act (settle owed s)).1).setPort x := by
  cases hw : wellFormed c with
  | true => simpa [hw] using request_cases ht
  | false =>
    unfold request atPort frameTest at ht
    obtain rfl := Host.Outcome.next.inj ht
    rw [hw]
    split
    · exact .inl ⟨s.port, rfl⟩
    · split
      · exact .inl ⟨_, rfl⟩
      · split <;> exact .inl ⟨_, rfl⟩

theorem frameDiscarded_eq_setPort (s : State) : ∃ x, frameDiscarded s = s.setPort x := by
  unfold frameDiscarded
  split
  · exact ⟨s.port, rfl⟩
  · split
    · exact ⟨_, rfl⟩
    · split
      · exact ⟨s.port, rfl⟩
      · exact ⟨_, rfl⟩
      · exact ⟨_, rfl⟩

theorem readPort_eq_setPort (n : Nat) (s : State) : ∃ x, readPort n s = s.setPort x := by
  unfold readPort
  split
  · exact ⟨_, rfl⟩
  · split
    · exact ⟨_, rfl⟩
    · unfold readAnswer
      split
      · dsimp only
        split <;> exact ⟨_, rfl⟩
      · exact ⟨_, rfl⟩
      · exact ⟨_, rfl⟩

theorem atPort_refused (r : Result) (tag : Nat) (act : State → State × Reply) (s : State) :
    ∃ x, atPort (some r) tag act s = s.setPort x := by
  unfold atPort
  split
  · exact ⟨s.port, rfl⟩
  · split
    · exact ⟨_, rfl⟩
    · split <;> exact ⟨_, rfl⟩

/-- A transaction writes the port alone, or does what the request of its frame does. -/
theorem malformedRequestFrame_cases {l : List Byte} {s t : State} (ht : exec (.malformedRequestFrame l) s = .next t) :
    (∃ x, t = s.setPort x) ∨ ∃ c, isRequest c = true ∧ exec c s = .next t := by
  change execMalformedRequestFrame l s = _ at ht
  unfold execMalformedRequestFrame at ht
  split at ht
  · obtain rfl := Host.Outcome.next.inj ht
    unfold emptyTransaction
    split
    · exact .inl ⟨s.port, rfl⟩
    · split
      · exact .inl ⟨_, rfl⟩
      · exact .inl ⟨s.port, rfl⟩
  · split at ht
    · obtain rfl := Host.Outcome.next.inj ht
      exact .inl (readPort_eq_setPort _ s)
    · split at ht
      · obtain rfl := Host.Outcome.next.inj ht
        exact .inl (atPort_refused _ _ _ s)
      · rename_i c hp
        obtain ⟨h, owed, act, hexec, hframe⟩ := exec_request (isRequest_of_parseFrame hp)
        exact .inr ⟨c, isRequest_of_parseFrame hp, (hexec s).trans ((hframe s).symm.trans ht)⟩

end Sys2Proof.Machine
end

section
/-! SUPPORT. The placing of an answer (R178, R180, R183, R185, R189), and O17. -/

namespace Sys2Proof.Machine

/-! ## What each clearing leaves -/

section
variable (s : State)

/-- The tables of records and the blocks that no clearing at the placing of an answer reaches. -/
def State.records : ModelState × Nat × Table Segment × Table Valve × Table Point × Table Profile × Table Concentrator ×
    Table Incident × Table Plan × Table Outage × Table Order × Table Window × Tracer × Dispatch × Clock :=
  (s.model, s.stopCount, s.segments, s.valves, s.points, s.profiles, s.concentrators, s.incidents, s.plans, s.outages,
    s.orders, s.windows, s.tracer, s.dispatch, s.clock)

@[simp] theorem clearNotices_fields (n : NoticeSet) : (clearNotices n s).records = s.records ∧
    (clearNotices n s).intake = s.intake ∧ (clearNotices n s).register = s.register ∧
    (clearNotices n s).orderUnit = s.orderUnit ∧ (clearNotices n s).port = s.port ∧
    (clearNotices n s).notices = { s.notices with raised := s.notices.raised &&& ~~~ n } :=
  ⟨rfl, rfl, rfl, rfl, rfl, rfl⟩

@[simp] theorem clearSlots_fields (l : Option (RecordClass × List Nat)) : (clearSlots l s).records = s.records ∧
    (clearSlots l s).intake = s.intake ∧ (clearSlots l s).register = s.register ∧
    (clearSlots l s).orderUnit = s.orderUnit ∧ (clearSlots l s).port = s.port ∧
    (clearSlots l s).notices.raised = s.notices.raised ∧ (clearSlots l s).notices.enabled = s.notices.enabled := by
  cases l <;> exact ⟨rfl, rfl, rfl, rfl, rfl, rfl, rfl⟩

@[simp] theorem clearIncidentFull_fields (b : Bool) : (clearIncidentFull b s).records = s.records ∧
    (clearIncidentFull b s).intake = s.intake ∧ (clearIncidentFull b s).orderUnit = s.orderUnit ∧
    (clearIncidentFull b s).port = s.port ∧ (clearIncidentFull b s).notices = s.notices ∧
    (clearIncidentFull b s).register =
      if b then { s.register with full := false, lastRefused := none } else s.register := by
  cases b <;> exact ⟨rfl, rfl, rfl, rfl, rfl, rfl⟩

@[simp] theorem clearIndications_fields (b : Bool) : (clearIndications b s).records = s.records ∧
    (clearIndications b s).intake = s.intake ∧ (clearIndications b s).register = s.register ∧
    (clearIndications b s).port = s.port ∧ (clearIndications b s).notices = s.notices ∧
    (clearIndications b s).orderUnit =
      if b then { s.orderUnit with unplanned := .clear, timeout := .clear } else s.orderUnit := by
  cases b <;> exact ⟨rfl, rfl, rfl, rfl, rfl, rfl⟩

@[simp] theorem clearStrays_fields : (clearStrays s).records = s.records ∧ (clearStrays s).register = s.register ∧
    (clearStrays s).orderUnit = s.orderUnit ∧ (clearStrays s).port = s.port ∧ (clearStrays s).notices = s.notices ∧
    (clearStrays s).intake = { s.intake with report := s.intake.next.getD s.intake.report, next := none } := by
  unfold clearStrays
  cases h : s.intake.next with
  | none =>
    refine ⟨rfl, rfl, rfl, rfl, rfl, ?_⟩
    simp only [Option.getD_none]
    rw [← h]
  | some r => exact ⟨rfl, rfl, rfl, rfl, rfl, rfl⟩

/-! ## What is cleared -/

/-- A class that the placing clears is no longer pending; another stays as it is (R178). -/
theorem and_clear_bit (x n : NoticeSet) (v : Notice) :
    (x &&& ~~~ n) &&& v.bit = if n &&& v.bit = 0 then x &&& v.bit else 0 := by
  unfold Notice.bit
  have hne : BitVec.twoPow 8 v.code ≠ 0 := by cases v <;> decide
  have hnot : (~~~ n).getLsbD v.code = !n.getLsbD v.code := by
    rw [BitVec.getLsbD_not, decide_eq_true v.code_lt, Bool.true_and]
  rw [BitVec.and_twoPow, BitVec.and_twoPow, BitVec.and_twoPow, BitVec.getLsbD_and, hnot]
  cases n.getLsbD v.code with
  | false => simp
  | true =>
    rw [if_neg (by simp), if_neg (by simpa using hne)]
    rfl

/-- The slots that a listing gave lose their flags, and no others (R180). -/
theorem flagged_clearSlots (l : Option (RecordClass × List Nat)) (k : RecordClass) (n : Nat) :
    flagged k n (clearSlots l s) = (flagged k n s && !l.any (fun p => decide (p.1 = k) && p.2.contains n)) := by
  cases l with
  | none => simp [clearSlots]
  | some p =>
    obtain ⟨c, slots⟩ := p
    have hflags : (clearSlots (some (c, slots)) s).notices.flags =
      s.notices.flags.replace ((s.notices.flags.of c).filter (fun n => !slots.contains n)) c := rfl
    unfold flagged
    rw [hflags, Attention.of_replace]
    by_cases h : k = c
    · subst h
      rw [Bool.eq_iff_iff]
      simp
    · simp [h, Ne.symm h]

theorem flagged_of_flags {s t : State} (h : t.notices.flags = s.notices.flags) (k : RecordClass) (n : Nat) :
    flagged k n t = flagged k n s := by
  unfold flagged
  rw [h]

end

/-! ## The placing -/

/-- In ACTING the answer is placed with what the clearing leaves. -/
theorem placeAnswer_acting {s : State} {tag : Nat} {r : Reply} (hs : s.port.state = .acting tag r) :
    placeAnswer s = (clearPlaced s.port.onPlace s).setPort
      { s.port with
        state := .answered { tag := tag, reply := r, discarded := s.port.discarded, number := s.port.drawn }
        discarded := false
        onPlace := .nothing
        drawn := s.port.drawn + 1 } := by
  simp [placeAnswer, hs, clearPlaced]

/-- Settles O17: each of the five clearings is read off its own lemma. -/
theorem answerIsPlaced : Obligations.AnswerIsPlaced := by
  unfold Obligations.AnswerIsPlaced
  intro s tag r hheld hacting
  have hexec : exec .answerPlaced s = .next (placeAnswer s) := by
    change partStep placeAnswer s = _
    simp [partStep, hheld]
  have hrecords : (clearPlaced s.port.onPlace s).records = s.records := by simp [clearPlaced]
  refine ⟨_, hexec.trans (congrArg _ (placeAnswer_acting hacting)), rfl, rfl, ?_, fun v => ?_, fun k n => ?_, ?_, ?_,
    ?_, ?_⟩
  · simp [clearPlaced]
  · simpa [clearPlaced] using and_clear_bit _ _ v
  · have hlater : flagged k n (clearPlaced s.port.onPlace s) =
        flagged k n (clearSlots s.port.onPlace.slots (clearNotices s.port.onPlace.notices s)) :=
      flagged_of_flags (by simp [clearPlaced]) k n
    exact hlater.trans (flagged_clearSlots _ _ k n)
  · simp [clearPlaced]
  · simp [clearPlaced]
  · simp [clearPlaced]
  · simpa [State.records] using hrecords

end Sys2Proof.Machine
end

section
/-! SUPPORT. The ranges of the settings (R97, R108, R145, R172, R190), and those of the Telemetry Intake (R26, R28,
R33): what the receiver and the taking of items make of them. -/

namespace Sys2Proof.Machine

/-! ## Steps that keep both laws -/

/-- The law of the settings: the clock, the parameters and the windows lie in their ranges. -/
def State.settingsLegal (s : State) : Prop := s.clockLegal ∧ s.parametersLegal ∧ s.windowsLegal

/-- The step keeps the law of the settings and that of the Telemetry Intake. -/
structure KeepsRanges (s u : State) : Prop where
  settings : s.settingsLegal → u.settingsLegal
  intake : s.intakeLegal → u.intakeLegal

/-- The settings are the same in both. -/
def SameSettings (s u : State) : Prop :=
  u.clock.second = s.clock.second ∧ u.clock.dayClass = s.clock.dayClass ∧
    u.register.allowances = s.register.allowances ∧ u.dispatch.offerTime = s.dispatch.offerTime ∧
    u.orderUnit.times = s.orderUnit.times ∧ u.windows = s.windows

@[simp] theorem sameSettings_iff {s u : State} : SameSettings s u ↔
    u.clock.second = s.clock.second ∧ u.clock.dayClass = s.clock.dayClass ∧
      u.register.allowances = s.register.allowances ∧ u.dispatch.offerTime = s.dispatch.offerTime ∧
      u.orderUnit.times = s.orderUnit.times ∧ u.windows = s.windows := .rfl

section
variable {s t u : State}

theorem parametersLegal_of_same (ha : u.register.allowances = s.register.allowances)
    (ho : u.dispatch.offerTime = s.dispatch.offerTime) (ht : u.orderUnit.times = s.orderUnit.times)
    (h : s.parametersLegal) : u.parametersLegal := by
  obtain ⟨h1, h2, h3⟩ : u.register.allowanceA = s.register.allowanceA ∧
      u.register.allowanceB = s.register.allowanceB ∧ u.register.allowanceC = s.register.allowanceC := by
    simpa [Register.allowances] using ha
  obtain ⟨h4, h5⟩ : u.orderUnit.remoteTime = s.orderUnit.remoteTime ∧
      u.orderUnit.crewTime = s.orderUnit.crewTime := by simpa [OrderUnit.times] using ht
  simpa only [State.parametersLegal, h1, h2, h3, h4, h5, ho] using h

theorem windowsLegal_of_same (hw : u.windows = s.windows) (h : s.windowsLegal) : u.windowsLegal := by
  simpa only [State.windowsLegal, hw] using h

theorem SameSettings.settingsLegal (h : SameSettings s u) (hs : s.settingsLegal) : u.settingsLegal := by
  obtain ⟨h1, h2, h3, h4, h5, h6⟩ := h
  obtain ⟨hc, hp, hw⟩ := hs
  exact ⟨by simpa only [State.clockLegal, h1, h2] using hc, parametersLegal_of_same h3 h4 h5 hp,
    windowsLegal_of_same h6 hw⟩

theorem intakeLegal_of_same (h : u.intake = s.intake) (hs : s.intakeLegal) : u.intakeLegal := by
  simpa only [State.intakeLegal, h] using hs

theorem KeepsRanges.of_same (h : SameSettings s u) (hi : u.intake = s.intake) : KeepsRanges s u :=
  ⟨h.settingsLegal, intakeLegal_of_same hi⟩

theorem KeepsRanges.refl (s : State) : KeepsRanges s s := ⟨id, id⟩

theorem KeepsRanges.trans (h : KeepsRanges s t) (h' : KeepsRanges t u) : KeepsRanges s u :=
  ⟨h'.settings ∘ h.settings, h'.intake ∘ h.intake⟩

theorem KeepsRanges.setPort (h : KeepsRanges s t) (x : Port) : KeepsRanges s (t.setPort x) :=
  h.trans (.of_same (by simp) rfl)

theorem KeepsRanges.setPending (s : State) (l : List Instr) : KeepsRanges s (s.setPending l) := .of_same (by simp) rfl

end

/-! ## The reports (R33, R37) -/

theorem IntakeReport.clear_legal : IntakeReport.clear.legal := ⟨Nat.zero_le _, List.nodup_nil⟩

@[simp] theorem currentReport_updReport (f : IntakeReport → IntakeReport) (s : State) :
    currentReport (updReport f s) = f (currentReport s) := by
  unfold currentReport updReport
  split <;> rename_i h <;> simp [h]

@[simp] theorem currentReport_raise (c : Notice) (s : State) : currentReport (raise c s) = currentReport s := rfl

section
variable {s : State}

theorem currentReport_legal (h : s.intakeLegal) : (currentReport s).legal := by
  obtain ⟨-, -, -, hrep, hnext⟩ := h
  unfold currentReport
  cases hn : s.intake.next with
  | none => exact hrep
  | some r => exact hnext r hn

/-- A change that leaves the current report in its ranges. -/
theorem updReport_intakeLegal {f : IntakeReport → IntakeReport} (hf : (f (currentReport s)).legal)
    (h : s.intakeLegal) : (updReport f s).intakeLegal := by
  obtain ⟨hlen, hitems, hrec, hrep, hnext⟩ := h
  unfold currentReport at hf
  unfold updReport
  split
  · rename_i hn
    rw [hn] at hf
    exact ⟨hlen, hitems, hrec, hf, by simp [hn]⟩
  · rename_i r hn
    rw [hn] at hf
    refine ⟨hlen, hitems, hrec, hrep, fun r' hr' => ?_⟩
    obtain rfl : f r = r' := by simpa using hr'
    exact hf

/-- An indication is set, and the stray tags are left. -/
theorem indication_intakeLegal {f : IntakeReport → IntakeReport} (hf : ∀ r, (f r).strays = r.strays)
    (h : s.intakeLegal) : (updReport f s).intakeLegal := by
  refine updReport_intakeLegal ?_ h
  obtain ⟨hlen, hnodup⟩ := currentReport_legal h
  exact ⟨by rwa [hf], by rwa [hf]⟩

theorem raise_intakeLegal (c : Notice) (h : s.intakeLegal) : (raise c s).intakeLegal := h

theorem badIndication_intakeLegal (h : s.intakeLegal) : (badIndication s).intakeLegal :=
  raise_intakeLegal _ (indication_intakeLegal (fun _ => rfl) h)

/-- A tag joins the stray tags only where there is room and it is not there yet (R33). -/
theorem strayTag_intakeLegal (t : Tag) (h : s.intakeLegal) : (strayTag t s).intakeLegal := by
  obtain ⟨-, hnodup⟩ := currentReport_legal h
  unfold strayTag
  extract_lets r
  split
  · exact h
  · rename_i hnew
    split
    · rename_i hroom
      refine raise_intakeLegal _ (updReport_intakeLegal ⟨?_, ?_⟩ h)
      · simpa using hroom
      · have hnot : t ∉ r.strays := fun ht => hnew (List.contains_iff_mem.2 ht)
        exact hnodup.append (List.nodup_singleton t) (by simpa using hnot)
    · split
      · exact h
      · exact raise_intakeLegal _ (indication_intakeLegal (fun _ => rfl) h)

/-! ## The receiver (R26 to R30) -/

theorem Receiver.legal_mono {m n : Nat} (hmn : m ≤ n) {r : Receiver} (h : r.legal n) : r.legal m := by
  cases r with
  | seeking | idle => trivial
  | receiving bytes =>
    obtain ⟨h1, h5, hroom⟩ := h
    exact ⟨h1, h5, hmn.trans_lt hroom⟩
  | discarding c => exact h

/-- Fewer items leave the intake in its ranges. -/
theorem setQueue_intakeLegal {q : List Item} (hq : q.Sublist s.intake.queue) (h : s.intakeLegal) :
    (s.setIntake { s.intake with queue := q }).intakeLegal := by
  obtain ⟨hlen, hitems, hrec, hrep, hnext⟩ := h
  exact ⟨hq.length_le.trans hlen, fun i hi => hitems i (hq.subset hi),
    Receiver.legal_mono (r := s.intake.receiver) hq.length_le hrec, hrep, hnext⟩

theorem setReceiver_intakeLegal {r : Receiver} (hr : r.legal s.intake.queue.length) (h : s.intakeLegal) :
    (setReceiver r s).intakeLegal := by
  obtain ⟨hlen, hitems, -, hrep, hnext⟩ := h
  exact ⟨hlen, hitems, hr, hrep, hnext⟩

theorem resetLink_intakeLegal (h : s.intakeLegal) : (resetLink s).intakeLegal :=
  setReceiver_intakeLegal (r := .seeking) trivial (setQueue_intakeLegal (List.nil_sublist _) h)

/-- Six bytes make an item of six bytes' width; other lists make the item of zeros. -/
theorem itemOf_legal (l : List Byte) : (itemOf l).legal := by
  unfold itemOf
  split
  · refine ⟨BitVec.isLt _, BitVec.isLt _, BitVec.isLt _, ?_⟩
    dsimp only
    omega
  · exact ⟨by decide, by decide, by decide, by decide⟩

theorem completeItem_intakeLegal {bytes : List Byte} (hroom : s.intake.queue.length < 64) (h : s.intakeLegal) :
    (completeItem bytes s).intakeLegal := by
  have h1 : (setReceiver .idle s).intakeLegal := setReceiver_intakeLegal (r := .idle) trivial h
  unfold completeItem
  extract_lets s1
  split
  · obtain ⟨-, hitems, -, hrep, hnext⟩ := h1
    refine ⟨by simpa [s1, setReceiver, Config.queueCapacity] using hroom, fun i hi => ?_, trivial, hrep, hnext⟩
    rcases List.mem_append.1 hi with hi | hi
    · exact hitems i hi
    · exact List.mem_singleton.1 hi ▸ itemOf_legal bytes
  · exact h1

theorem beginItem_intakeLegal (b : Byte) (h : s.intakeLegal) : (beginItem b s).intakeLegal := by
  unfold beginItem
  split
  · rename_i hready
    exact setReceiver_intakeLegal (r := .receiving [b])
      ⟨le_rfl, by simp, by simpa [readyPin] using hready⟩ h
  · exact raise_intakeLegal _ (indication_intakeLegal (fun _ => rfl)
      (setReceiver_intakeLegal (r := .discarding 1) ⟨by decide, by decide⟩ h))

theorem loseFraming_intakeLegal (h : s.intakeLegal) : (loseFraming s).intakeLegal :=
  resetLink_intakeLegal (raise_intakeLegal _ (indication_intakeLegal (fun _ => rfl) h))

theorem receiveByte_intakeLegal (marked : Bool) (b : Byte) (h : s.intakeLegal) :
    (receiveByte marked b s).intakeLegal := by
  obtain ⟨-, -, hrec, -⟩ := id h
  unfold receiveByte
  split
  · exact beginItem_intakeLegal b h
  · exact h
  · exact beginItem_intakeLegal b h
  · exact loseFraming_intakeLegal h
  · exact beginItem_intakeLegal b (loseFraming_intakeLegal h)
  · rename_i bytes heq
    rw [heq] at hrec
    obtain ⟨h1, -, hroom⟩ := hrec
    split
    · exact setReceiver_intakeLegal (r := .receiving (bytes ++ [b])) ⟨by simp, by simpa, hroom⟩ h
    · exact completeItem_intakeLegal hroom h
  · exact beginItem_intakeLegal b (loseFraming_intakeLegal h)
  · rename_i c heq
    rw [heq] at hrec
    split
    · exact setReceiver_intakeLegal (r := .discarding (c + 1)) ⟨by omega, by omega⟩ h
    · exact setReceiver_intakeLegal (r := .idle) trivial h

/-! ## Items (R28, R31 to R36) -/

theorem toPoint_ranges {t : Tag} {act : Nat → State → State} (h : ∀ n, KeepsRanges s (act n s)) :
    KeepsRanges s (toPoint t act s) := by
  unfold toPoint
  split
  · exact h _
  · split
    · exact ⟨SameSettings.settingsLegal (by simp), badIndication_intakeLegal⟩
    · exact ⟨SameSettings.settingsLegal (by simp), strayTag_intakeLegal t⟩

theorem toValve_ranges {t : Tag} {act : Nat → State → State} (h : ∀ v, KeepsRanges s (act v s)) :
    KeepsRanges s (toValve t act s) := by
  unfold toValve
  split
  · exact ⟨SameSettings.settingsLegal (by simp), badIndication_intakeLegal⟩
  · split
    · exact h _
    · exact ⟨SameSettings.settingsLegal (by simp), strayTag_intakeLegal t⟩

end

/-! ## The work owed (R173) -/

@[simp] theorem workOf_offerTime (w : TimedWork) (s : State) :
    (workOf w s).dispatch.offerTime = s.dispatch.offerTime := by
  cases w <;> simp [workOf]

@[simp] theorem workOf_times (w : TimedWork) (s : State) : (workOf w s).orderUnit.times = s.orderUnit.times := by
  cases w <;> simp [workOf]

theorem doWork_ranges (w : TimedWork) (s : State) : KeepsRanges s (doWork w s) := by
  unfold doWork
  split
  · exact .of_same (by simp) (by simp)
  · exact .refl s

theorem settle_ranges (l : List TimedWork) (s : State) : KeepsRanges s (settle l s) := by
  induction l generalizing s with
  | nil => exact .refl s
  | cons w l ih => exact (doWork_ranges w s).trans (ih _)

/-- The item at the head leaves the queue before it is acted on. -/
theorem takeItem_ranges {k : ItemKind} {owed : List TimedWork} {act : Item → State → State}
    (hact : ∀ i u, KeepsRanges u (act i u)) (s : State) : KeepsRanges s (takeItem k owed act s) := by
  unfold takeItem
  split
  · exact .refl s
  · rename_i i rest hq
    split
    · have hqueue : (settle owed s).intake.queue = i :: rest := by simp [hq]
      have htaken : KeepsRanges (settle owed s)
          ((settle owed s).setIntake { (settle owed s).intake with queue := rest }) :=
        ⟨SameSettings.settingsLegal (by simp),
          setQueue_intakeLegal (by rw [hqueue]; exact List.sublist_cons_self i rest)⟩
      exact ((settle_ranges owed s).trans htaken).trans (hact i _)
    · exact .refl s

end Sys2Proof.Machine
end

section
/-! SUPPORT. The commands and the ranges of the settings and the Telemetry Intake: each of the 71 keeps them. -/

namespace Sys2Proof.Machine

/-! ## Requests -/

/-- A request whose action keeps the ranges keeps them; the action may rest on what the port test of the frame gives. -/
theorem request_ranges {c : Instr} {h : Header} {owed : List TimedWork} {act : State → State × Reply}
    (hact : wellFormed c = true → ∀ s, KeepsRanges s (act s).1) {s t : State}
    (ht : request c h owed act s = .next t) : KeepsRanges s t := by
  rcases request_wellFormed_cases ht with ⟨x, rfl⟩ | ⟨hw, x, rfl⟩
  · exact (KeepsRanges.refl s).setPort x
  · exact ((settle_ranges owed s).trans (hact hw _)).setPort x

section
variable {l : List (Bool × Result)} {f : State → State × Reply} {s : State}

theorem tested_ranges (hf : (∀ x ∈ l, x.1 = true) → KeepsRanges s (f s).1) : KeepsRanges s (tested l f s).1 :=
  tested_induct (.refl s) hf

/-- A request that leaves the settings and the intake. -/
theorem tested_same (hs : SameSettings s (f s).1) (hi : (f s).1.intake = s.intake) : KeepsRanges s (tested l f s).1 :=
  tested_ranges fun _ => .of_same hs hi

end

/-! ### The requests that write a setting or the intake -/

theorem clamp_mem {lo hi : Nat} (h : lo ≤ hi) (n : Nat) : lo ≤ clamp lo hi n ∧ clamp lo hi n ≤ hi := by
  rw [clamp_eq h]
  omega

section
variable (h : Header) (s : State)

theorem setAllowances_ranges (a b c : Nat) : KeepsRanges s (setAllowances h a b c s).1 := by
  refine tested_ranges fun _ => ⟨fun ⟨hc, hp, hw⟩ => ⟨hc, ?_, hw⟩, id⟩
  obtain ⟨-, -, -, hoffer, htimes⟩ := hp
  exact ⟨clamp_mem (by decide) a, clamp_mem (by decide) b, clamp_mem (by decide) c, hoffer, htimes⟩

theorem setOfferTime_ranges (n : Nat) : KeepsRanges s (setOfferTime h n s).1 := by
  refine tested_ranges fun _ => ⟨fun ⟨hc, hp, hw⟩ => ⟨hc, ?_, hw⟩, id⟩
  obtain ⟨ha, hb, hcc, -, htimes⟩ := hp
  exact ⟨ha, hb, hcc, clamp_mem (by decide) n, htimes⟩

theorem setOrderTimes_ranges (r c : Nat) : KeepsRanges s (setOrderTimes h r c s).1 := by
  refine tested_ranges fun _ => ⟨fun ⟨hc, hp, hw⟩ => ⟨hc, ?_, hw⟩, id⟩
  obtain ⟨ha, hb, hcc, hoffer, -⟩ := hp
  exact ⟨ha, hb, hcc, hoffer, clamp_mem (by decide) r, clamp_mem (by decide) c⟩

/-- A change of the clock within its ranges, with the reselection that it may bring. -/
theorem clockChange_ranges (b : Clock) {c : Clock}
    (hc : c.second ≤ Config.lastSecond ∧ (s.clockLegal → c.dayClass ≤ 7)) :
    KeepsRanges s (periodChanged b (s.setClock c)) := by
  obtain ⟨hsecond, hday⟩ := hc
  have hclock : KeepsRanges s (s.setClock c) := ⟨fun ⟨hc, hp, hw⟩ => ⟨⟨hsecond, hday hc⟩, hp, hw⟩, id⟩
  exact hclock.trans (.of_same (by simp) (by simp))

theorem setClock_ranges {n : Nat} (hn : n ≤ Config.lastSecond) : KeepsRanges s (setClock h n s).1 :=
  tested_ranges fun _ => clockChange_ranges s _ ⟨hn, fun hc => hc.2⟩

theorem setDayClass_ranges (d : Nat) : KeepsRanges s (setDayClass h d s).1 := by
  refine tested_ranges fun hok => ?_
  have hd : d ≤ 7 := by simpa using hok (decide (d ≤ 7), .badField) (by simp)
  refine ⟨fun hs => (clockChange_ranges s s.clock (c := { s.clock with dayClass := d }) ?_).settings hs, ?_⟩
  · obtain ⟨⟨hsecond, -⟩, -, -⟩ := hs
    exact ⟨hsecond, fun _ => hd⟩
  · exact intakeLegal_of_same (by simp)

theorem setWindow_legal {d : Nat} {w : Window} (hd : 1 ≤ d ∧ d ≤ 15)
    (hw : w.base < Config.segmentSlots ∧ w.limit < Config.segmentSlots) (hs : s.windowsLegal) :
    (setWindow d w s).windowsLegal := by
  obtain ⟨hwf, hwin⟩ := hs
  obtain ⟨h1, h15⟩ := hd
  unfold setWindow
  split
  · refine ⟨Table.wf_del hwf d, fun e x he => ?_⟩
    have hat : Table.at? (Table.del s.windows d) e = some x := he
    rw [Table.at?_del] at hat
    split at hat
    · simp at hat
    · exact hwin e x hat
  · refine ⟨Table.wf_put hwf (by omega) w, fun e x he => ?_⟩
    have hat : Table.at? (Table.put s.windows d w) e = some x := he
    rw [Table.at?_put] at hat
    split at hat
    · rename_i heq
      obtain rfl : w = x := by simpa using hat
      exact ⟨heq ▸ h1, hw⟩
    · exact hwin e x hat

theorem setDeskArea_ranges (d b l : Nat) : KeepsRanges s (setDeskArea h d b l s).1 := by
  refine tested_ranges fun hok => ⟨fun ⟨hc, hp, hw⟩ => ?_, id⟩
  obtain ⟨⟨⟨h1, h15⟩, hb⟩, hl⟩ : ((1 ≤ d ∧ d ≤ 15) ∧ b < Config.segmentSlots) ∧ l < Config.segmentSlots := by
    simpa using hok (1 ≤ d && d ≤ 15 && b < Config.segmentSlots && l < Config.segmentSlots, .badField) (by simp)
  exact ⟨hc, hp, setWindow_legal s ⟨h1, h15⟩ ⟨hb, hl⟩ hw⟩

theorem readStrays_ranges (c : Option Nat) : KeepsRanges s (readStrays c s).1 := by
  refine ⟨id, fun ⟨hlen, hitems, hrec, hrep, hnext⟩ => ⟨hlen, hitems, hrec, hrep, fun r hr => ?_⟩⟩
  obtain rfl : IntakeReport.clear = r := by simpa [readStrays] using hr
  exact IntakeReport.clear_legal

theorem linkReset_ranges : KeepsRanges s (linkReset h s).1 := tested_ranges fun _ => ⟨id, resetLink_intakeLegal⟩

/-! ### The requests that act by the record they find -/

theorem closeIncident_ranges (n : Nat) : KeepsRanges s (closeIncident h n s).1 := by
  refine tested_ranges fun _ => ?_
  split
  · exact .refl s
  · exact .of_same (by simp) (by simp)

theorem offerNext_ranges (v m : Nat) : KeepsRanges s (offerNext h v m s).1 := by
  refine tested_ranges fun _ => ?_
  dsimp only
  split <;> exact .of_same (by simp) (by simp)

theorem withdrawOrder_ranges (n : Nat) : KeepsRanges s (withdrawOrder h n s).1 := by
  refine tested_ranges fun _ => ?_
  split
  · exact .refl s
  · exact .of_same (by simp) (by simp)

end

/-! ### Every request -/

theorem exec_request_ranges {c : Instr} (hc : isRequest c = true) {s t : State} (ht : exec c s = .next t) :
    KeepsRanges s t := by
  cases c with
  | setAllowances h a b c => exact request_ranges (fun _ s => setAllowances_ranges h s a b c) ht
  | setOfferTime h n => exact request_ranges (fun _ s => setOfferTime_ranges h s n) ht
  | setOrderTimes h r c => exact request_ranges (fun _ s => setOrderTimes_ranges h s r c) ht
  | setClock h n =>
    refine request_ranges (fun hw s => setClock_ranges h s ?_) ht
    have hn : n < 4294967296 := by simpa [fits32] using (Bool.and_eq_true_iff.1 hw).2
    exact Nat.le_of_lt_succ hn
  | setDayClass h d => exact request_ranges (fun _ s => setDayClass_ranges h s d) ht
  | setDeskArea h d b l => exact request_ranges (fun _ s => setDeskArea_ranges h s d b l) ht
  | readStrays h c => exact request_ranges (fun _ s => readStrays_ranges s c) ht
  | linkReset h => exact request_ranges (fun _ s => linkReset_ranges h s) ht
  | closeIncident h n => exact request_ranges (fun _ s => closeIncident_ranges h s n) ht
  | offerNext h v m => exact request_ranges (fun _ s => offerNext_ranges h s v m) ht
  | withdrawOrder h n => exact request_ranges (fun _ s => withdrawOrder_ranges h s n) ht
  | acceptOffer | declineOffer | dispatchDirect | reportAttended | commitDraft | releasePlan | reportValve |
    reissueValve | declareInoperable | restoreOperable =>
    exact request_ranges (fun _ _ => tested_same (by simp) (by simp)) ht
  | defineSegment | defineValve | openModel | alterSegment | splitSegment | mergeAtStop | readSegment | readValve |
    definePoint | alterPoint | setProfile | readTrace | readOutage | reportRelit | reportCall | regrade |
    declareControlled | readIncident | createPlan | deletePlan | lockDraft | addValve | removeValve | unlockDraft |
    readPlan | fetchOrder | readOrders | setNoticeEnables | getNotices | peekNotices | listChanged =>
    exact request_ranges (fun _ _ => .of_same (by simp) (by simp)) ht
  | malformedRequestFrame | requestDiscarded | answerPlaced | readTransaction | telemetryByte | readingItem | holdItem |
    positionItem | linkUpItem | linkDownItem | badItem | publication | secondEvent | pointStale | incidentOverdue |
    offerExpiry | orderTimeout | windowEnd | coldReset => simp [isRequest, requestHeader] at hc

end Sys2Proof.Machine
end

section
/-! SUPPORT. Every step keeps the ranges of the settings and the Telemetry Intake (O6), and the state after reset meets
each law (O12). -/

namespace Sys2Proof.Machine

/-! ## The steps that are no request -/

theorem partStep_ranges {act : State → State} {s t : State} (h : KeepsRanges s (act s))
    (ht : partStep act s = .next t) : KeepsRanges s t := by
  obtain rfl := Host.Outcome.next.inj ht
  split
  · exact .refl s
  · exact h

section
variable (s : State)

/-- The placing of an answer leaves the settings; the report of the strays that came since the taking takes the place
of the one that was sent. -/
theorem placeAnswer_ranges : KeepsRanges s (placeAnswer s) := by
  cases hs : s.port.state with
  | idle => simpa [placeAnswer, hs] using KeepsRanges.refl s
  | answered f => simpa [placeAnswer, hs] using KeepsRanges.refl s
  | acting tag r =>
    rw [placeAnswer_acting hs]
    refine KeepsRanges.setPort ⟨SameSettings.settingsLegal ?_, fun h => ?_⟩ _
    · have hrecords : (clearPlaced s.port.onPlace s).records = s.records := by simp [clearPlaced]
      obtain ⟨-, -, -, -, -, -, -, -, -, -, -, hwindows, -, hdispatch, hclock⟩ := by
        simpa only [State.records, Prod.mk.injEq] using hrecords
      have hregister : (clearPlaced s.port.onPlace s).register.allowances = s.register.allowances := by
        simp [clearPlaced]
      have htimes : (clearPlaced s.port.onPlace s).orderUnit.times = s.orderUnit.times := by simp [clearPlaced]
      exact ⟨by rw [hclock], by rw [hclock], hregister, by rw [hdispatch], htimes, hwindows⟩
    · have hintake : (clearPlaced s.port.onPlace s).intake =
          { s.intake with report := currentReport s, next := none } := by simp [clearPlaced, currentReport]
      have hrep := currentReport_legal h
      obtain ⟨hlen, hitems, hrec, -, -⟩ := h
      unfold State.intakeLegal
      rw [hintake]
      exact ⟨hlen, hitems, hrec, hrep, fun r hr => by simp at hr⟩

theorem nextSecond_le (n : Nat) : nextSecond n ≤ Config.lastSecond :=
  Nat.le_of_lt_succ (Nat.mod_lt _ (Nat.succ_pos _))

/-- The count stays in its range as it wraps (R172). -/
theorem secondEvent_ranges : KeepsRanges s (secondEvent s) :=
  (settle_ranges allWork s).trans (clockChange_ranges (settle allWork s) _ ⟨nextSecond_le _, fun hc => hc.2⟩)

theorem publication_ranges : KeepsRanges s (publication s) := .of_same (by simp) (by simp)

/-- The reset values lie in their ranges. -/
theorem reset_ranges : State.reset.settingsLegal ∧ State.reset.intakeLegal := by
  refine ⟨⟨⟨by decide, by decide⟩, ?_, Table.wf_nil 16, fun d w hw => by simp [State.reset, Table.at?] at hw⟩, ?_⟩
  · simp [State.parametersLegal, State.reset]
  · refine ⟨by decide, fun i hi => by simp [State.reset] at hi, trivial, IntakeReport.clear_legal, fun r hr => ?_⟩
    simp [State.reset] at hr

theorem resetEdge_ranges (e : ResetEdge) : KeepsRanges s (resetEdge e s) := by
  obtain ⟨hset, hin⟩ := reset_ranges
  cases e <;> exact ⟨fun _ => hset, fun _ => hin⟩

end

/-! ## Every command -/

theorem exec_ranges {c : Instr} {s t : State} (ht : exec c s = .next t) : KeepsRanges s t := by
  cases c with
  | malformedRequestFrame l =>
    rcases malformedRequestFrame_cases ht with ⟨x, rfl⟩ | ⟨c, hc, ht⟩
    · exact (KeepsRanges.refl s).setPort x
    · exact exec_request_ranges hc ht
  | requestDiscarded =>
    obtain ⟨x, hx⟩ := frameDiscarded_eq_setPort s
    obtain rfl := Host.Outcome.next.inj ht
    exact hx ▸ (KeepsRanges.refl s).setPort x
  | readTransaction n =>
    obtain ⟨x, hx⟩ := readPort_eq_setPort n s
    obtain rfl := Host.Outcome.next.inj ht
    exact hx ▸ (KeepsRanges.refl s).setPort x
  | coldReset e => exact Host.Outcome.next.inj ht ▸ resetEdge_ranges s e
  | answerPlaced => exact partStep_ranges (placeAnswer_ranges s) ht
  | telemetryByte l =>
    refine partStep_ranges ?_ ht
    split
    · exact ⟨SameSettings.settingsLegal (by simp), receiveByte_intakeLegal _ _⟩
    · exact .refl s
  | readingItem | holdItem =>
    exact partStep_ranges (takeItem_ranges (fun _ _ => toPoint_ranges fun _ => .of_same (by simp) (by simp)) s) ht
  | positionItem =>
    exact partStep_ranges (takeItem_ranges (fun _ _ => toValve_ranges fun _ => .of_same (by simp) (by simp)) s) ht
  | linkUpItem | linkDownItem =>
    exact partStep_ranges (takeItem_ranges (fun _ _ => .of_same (by simp) (by simp)) s) ht
  | badItem =>
    exact partStep_ranges (takeItem_ranges
      (fun _ _ => ⟨SameSettings.settingsLegal (by simp), badIndication_intakeLegal⟩) s) ht
  | publication => exact partStep_ranges (publication_ranges s) ht
  | secondEvent => exact partStep_ranges (secondEvent_ranges s) ht
  | pointStale | incidentOverdue | offerExpiry | orderTimeout | windowEnd =>
    exact partStep_ranges (doWork_ranges _ s) ht
  | _ => exact exec_request_ranges rfl ht

/-- Settles O6: the command at the front of the queue keeps the ranges, and the queue is no part of them. -/
theorem settingsAndIntakeStayLegal : Obligations.SettingsAndIntakeStayLegal := by
  unfold Obligations.SettingsAndIntakeStayLegal
  intro s t hstep
  have hkeep : KeepsRanges s t := by
    unfold step at hstep
    split at hstep
    · obtain rfl := Host.Outcome.next.inj hstep
      exact .refl s
    · exact (KeepsRanges.setPending s _).trans (exec_ranges hstep)
  exact ⟨fun hc hp hw => hkeep.settings ⟨hc, hp, hw⟩, hkeep.intake⟩

/-! ## The state after reset -/

/-- No record is in use after reset. -/
theorem reset_free {α : Type} {P : Nat → α → Prop} (n : Nat) (a : α) (h : Table.at? ([] : Table α) n = some a) :
    P n a := by
  simp [Table.at?] at h

/-- Settles O12: the settings and the intake lie in their ranges, and the laws of the records ask nothing of empty
tables. -/
theorem resetMeetsTheLaws : Obligations.ResetMeetsTheLaws := by
  unfold Obligations.ResetMeetsTheLaws
  obtain ⟨⟨hclock, hparams, hwindows⟩, hintake⟩ := reset_ranges
  have htables : State.reset.tablesLegal :=
    ⟨Table.wf_nil _, Table.wf_nil _, Table.wf_nil _, Table.wf_nil _, Table.wf_nil _, Table.wf_nil _, Table.wf_nil _⟩
  have htracer : State.reset.tracerLegal :=
    ⟨by decide, by decide, by decide, fun _ => ⟨rfl, rfl⟩, fun inp h => by simp [State.reset] at h⟩
  have horders : State.reset.ordersLegal :=
    ⟨Table.wf_nil _, by decide, reset_free, by decide, by decide, rfl⟩
  have horderLaws : State.reset.orderLaws :=
    ⟨reset_free, fun n m o x h => by simp [State.reset, Table.at?] at h, reset_free⟩
  have hentries : State.reset.entriesLegal := fun p q d h => by simp [State.reset, Table.at?] at h
  have hcounts : State.reset.countsLegal := ⟨rfl, by decide, reset_free, reset_free, reset_free⟩
  exact ⟨hclock, hparams, hwindows, hintake, htracer, htables, fun _ => ⟨rfl, rfl, rfl, rfl, rfl, rfl, rfl, rfl⟩,
    horders, horderLaws, ⟨reset_free, reset_free⟩, reset_free, reset_free, reset_free, hentries,
    endsLegal_of_loading rfl, listsLegal_of_loading rfl reset_free, hcounts, reset_free, reset_free⟩

end Sys2Proof.Machine
end

section
/-! SUPPORT. The parameters and settings of desk 0 (R29, R97, R109, R155, R177): O27. -/

namespace Sys2Proof.Machine

/-- A request of desk 0 alone, from another desk, is OUT OF AREA. -/
theorem deskZero_refused {h : Header} (hd : h.desk ≠ 0) (f : State → State × Reply) (s : State) :
    tested [(decide (h.desk = 0), .outOfArea)] f s = (s, .refusal .outOfArea) :=
  tested_failed (by simp [firstFailure, hd]) f s

theorem deskZero_passed {h : Header} (hd : h.desk = 0) (f : State → State × Reply) (s : State) :
    tested [(decide (h.desk = 0), .outOfArea)] f s = f s :=
  tested_passed (by simp [hd]) f s

theorem clamp_bne {lo hi : Nat} (h : lo ≤ hi) (n : Nat) :
    (max lo (min hi n) != n) = decide (n < lo ∨ hi < n) := by
  rw [bne_eq_decide_ne, ← clamp_eq h, decide_eq_decide]
  exact clamp_ne_iff

/-- A request that reaches no timed work acts at once, whatever is owed. -/
theorem request_at_once {c : Instr} {h : Header} {act : State → State × Reply} {s u : State} {r : Reply}
    (hs : s.listening) (hw : wellFormed c = true) (hact : act s = (u, r)) :
    request c h [] act s = .next (acting h.tag r u) := by
  rw [request_listening hs hw, settle_nil, hact]

section
variable {h : Header} (hd : h.desk = 0) (s : State)
include hd

theorem setAllowances_deskZero (a b c : Nat) : setAllowances h a b c s =
    (s.setRegister { s.register with
        allowanceA := max 15 (min 240 a), allowanceB := max 30 (min 480 b), allowanceC := max 60 (min 2880 c) },
      { result := .done, clamped := decide (a < 15 ∨ 240 < a ∨ b < 30 ∨ 480 < b ∨ c < 60 ∨ 2880 < c),
        body := [.u16 (max 15 (min 240 a)), .u16 (max 30 (min 480 b)), .u16 (max 60 (min 2880 c))] }) := by
  rw [setAllowances, deskZero_passed hd]
  simp only [clamp_eq (show 15 ≤ 240 by decide), clamp_eq (show 30 ≤ 480 by decide),
    clamp_eq (show 60 ≤ 2880 by decide), clamp_bne (show 15 ≤ 240 by decide), clamp_bne (show 30 ≤ 480 by decide),
    clamp_bne (show 60 ≤ 2880 by decide), Reply.doneClamped, ← Bool.decide_or, or_assoc]

theorem setOfferTime_deskZero (n : Nat) : setOfferTime h n s =
    (s.setDispatch { s.dispatch with offerTime := max 30 (min 600 n) },
      { result := .done, clamped := decide (n < 30 ∨ 600 < n), body := [.u16 (max 30 (min 600 n))] }) := by
  rw [setOfferTime, deskZero_passed hd]
  simp only [clamp_eq (show 30 ≤ 600 by decide), clamp_bne (show 30 ≤ 600 by decide), Reply.doneClamped]

theorem setOrderTimes_deskZero (r c : Nat) : setOrderTimes h r c s =
    (s.setOrderUnit { s.orderUnit with remoteTime := max 1 (min 30 r), crewTime := max 10 (min 240 c) },
      { result := .done, clamped := decide (r < 1 ∨ 30 < r ∨ c < 10 ∨ 240 < c),
        body := [.u8 (max 1 (min 30 r)), .u8 (max 10 (min 240 c))] }) := by
  rw [setOrderTimes, deskZero_passed hd]
  simp only [clamp_eq (show 1 ≤ 30 by decide), clamp_eq (show 10 ≤ 240 by decide), clamp_bne (show 1 ≤ 30 by decide),
    clamp_bne (show 10 ≤ 240 by decide), Reply.doneClamped, ← Bool.decide_or, or_assoc]

theorem setNoticeEnables_deskZero (e : NoticeSet) : setNoticeEnables h e s =
    (s.setNotices { s.notices with enabled := e }, .done [.u8 e.toNat, .u8 s.notices.raised.toNat]) := by
  rw [setNoticeEnables, deskZero_passed hd]
  rfl

theorem linkReset_deskZero : linkReset h s =
    (s.setIntake { s.intake with queue := [], receiver := .seeking }, .done [.u8 s.intake.queue.length]) := by
  rw [linkReset, deskZero_passed hd]
  rfl

end

/-- Settles O27: from desk 0 each request is admitted and does what its own lemma says; from another desk its one test
refuses it. -/
theorem supervisorSettingsAreWritten : Obligations.SupervisorSettingsAreWritten := by
  unfold Obligations.SupervisorSettingsAreWritten
  intro h s hs
  refine ⟨fun c hw hd hc => ?_, fun hd => ⟨fun a b c hw => ?_, fun n hw => ?_, fun r c hw => ?_, fun e hw => ?_,
    fun hw => ?_⟩⟩
  · rcases hc with ⟨x, y, z, rfl⟩ | ⟨x, rfl⟩ | ⟨x, y, rfl⟩ | ⟨x, rfl⟩ | rfl
    all_goals exact request_at_once hs hw (deskZero_refused hd _ s)
  · exact request_at_once hs hw (setAllowances_deskZero hd s a b c)
  · exact request_at_once hs hw (setOfferTime_deskZero hd s n)
  · exact request_at_once hs hw (setOrderTimes_deskZero hd s r c)
  · exact request_at_once hs hw (setNoticeEnables_deskZero hd s e)
  · exact request_at_once hs hw (linkReset_deskZero hd s)

end Sys2Proof.Machine
end

section
/-! SUPPORT. The requests that clear what they report (R38, R106, R161, R178, R180): O26. The listing of the orders is
an insertion sort, so its order is that of the sort. -/

namespace Sys2Proof.Machine

/-! ## Sorting -/

section
variable {α : Type} {lt : α → α → Bool}

/-- The model's sort is the library's, by "is not after". -/
theorem sortBy_eq_insertionSort (l : List α) : sortBy lt l = l.insertionSort (fun a b => lt b a = false) := by
  have hins (a : α) (l : List α) : sortBy.ins lt a l = l.orderedInsert (fun a b => lt b a = false) a := by
    induction l with
    | nil => rfl
    | cons b l ih =>
      rw [sortBy.ins, List.orderedInsert_cons, ih]
      cases lt b a <;> rfl
  induction l with
  | nil => rfl
  | cons a l ih =>
    rw [List.insertionSort_cons, ← ih, ← hins]
    rfl

theorem sortBy_perm (l : List α) : (sortBy lt l).Perm l := by
  rw [sortBy_eq_insertionSort]
  exact List.perm_insertionSort _ l

/-- Sorted by a strict order that tells apart what has different keys, a list of different keys is in that order. -/
theorem pairwise_sortBy {β : Type} (key : α → β) (hasymm : ∀ a b, lt a b = true → lt b a = false)
    (htrans : ∀ a b c, lt b a = false → lt c b = false → lt c a = false)
    (htri : ∀ a b, lt b a = false → key a ≠ key b → lt a b = true) {l : List α} (hl : (l.map key).Nodup) :
    (sortBy lt l).Pairwise (fun a b => lt a b = true) := by
  have htotal : Std.Total (fun a b => lt b a = false) := ⟨fun a b => by
    cases h : lt b a with
    | false => exact .inl rfl
    | true => exact .inr (hasymm b a h)⟩
  have htrans' : IsTrans α (fun a b => lt b a = false) := ⟨htrans⟩
  have hsort : (sortBy lt l).Pairwise (fun a b => lt b a = false) := by
    rw [sortBy_eq_insertionSort]
    exact List.pairwise_insertionSort _ l
  have hkeys : ((sortBy lt l).map key).Nodup := ((sortBy_perm l).map key).nodup_iff.2 hl
  exact hsort.imp₂ htri (List.pairwise_map.1 hkeys)

end

/-! ## The listing of the orders (R153, R161) -/

theorem earlier_iff {x y : Nat × Nat} : earlier x y = true ↔ x.1 < y.1 ∨ (x.1 = y.1 ∧ x.2 < y.2) := by
  simp [earlier]

theorem fetchBefore_iff {x y : Nat × Order} : fetchBefore x y = true ↔ x.2.action.code < y.2.action.code ∨
    (x.2.action.code = y.2.action.code ∧ (x.2.queued < y.2.queued ∨ (x.2.queued = y.2.queued ∧ x.1 < y.1))) := by
  simp [fetchBefore, earlier_iff]

theorem expiresBefore_iff {x y : Nat × Order} : expiresBefore x y = true ↔
    x.2.expiry.getD 0 < y.2.expiry.getD 0 ∨ (x.2.expiry.getD 0 = y.2.expiry.getD 0 ∧ x.1 < y.1) := earlier_iff

theorem OrderAction.code_inj {a b : OrderAction} : a.code = b.code ↔ a = b := by
  cases a <;> cases b <;> decide

theorem pairwise_sortBy_fetchBefore {l : List (Nat × Order)} (hl : (Table.keys l).Nodup) :
    (sortBy fetchBefore l).Pairwise (fun x y => fetchBefore x y = true) := by
  refine pairwise_sortBy Prod.fst (fun a b => ?_) (fun a b c => ?_) (fun a b => ?_) hl
  all_goals
    simp only [← Bool.not_eq_true, fetchBefore_iff]
    omega

theorem pairwise_sortBy_expiresBefore {l : List (Nat × Order)} (hl : (Table.keys l).Nodup) :
    (sortBy expiresBefore l).Pairwise (fun x y => expiresBefore x y = true) := by
  refine pairwise_sortBy Prod.fst (fun a b => ?_) (fun a b c => ?_) (fun a b => ?_) hl
  all_goals
    simp only [← Bool.not_eq_true, expiresBefore_iff]
    omega

/-- The order of READ ORDERS: the QUEUED orders in fetch order, then the FETCHED ones by expiry second and serial. -/
def listedBefore (x y : Nat × Order) : Prop :=
  (x.2.state = .queued ∧ y.2.state = .fetched) ∨
    (x.2.state = .queued ∧ y.2.state = .queued ∧ (x.2.action.code < y.2.action.code ∨
      (x.2.action = y.2.action ∧ (x.2.queued < y.2.queued ∨ (x.2.queued = y.2.queued ∧ x.1 < y.1))))) ∨
    (x.2.state = .fetched ∧ y.2.state = .fetched ∧ (x.2.expiry.getD 0 < y.2.expiry.getD 0 ∨
      (x.2.expiry.getD 0 = y.2.expiry.getD 0 ∧ x.1 < y.1)))

theorem mem_sortBy_filter {lt : Nat × Order → Nat × Order → Bool} {s : State} {x : FetchState} {r : Nat × Order} :
    r ∈ sortBy lt (s.orders.filter (fun r => r.2.state = x)) ↔ r ∈ s.orders ∧ r.2.state = x := by
  rw [(sortBy_perm _).mem_iff, List.mem_filter, decide_eq_true_iff]

theorem mem_selectedOrders {s : State} {k : OrderSelection} {r : Nat × Order} : r ∈ selectedOrders s k ↔
    r ∈ s.orders ∧ (k = .all ∨ (k = .queued ∧ r.2.state = .queued) ∨ (k = .fetched ∧ r.2.state = .fetched)) := by
  cases k with
  | all =>
    have hstate : r.2.state = .queued ∨ r.2.state = .fetched := by cases r.2.state <;> simp
    simp only [selectedOrders, List.mem_append, mem_sortBy_filter]
    tauto
  | queued => simp [selectedOrders, mem_sortBy_filter]
  | fetched => simp [selectedOrders, mem_sortBy_filter]

/-- Each of a selection stands where READ ORDERS lists it (R161). -/
theorem pairwise_selectedOrders {s : State} (hs : s.ordersLegal) (k : OrderSelection) :
    (selectedOrders s k).Pairwise listedBefore := by
  obtain ⟨⟨hrises, -⟩, -⟩ := hs
  have hkeys (p : Nat × Order → Bool) : (Table.keys (s.orders.filter p)).Nodup :=
    nodup_of_rising (Table.rises_filter hrises p)
  have hqueued : (sortBy fetchBefore (s.orders.filter (fun r => r.2.state = .queued))).Pairwise listedBefore := by
    refine (pairwise_sortBy_fetchBefore (hkeys _)).imp_of_mem fun hx hy hxy => .inr (.inl ⟨?_, ?_, ?_⟩)
    · exact (mem_sortBy_filter.1 hx).2
    · exact (mem_sortBy_filter.1 hy).2
    · simpa only [fetchBefore_iff, OrderAction.code_inj] using hxy
  have hfetched : (sortBy expiresBefore (s.orders.filter (fun r => r.2.state = .fetched))).Pairwise listedBefore := by
    refine (pairwise_sortBy_expiresBefore (hkeys _)).imp_of_mem fun hx hy hxy => .inr (.inr ⟨?_, ?_, ?_⟩)
    · exact (mem_sortBy_filter.1 hx).2
    · exact (mem_sortBy_filter.1 hy).2
    · exact expiresBefore_iff.1 hxy
  cases k with
  | all =>
    exact List.pairwise_append.2 ⟨hqueued, hfetched, fun x hx y hy =>
      .inl ⟨(mem_sortBy_filter.1 hx).2, (mem_sortBy_filter.1 hy).2⟩⟩
  | queued => exact hqueued
  | fetched => exact hfetched

/-! ## The fields of the answers -/

theorem length_waitingValves (s : State) :
    (waitingValves s).length = (s.valves.filter (fun r => r.2.orderState = .waiting)).length := by
  unfold waitingValves
  induction s.valves with
  | nil => rfl
  | cons r l ih => by_cases h : r.2.orderState = .waiting <;> simp [h, ih]

theorem orderFields_eq (r : Nat × Order) : orderFields r =
    [.u16 r.1, .u16 r.2.valve, .u8 r.2.action.code, .u8 r.2.channel.code, .u8 r.2.state.code, .u32 r.2.queued] ++
      ((r.2.fetched.map (fun n => [Field.u8 1, .u32 n])).getD [.u8 0, .absent 4]) ++
      ((r.2.expiry.map (fun n => [Field.u8 1, .u32 n])).getD [.u8 0, .absent 4]) := by
  rw [orderFields, opt32_eq, opt32_eq]

theorem RecordClass.code_of_ofCode? {c : Nat} {k : RecordClass} (h : RecordClass.ofCode? c = some k) : k.code = c := by
  unfold RecordClass.ofCode? at h
  split at h <;> cases h <;> rfl

theorem strayFields_eq (c : Option Nat) (s : State) : strayFields c s =
    listOf tagFields s.intake.report.strays ++ [yes s.intake.report.moreStrays, yes s.intake.report.badItem,
      yes s.intake.report.overrun, yes s.intake.report.framing, .u8 s.intake.queue.length] ++
    (c.map (fun n => [Field.u8 (concentrator s n).state.code, .u32 (concentrator s n).lastChange])).getD [] := by
  cases c <;> rfl

theorem incidentFields_eq (s : State) (n : Nat) (i : Incident) : incidentFields s n i =
    [.u16 n, .u8 i.kind.code, .u16 i.segment, .u32 i.firstReport, .u32 i.deadline, .u8 i.score, .u8 i.grade.code,
      yes i.overdue, yes i.indoor, yes i.damage, .u8 i.callCount, .u8 i.attendance.code] ++ opt8 i.offerDesk ++
      opt32 i.offerExpiry ++ [.u8 i.safety.code] ++ opt8 i.plan ++
      [.s8 i.adjustment, yes (flagged .incident n s)] ++ listOf entryFields i.entries ++
      ((Table.at? s.segments i.segment).map (fun g => [Field.u8 g.tier.code, .u8 g.openIncidents])).getD [] := by
  unfold incidentFields
  cases Table.at? s.segments i.segment <;> rfl

/-! ## The requests -/

section
variable {s : State} {n : Nat}

theorem readIncident_free (hm : s.model = .running) (hn : n < 512) (hfree : Table.at? s.incidents n = none) :
    readIncident n s = (clearOnPlace (fun p => { p with incidentFull := true }) s,
      .refusalWith .noRecord (incidentFigures s n)) := by
  rw [readIncident, tested_passed (by simp [running_iff.2 hm, Config.incidentSlots, hn]), hfree]

theorem readIncident_used (hm : s.model = .running) (hn : n < 512) {i : Incident}
    (hi : Table.at? s.incidents n = some i) : readIncident n s =
      (clearOnPlace (fun p => { p with incidentFull := true }) s,
        .done (incidentFields s n i ++ incidentFigures s n)) := by
  rw [readIncident, tested_passed (by simp [running_iff.2 hm, Config.incidentSlots, hn]), hi]

theorem readOrders_passed (hm : s.model = .running) {start sel : Nat} (hstart : start < 256) {k : OrderSelection}
    (hk : OrderSelection.ofCode? sel = some k) : readOrders start sel s =
      (clearOnPlace (fun p => { p with orderIndications := true }) s, .done (ordersFields s start k)) := by
  rw [readOrders, tested_passed (by simp [running_iff.2 hm, hstart, hk]), hk]
  rfl

theorem listChanged_passed {c m : Nat} {k : RecordClass} (hk : RecordClass.ofCode? c = some k) (s : State) :
    listChanged c m s = (clearOnPlace (fun p => { p with slots := some (k, listedSlots s k m) }) s,
      .doneClamped (clamp 1 32 m != m) (changedFields s k m)) := by
  rw [listChanged, tested_passed (by simp [hk]), hk]
  rfl

end

/-- Settles O26: each request is admitted, its note is the one that it leaves, and its body is the one claimed, field by
field. -/
theorem clearingReadsNoteWhatTheyReport : Obligations.ClearingReadsNoteWhatTheyReport := by
  unfold Obligations.ClearingReadsNoteWhatTheyReport
  intro h s hs
  extract_lets port notes o8 o16 o32 yn list report intake onPlace p before count shown
  have e8 (x : Option Nat) : opt8 x = o8 x := opt8_eq x
  have e16 (x : Option Nat) : opt16 x = o16 x := opt16_eq x
  have e32 (x : Option Nat) : opt32 x = o32 x := opt32_eq x
  have elist {α : Type} (f : α → List Field) (l : List α) : listOf f l = list (l.map f) := listOf_eq f l
  refine ⟨fun c hw => ?_, fun n hm hn => ?_, fun start sel k hm hlegal hstart hk => ?_, fun hw => ?_,
    fun c k m hk => ?_⟩
  · refine (request_ready hs hw h _ _).trans ?_
    rw [readStrays, strayFields_eq, elist]
    rfl
  · extract_lets figures
    have efigures : incidentFigures s n = figures := by
      rw [incidentFigures, e16, e16]
      rfl
    refine ⟨fun hfree hw => ?_, fun i hi hw => ?_⟩
    · refine (request_ready hs hw h _ _).trans ?_
      rw [readIncident_free hm hn hfree, efigures]
      rfl
    · refine (request_ready hs hw h _ _).trans ?_
      rw [readIncident_used hm hn hi, incidentFields_eq, efigures, e8, e8, e32, elist]
      rfl
  · extract_lets wanted
    refine ⟨selectedOrders s k, fun r => mem_selectedOrders, pairwise_selectedOrders hlegal k, fun hw => ?_⟩
    have eshown (x : Indication) : indicationFields x = shown x := by
      rw [indicationFields, e16]
      rfl
    refine (request_ready hs hw h _ _).trans ?_
    rw [readOrders_passed hm hstart hk, ordersFields, length_waitingValves, eshown, eshown, elist,
      show orderFields = _ from funext orderFields_eq]
    rfl
  · exact (request_ready hs hw h _ _).trans rfl
  · extract_lets flags listed slot
    intro hw
    have elisted : listedSlots s k m = listed := by
      rw [listedSlots, clamp_eq (by decide)]
    have eslot : (fun n => [slotField k n, yes (slotInUse s k n)]) = slot := by
      funext n
      cases k <;> rfl
    refine (request_ready hs hw h _ _).trans ?_
    rw [listChanged_passed hk, changedFields, RecordClass.code_of_ofCode? hk, elisted, elist, eslot,
      clamp_eq (show 1 ≤ 32 by decide), clamp_bne (show 1 ≤ 32 by decide)]
    rfl

end Sys2Proof.Machine
end

section
/-! SUPPORT. A byte on the telemetry port (R26 to R30, R194): its bits, what each state of the receiver makes of it, and
O28. -/

namespace Sys2Proof.Machine

/-! ## The bits of a byte (R194) -/

/-- The number that the samples of a byte spell, most significant bit first. -/
def samplesValue (l : List BitSample) : Nat := l.foldl (fun n b => 2 * n + if b.data then 1 else 0) 0

theorem byteOf_eq (l : List BitSample) : byteOf l = BitVec.ofNat 8 (samplesValue l) := rfl

theorem samplesValue_concat (l : List BitSample) (b : BitSample) :
    samplesValue (l ++ [b]) = 2 * samplesValue l + b.data.toNat := by
  cases h : b.data <;> simp [samplesValue, h]

/-- The sample at place `k` is the bit that as many samples follow as stand behind it. -/
theorem testBit_samplesValue (l : List BitSample) (k : Nat) (hk : k < l.length) :
    (l[k]?).map (fun y => y.data) = some ((samplesValue l).testBit (l.length - 1 - k)) := by
  induction l using List.reverseRecOn with
  | nil => simp at hk
  | append_singleton l b ih =>
    have hlast : (samplesValue (l ++ [b])).testBit 0 = b.data := by
      rw [samplesValue_concat]
      cases b.data <;> simp
    have hrest (i : Nat) : (samplesValue (l ++ [b])).testBit (i + 1) = (samplesValue l).testBit i := by
      rw [samplesValue_concat, Nat.testBit_succ]
      have hbit := b.data.toNat_lt
      congr 1
      omega
    rw [List.length_append, List.length_singleton] at hk ⊢
    by_cases hkl : k < l.length
    · obtain ⟨i, hi⟩ : ∃ i, l.length - 1 - k = i := ⟨_, rfl⟩
      rw [show l.length + 1 - 1 - k = i + 1 by omega, hrest, List.getElem?_append_left hkl, ih hkl, hi]
    · obtain rfl : k = l.length := by omega
      simp [hlast]

/-- Eight samples are the bits of their byte. -/
theorem getLsbD_byteOf {l : List BitSample} (hl : l.length = 8) {k : Nat} (hk : k < 8) :
    (l[k]?).map (fun y => y.data) = some ((byteOf l).getLsbD (7 - k)) := by
  rw [testBit_samplesValue l k (by omega), byteOf_eq, BitVec.getLsbD_ofNat, hl]
  simp [show 7 - k < 8 by omega]

/-! ## What an operation of the intake leaves -/

/-- An operation of the intake leaves the other parts of the state, but for the notices and what an answer is to
clear. -/
theorem changesOnly_intake {s u : State} (h : u.model = s.model ∧ u.stopCount = s.stopCount ∧ u.segments = s.segments ∧
    u.valves = s.valves ∧ u.points = s.points ∧ u.profiles = s.profiles ∧ u.concentrators = s.concentrators ∧
    u.incidents = s.incidents ∧ u.plans = s.plans ∧ u.outages = s.outages ∧ u.orders = s.orders ∧
    u.windows = s.windows ∧ u.tracer = s.tracer ∧ u.register = s.register ∧ u.dispatch = s.dispatch ∧
    u.orderUnit = s.orderUnit ∧ u.clock = s.clock ∧ u.port.state = s.port.state ∧
    u.port.discarded = s.port.discarded ∧ u.port.held = s.port.held ∧ u.port.skip = s.port.skip ∧
    u.port.sent = s.port.sent ∧ u.port.drawn = s.port.drawn ∧ u.pending = s.pending) :
    changesOnly [.intake, .notices, .onPlace] s u := by
  obtain ⟨h1, h2, h3, h4, h5, h6, h7, h8, h9, h10, h11, h12, h13, h14, h15, h16, h17, h18, h19, h20, h21, h22, h23,
    h24⟩ := h
  intro p hp
  cases p with
  | intake | notices | onPlace => simp at hp
  | port => exact same_port ⟨h18, h19, h20, h21, h22, h23⟩
  | _ => assumption

/-- A change of the report comes with the TELEMETRY notice, and with no other (R33, R37). -/
theorem Indicates.report {ns : List Notice} {fs : List (RecordClass × Nat)} {s t : State} (h : Indicates ns fs s t)
    (f : IntakeReport → IntakeReport) : Indicates (.telemetry :: ns) fs s (Machine.raise .telemetry (updReport f t)) :=
  (h.same (by simp) (by simp)).raise .telemetry

/-! ## The receiver (R26 to R30) -/

theorem readyPin_iff {s : State} : readyPin s = true ↔ s.intake.queue.length < 64 :=
  decide_eq_true_iff

section
variable {s : State} (b : Byte)

theorem beginItem_room (h : s.intake.queue.length < 64) :
    beginItem b s = s.setIntake { s.intake with receiver := .receiving [b] } := by
  rw [beginItem, if_pos (readyPin_iff.2 h)]
  rfl

/-- With the queue full a marked byte is discarded, and that is an overrun (R27). -/
theorem beginItem_full (h : 64 ≤ s.intake.queue.length) : (beginItem b s).intake.receiver = .discarding 1 ∧
    (beginItem b s).intake.queue = s.intake.queue ∧ (currentReport (beginItem b s)).overrun = true ∧
    raisesExactly [.telemetry] s (beginItem b s) := by
  have hfull : beginItem b s =
      raise .telemetry (updReport (fun r => { r with overrun := true }) (setReceiver (.discarding 1) s)) := by
    rw [beginItem, if_neg (readyPin_iff.not.2 h.not_gt)]
  have hreceiver : (updReport (fun r => { r with overrun := true }) (setReceiver (.discarding 1) s)).intake.receiver =
      .discarding 1 := by
    unfold updReport
    split <;> rfl
  refine ⟨?_, beginItem_queue s b, ?_, ?_⟩
  · rw [hfull]
    exact hreceiver
  · rw [hfull, currentReport_raise, currentReport_updReport]
  · have hreceiving : Indicates [] [] s (setReceiver (.discarding 1) s) := .of_same (by simp) (by simp)
    rw [hfull]
    exact (hreceiving.report _).raises

theorem loseFraming_does (s : State) : (loseFraming s).intake.receiver = .seeking ∧ (loseFraming s).intake.queue = [] ∧
    (currentReport (loseFraming s)).framing = true ∧ raisesExactly [.telemetry] s (loseFraming s) := by
  refine ⟨rfl, rfl, ?_, ?_⟩
  · change (currentReport (raise .telemetry (updReport (fun r => { r with framing := true }) s))).framing = true
    rw [currentReport_raise, currentReport_updReport]
  · exact (((Indicates.refl s).report (fun r => { r with framing := true })).same rfl rfl).raises

/-- A marked byte within an item loses framing and begins an item of its own (R30). -/
theorem beginItem_loseFraming (s : State) : (beginItem b (loseFraming s)).intake.receiver = .receiving [b] ∧
    (beginItem b (loseFraming s)).intake.queue = [] ∧ (currentReport (beginItem b (loseFraming s))).framing = true ∧
    raisesExactly [.telemetry] s (beginItem b (loseFraming s)) := by
  obtain ⟨-, hqueue, hframing, hraises⟩ := loseFraming_does s
  rw [beginItem_room b (by simp [hqueue])]
  exact ⟨rfl, hqueue, hframing, hraises⟩

theorem completeItem_eq (bytes : List Byte) (s : State) : completeItem bytes s = s.setIntake { s.intake with
    receiver := .idle
    queue := if s.model = .running then s.intake.queue ++ [itemOf bytes] else s.intake.queue } := by
  have hrun : (setReceiver .idle s).running = decide (s.model = .running) := rfl
  simp only [completeItem, hrun]
  by_cases h : s.model = .running
  · simp only [h, decide_true, if_true]
    rfl
  · simp only [h, decide_false, if_false]
    rfl

end

/-! ### A byte, by the state of the receiver -/

section
variable {s : State} {b : Byte} {bytes : List Byte} {c : Nat}

theorem receiveByte_mark_begins (h : s.intake.receiver = .seeking ∨ s.intake.receiver = .idle) :
    receiveByte true b s = beginItem b s := by
  rcases h with h | h <;> simp [receiveByte, h]

theorem receiveByte_mark_within
    (h : (∃ bytes, s.intake.receiver = .receiving bytes) ∨ ∃ c, s.intake.receiver = .discarding c) :
    receiveByte true b s = beginItem b (loseFraming s) := by
  rcases h with ⟨x, h⟩ | ⟨x, h⟩ <;> simp [receiveByte, h]

theorem receiveByte_seeking (h : s.intake.receiver = .seeking) : receiveByte false b s = s := by
  simp [receiveByte, h]

theorem receiveByte_idle (h : s.intake.receiver = .idle) : receiveByte false b s = loseFraming s := by
  simp [receiveByte, h]

theorem receiveByte_continues (h : s.intake.receiver = .receiving bytes) (hlen : bytes.length < 5) :
    receiveByte false b s = setReceiver (.receiving (bytes ++ [b])) s := by
  simp [receiveByte, h, hlen]

theorem receiveByte_completes (h : s.intake.receiver = .receiving bytes) (hlen : bytes.length = 5) :
    receiveByte false b s = completeItem (bytes ++ [b]) s := by
  simp [receiveByte, h, hlen]

theorem receiveByte_discards (h : s.intake.receiver = .discarding c) :
    receiveByte false b s = setReceiver (if c < 5 then .discarding (c + 1) else .idle) s := by
  unfold receiveByte
  rw [h]
  dsimp only
  split <;> rfl

end

/-- Settles O28: the state after the byte is that of `receiveByte`, read by the receiver's state and the mark. -/
theorem telemetryByteIsReceived : Obligations.TelemetryByteIsReceived := by
  unfold Obligations.TelemetryByteIsReceived
  intro l x s hheld hl hx
  have hexec : exec (.telemetryByte l) s = .next (receiveByte x.mark (byteOf l) s) := by
    change partStep (fun s => if l.length = 8 then receiveByte (markOf l) (byteOf l) s else s) s = _
    simp [partStep, hheld, hl, markOf, hx]
  refine ⟨byteOf l, _, hexec, fun k hk => getLsbD_byteOf hl hk, changesOnly_intake (by simp), fun hm hr => ?_,
    fun bytes hm hr hlen => ?_, fun bytes hm hr hlen => ?_, fun c hm hr => ?_,
    fun hm hr => ⟨fun hq => ?_, fun hq => ?_⟩, fun hm hr => ?_, fun hm hr => ?_⟩
  all_goals rw [hm]
  · exact receiveByte_seeking hr
  · exact receiveByte_continues hr hlen
  · exact (receiveByte_completes hr hlen).trans (completeItem_eq _ s)
  · exact receiveByte_discards hr
  · exact (receiveByte_mark_begins hr).trans (beginItem_room _ hq)
  · rw [receiveByte_mark_begins hr]
    exact beginItem_full _ hq
  · rw [receiveByte_idle hr]
    exact loseFraming_does s
  · rw [receiveByte_mark_within hr]
    exact beginItem_loseFraming _ s

end Sys2Proof.Machine
end

section
/-! SUPPORT. Bad items, strays and link items (R28, R31 to R35, R57, R152): what is done with the item that was taken,
and O29. -/

namespace Sys2Proof.Machine

/-! ## Taking an item (R28) -/

/-- The state with the item at the head of the queue taken. -/
def State.taken (s : State) (rest : List Item) : State := s.setIntake { s.intake with queue := rest }

/-- An item of another kind at the head, or no item, and the step does nothing (log 3). -/
theorem takeItem_other {k : ItemKind} {s : State} (h : ∀ i rest, s.intake.queue = i :: rest → i.sort ≠ k)
    (owed : List TimedWork) (act : Item → State → State) : takeItem k owed act s = s := by
  unfold takeItem
  split
  · rfl
  · rename_i i rest hq
    rw [if_neg (h i rest hq)]

theorem takeItem_head {s : State} (hs : s.caughtUp) {i : Item} {rest : List Item} (hq : s.intake.queue = i :: rest)
    (owed : List TimedWork) (act : Item → State → State) : takeItem i.sort owed act s = act i (s.taken rest) := by
  simp only [takeItem, hq, if_true, settle_of_caughtUp hs]
  rfl

theorem partStep_awake {s : State} (hs : s.awake) (act : State → State) : partStep act s = .next (act s) := by
  simp [partStep, hs.1]

/-- Outside of cold reset with no work owed, the step of an item's kind acts on the item. -/
theorem partStep_takeItem {s : State} (hs : s.awake) {i : Item} {rest : List Item} (hq : s.intake.queue = i :: rest)
    {k : ItemKind} (hk : i.sort = k) (owed : List TimedWork) (act : Item → State → State) :
    partStep (takeItem k owed act) s = .next (act i (s.taken rest)) := by
  rw [partStep_awake hs, ← hk, takeItem_head hs.2 hq]

theorem partStep_takeItem_other {k : ItemKind} {s : State} (h : ∀ i rest, s.intake.queue = i :: rest → i.sort ≠ k)
    (owed : List TimedWork) (act : Item → State → State) : partStep (takeItem k owed act) s = .next s := by
  rw [partStep, takeItem_other h, ite_self]

/-! ## Bad items and strays (R31 to R33) -/

section
variable (s : State) (rest : List Item)

theorem indicates_taken : Indicates [] [] s (s.taken rest) := .of_same rfl rfl

theorem queue_raise_updReport (c : Notice) (f : IntakeReport → IntakeReport) :
    (raise c (updReport f s)).intake.queue = s.intake.queue := updReport_queue s f

/-- A bad item or a mismatch sets its indication. -/
theorem badIndication_taken : changesOnly [.intake, .notices, .onPlace] s (badIndication (s.taken rest)) ∧
    (badIndication (s.taken rest)).intake.queue = rest ∧
    currentReport (badIndication (s.taken rest)) = { currentReport s with badItem := true } ∧
    raisesExactly [.telemetry] s (badIndication (s.taken rest)) := by
  refine ⟨changesOnly_intake (by simp [State.taken]), queue_raise_updReport _ _ _, ?_, ?_⟩
  · rw [badIndication, currentReport_raise, currentReport_updReport]
    rfl
  · exact ((indicates_taken s rest).report _).raises

theorem strayTag_known {t : Tag} (ht : t ∈ (currentReport s).strays) : strayTag t s = s := by
  rw [strayTag, if_pos (List.contains_iff_mem.2 ht)]

theorem strayTag_new {t : Tag} (ht : t ∉ (currentReport s).strays) (hroom : (currentReport s).strays.length < 8) :
    strayTag t s = raise .telemetry (updReport (fun r => { r with strays := r.strays ++ [t] }) s) := by
  rw [strayTag, if_neg (List.contains_iff_mem.not.2 ht)]
  exact if_pos hroom

theorem strayTag_full {t : Tag} (ht : t ∉ (currentReport s).strays) (hfull : 8 ≤ (currentReport s).strays.length) :
    strayTag t s = if (currentReport s).moreStrays then s
      else raise .telemetry (updReport (fun r => { r with moreStrays := true }) s) := by
  rw [strayTag, if_neg (List.contains_iff_mem.not.2 ht)]
  exact if_neg hfull.not_gt

theorem strayTag_queue (t : Tag) : (strayTag t s).intake.queue = s.intake.queue := by
  unfold strayTag
  dsimp only
  split
  · rfl
  · split
    · exact queue_raise_updReport s _ _
    · split
      · rfl
      · exact queue_raise_updReport s _ _

/-- A stray tag enters the set, eight at most and each once (R33). -/
theorem strayTag_taken (t : Tag) : changesOnly [.intake, .notices, .onPlace] s (strayTag t (s.taken rest)) ∧
    (strayTag t (s.taken rest)).intake.queue = rest ∧
    (t ∈ (currentReport s).strays → currentReport (strayTag t (s.taken rest)) = currentReport s ∧
      raisesExactly [] s (strayTag t (s.taken rest))) ∧
    (t ∉ (currentReport s).strays → (currentReport s).strays.length < 8 →
      currentReport (strayTag t (s.taken rest)) =
          { currentReport s with strays := (currentReport s).strays ++ [t] } ∧
        raisesExactly [.telemetry] s (strayTag t (s.taken rest))) ∧
    (t ∉ (currentReport s).strays → 8 ≤ (currentReport s).strays.length →
      currentReport (strayTag t (s.taken rest)) = { currentReport s with moreStrays := true } ∧
        raisesExactly (if (currentReport s).moreStrays then [] else [.telemetry]) s
          (strayTag t (s.taken rest))) := by
  have hreport : currentReport (s.taken rest) = currentReport s := rfl
  have hraise (f : IntakeReport → IntakeReport) :
      raisesExactly [.telemetry] s (raise .telemetry (updReport f (s.taken rest))) :=
    ((indicates_taken s rest).report f).raises
  refine ⟨changesOnly_intake (by simp [State.taken]), strayTag_queue _ t, fun ht => ?_, fun ht hroom => ?_,
    fun ht hfull => ?_⟩
  · rw [strayTag_known _ (hreport ▸ ht)]
    exact ⟨hreport, (indicates_taken s rest).raises⟩
  · rw [strayTag_new _ (hreport ▸ ht) (hreport ▸ hroom), currentReport_raise, currentReport_updReport]
    exact ⟨rfl, hraise _⟩
  · rw [strayTag_full _ (hreport ▸ ht) (hreport ▸ hfull), hreport]
    cases hmore : (currentReport s).moreStrays with
    | true =>
      have hsame : { currentReport s with moreStrays := true } = currentReport s := by rw [← hmore]
      simp only [if_true, hsame]
      exact ⟨hreport, (indicates_taken s rest).raises⟩
    | false =>
      simp only [Bool.false_eq_true, if_false, currentReport_raise, currentReport_updReport]
      exact ⟨rfl, hraise _⟩

end

theorem toPoint_mismatch {s : State} {t : Tag} (h : ((pointByTag s t).isNone && (valveByTag s t).isSome) = true)
    (act : Nat → State → State) : toPoint t act s = badIndication s := by
  obtain ⟨hpoint, hvalve⟩ := Bool.and_eq_true_iff.1 h
  rw [toPoint, Option.isNone_iff_eq_none.1 hpoint]
  exact if_pos hvalve

theorem toPoint_stray {s : State} {t : Tag} (hp : pointByTag s t = none) (hv : valveByTag s t = none)
    (act : Nat → State → State) : toPoint t act s = strayTag t s := by
  simp [toPoint, hp, hv]

theorem toValve_mismatch {s : State} {t : Tag} (h : (pointByTag s t).isSome = true) (act : Nat → State → State) :
    toValve t act s = badIndication s := by
  obtain ⟨n, hn⟩ := Option.isSome_iff_exists.1 h
  simp [toValve, hn]

theorem toValve_stray {s : State} {t : Tag} (hp : pointByTag s t = none) (hv : valveByTag s t = none)
    (act : Nat → State → State) : toValve t act s = strayTag t s := by
  simp [toValve, hp, hv]

/-! ## A concentrator's state (R34, R35) -/

section
variable (n : Nat) (l : LinkState) (s : State)

theorem concentrator_congr {s u : State} (h : u.concentrators = s.concentrators) (c : Nat) :
    concentrator u c = concentrator s c := by
  rw [concentrator, concentrator, h]

theorem concentrator_setConcentrator (x : Concentrator) (c : Nat) :
    concentrator (setConcentrator n x s) c = if c = n then x else concentrator s c := by
  unfold concentrator setConcentrator
  rw [State.concentrators_setConcentrators]
  split
  · rename_i hx
    rw [Table.at?_del]
    split <;> simp [hx]
  · rw [Table.at?_put]
    split <;> rfl

theorem setLink_same (h : (concentrator s n).state = l) : setLink n l s = s := if_pos h

theorem setLink_change (h : (concentrator s n).state ≠ l) :
    setLink n l s = raise .telemetry (setConcentrator n { state := l, lastChange := s.now } s) := if_neg h

theorem concentrator_setLink_other {c : Nat} (h : c ≠ n) : concentrator (setLink n l s) c = concentrator s c := by
  by_cases hl : (concentrator s n).state = l
  · rw [setLink_same n l s hl]
  · rw [setLink_change n l s hl]
    exact (concentrator_setConcentrator n s _ c).trans (if_neg h)

theorem concentrator_setLink_self : concentrator (setLink n l s) n =
    if (concentrator s n).state = l then concentrator s n else { state := l, lastChange := s.clock.second } := by
  split
  · rename_i hl
    rw [setLink_same n l s hl]
  · rename_i hl
    rw [setLink_change n l s hl]
    exact (concentrator_setConcentrator n s _ n).trans (if_pos rfl)

theorem setLink_indicates :
    Indicates (if (concentrator s n).state = l then [] else [.telemetry]) [] s (setLink n l s) := by
  split
  · rename_i hl
    rw [setLink_same n l s hl]
    exact .refl s
  · rename_i hl
    rw [setLink_change n l s hl]
    exact ((Indicates.refl s).same (by simp) (by simp)).raise .telemetry

theorem raisesIf_setLink :
    raisesIf .telemetry (decide ((concentrator s n).state ≠ l)) s (setLink n l s) := by
  obtain ⟨-, -, -, hraises⟩ := (setLink_indicates n l s).raises
  have h := hraises .telemetry
  by_cases hl : (concentrator s n).state = l <;> simpa [hl] using h

end

/-! ## The classes that an operation may raise -/

/-- From `s` to `u` no class but those of the list is raised or cleared. -/
def raisesAtMost (l : List Notice) (s u : State) : Prop := ∀ v, v ∉ l → raisesIf v false s u

theorem Indicates.raisesAtMost {ns : List Notice} {fs : List (RecordClass × Nat)} {s u : State}
    (h : Indicates ns fs s u) : raisesAtMost ns s u := by
  intro v hv
  obtain ⟨⟨-, -, -, hr⟩, -⟩ := h
  simpa [hv] using hr v

theorem raisesAtMost.refl (l : List Notice) (s : State) : raisesAtMost l s s :=
  fun v _ => (Indicates.refl s).raisesAtMost v (List.not_mem_nil)

theorem raisesAtMost.trans {l : List Notice} {s t u : State} (h : raisesAtMost l s t) (h' : raisesAtMost l t u) :
    raisesAtMost l s u := fun v hv => raisesIf_trans (h v hv) (h' v hv)

theorem raisesAtMost.mono {l m : List Notice} {s u : State} (h : raisesAtMost l s u) (hlm : l ⊆ m) :
    raisesAtMost m s u := fun v hv => h v fun hl => hv (hlm hl)

theorem raisesAtMost.foldl {α : Type} {l : List Notice} {f : State → α → State} (hf : ∀ s a, raisesAtMost l s (f s a))
    (as : List α) (s : State) : raisesAtMost l s (as.foldl f s) := by
  induction as generalizing s with
  | nil => exact .refl l s
  | cons a as ih => exact (hf s a).trans (ih _)

/-! ## Loss of contact (R57, R152) -/

section
variable (n : Nat) (s : State)

/-- A test that ends with no entry left writes its plan's verdict and no incident (R135, R166). -/
theorem setVerdict_untested (p : Nat) : (setVerdict p .untested s).incidents = s.incidents ∧
    raisesAtMost [.plan] s (setVerdict p .untested s) := by
  unfold setVerdict
  split
  · exact ⟨rfl, .refl _ s⟩
  · split
    · exact ⟨rfl, .refl _ s⟩
    · exact ⟨by simp, (((Indicates.refl s).same (by simp) (by simp)).mark .plan p .plan).raisesAtMost⟩

theorem dropEntry_does (p : Nat) : (dropEntry n p s).incidents = s.incidents ∧
    raisesAtMost [.plan] s (dropEntry n p s) := by
  have hmark (t : DecayTest) : raisesAtMost [.plan] s (markPlan p (setTest p t s)) :=
    (((Indicates.refl s).same (by simp) (by simp)).mark .plan p .plan).raisesAtMost
  unfold dropEntry
  split
  · exact ⟨rfl, .refl _ s⟩
  · split
    · dsimp only
      split
      · exact ⟨by simp, hmark _⟩
      · obtain ⟨hincidents, hraises⟩ := setVerdict_untested (markPlan p (setTest p _ s)) p
        exact ⟨by simp [hincidents], (hmark _).trans hraises⟩
    · exact ⟨rfl, .refl _ s⟩

theorem dropPoint_does : (dropPoint n s).incidents = s.incidents ∧ raisesAtMost [.plan] s (dropPoint n s) := by
  refine ⟨?_, .foldl (fun s p => (dropEntry_does n s p).2) _ s⟩
  exact kept_foldl (field := State.incidents) (fun s p => (dropEntry_does n s p).1) _ s

/-- A change of condition raises PRESSURE, and PLAN where it drops the point from a test (R58, R61). -/
theorem setCondition_does (c : Condition) : (setCondition n c s).incidents = s.incidents ∧
    raisesAtMost [.pressure, .plan] s (setCondition n c s) := by
  have hmark : raisesAtMost [.pressure, .plan] s (markPoint n (s.updPoint n (fun p => { p with condition := c }))) :=
    (((Indicates.refl s).same (by simp) (by simp)).mark .point n .pressure).raisesAtMost.mono (by simp)
  unfold setCondition
  split
  · dsimp only
    split
    · obtain ⟨hincidents, hraises⟩ := dropPoint_does n (markPoint n (s.updPoint n (fun p => { p with condition := c })))
      exact ⟨by simp [hincidents], hmark.trans (hraises.mono (by simp))⟩
    · exact ⟨by simp, hmark⟩
  · exact ⟨rfl, .refl _ s⟩

/-- A point's condition is set, and the other points stay. -/
theorem at?_setCondition (c : Condition) (m : Nat) : Table.at? (setCondition n c s).points m =
    if m = n then (Table.at? s.points m).map (fun p => { p with condition := c }) else Table.at? s.points m := by
  have hset : Table.at? (s.updPoint n (fun p => { p with condition := c })).points m =
      if m = n then (Table.at? s.points m).map (fun p => { p with condition := c }) else Table.at? s.points m := by
    rw [State.updPoint, State.points_setPoints, Table.at?_upd]
  unfold setCondition
  split
  · dsimp only
    split <;> simpa using hset
  · rename_i htest
    split
    · rename_i hm
      subst hm
      cases hp : Table.at? s.points m with
      | none => rfl
      | some p =>
        have hc : p.condition = c := by simpa [Table.test_some hp] using htest
        rw [Option.map_some, ← hc]
    · rfl

theorem loseValve_raises : raisesAtMost [.order] s (loseValve n s) := by
  unfold loseValve
  split
  · exact (((Indicates.refl s).same (by simp) (by simp)).mark .valve n .order).raisesAtMost
  · exact .refl _ s

theorem at?_loseValve (m : Nat) : Table.at? (loseValve n s).valves m =
    if m = n then (Table.at? s.valves m).map (fun a => { a with unconfirmed := true }) else Table.at? s.valves m := by
  unfold loseValve
  split
  · change Table.at? (Table.upd s.valves n (fun a => { a with unconfirmed := true })) m = _
    rw [Table.at?_upd]
  · rename_i htest
    split
    · rename_i hm
      subst hm
      cases ha : Table.at? s.valves m with
      | none => rfl
      | some a =>
        have hc : a.unconfirmed = true := by simpa [Table.test_some ha] using htest
        rw [Option.map_some, ← hc]
    · rfl

end

/-- A run of changes, each of one record, over a list of slots: a change made twice is made once. -/
theorem at?_foldl_change {α : Type} {field : State → Table α} {f : Nat → State → State} {g : α → α}
    (hg : ∀ a, g (g a) = g a) (hf : ∀ n s m, Table.at? (field (f n s)) m =
      if m = n then (Table.at? (field s) m).map g else Table.at? (field s) m) (l : List Nat) (s : State) (m : Nat) :
    Table.at? (field (l.foldl (fun s n => f n s) s)) m =
      if m ∈ l then (Table.at? (field s) m).map g else Table.at? (field s) m := by
  induction l generalizing s with
  | nil => rfl
  | cons n l ih =>
    rw [List.foldl_cons, ih, hf]
    by_cases hm : m = n
    · subst hm
      cases Table.at? (field s) m <;> simp [hg]
    · simp [hm]

/-- A change of the slots whose records meet a test is a change of the records that meet it. -/
theorem Table.map_of_mem_which {α : Type} {t : Table α} (ht : Table.rises t) (p : α → Bool) (g : α → α) (m : Nat) :
    (if m ∈ Table.which t p then (Table.at? t m).map g else Table.at? t m) =
      (Table.at? t m).map (fun a => if p a then g a else a) := by
  cases ha : Table.at? t m with
  | none => simp
  | some a => by_cases hp : p a <;> simp [Table.mem_which ht, ha, hp]

/-! ## LINK DOWN (R35) -/

section
variable (n : Nat) (s : State)

theorem linkDown_concentrators : (linkDown n s).concentrators = (setLink n .down s).concentrators := by
  simp [linkDown]

theorem linkDown_incidents : (linkDown n s).incidents = s.incidents := by
  have hpoints (l : List Nat) (t : State) : (l.foldl (fun s p => losePoint p s) t).incidents = t.incidents :=
    kept_foldl (field := State.incidents) (fun s p => (setCondition_does p s .stale).1) l t
  simp [linkDown, hpoints]

/-- Whether TELEMETRY is raised is settled by the change of the concentrator's state. -/
theorem linkDown_telemetry :
    raisesIf .telemetry (decide ((concentrator s n).state ≠ .down)) s (linkDown n s) := by
  have hpoints (l : List Nat) (t : State) : raisesAtMost [.pressure, .plan] t (l.foldl (fun s p => losePoint p s) t) :=
    .foldl (fun s p => (setCondition_does p s .stale).2) l t
  have hvalves (l : List Nat) (t : State) : raisesAtMost [.order] t (l.foldl (fun s v => loseValve v s) t) :=
    .foldl (fun s v => loseValve_raises v s) l t
  unfold linkDown
  extract_lets s1 ps vs
  have h := raisesIf_trans (raisesIf_trans (raisesIf_setLink n .down s) (hpoints ps s1 .telemetry (by simp)))
    (hvalves vs _ .telemetry (by simp))
  simpa using h

theorem at?_linkDown_points (hs : Table.rises s.points) (m : Nat) : Table.at? (linkDown n s).points m =
    (Table.at? s.points m).map (fun p => if p.tag.concentrator = n then { p with condition := .stale } else p) := by
  have hkept : (setLink n .down s).points = s.points := by simp
  unfold linkDown
  extract_lets s1 ps vs
  have hvalves : (vs.foldl (fun s v => loseValve v s) (ps.foldl (fun s p => losePoint p s) s1)).points =
      (ps.foldl (fun s p => losePoint p s) s1).points := by simp
  rw [hvalves, at?_foldl_change (field := State.points) (f := losePoint)
    (g := fun p => { p with condition := .stale }) (fun _ => rfl) (fun n s => at?_setCondition n s .stale),
    Table.map_of_mem_which (by rwa [hkept]), hkept]
  simp

theorem at?_linkDown_valves (hs : Table.rises s.valves) (m : Nat) : Table.at? (linkDown n s).valves m =
    (Table.at? s.valves m).map (fun a =>
      if a.operation = .remote ∧ (∃ t, a.tag = some t ∧ t.concentrator = n) then { a with unconfirmed := true }
      else a) := by
  have hkept : (setLink n .down s).valves = s.valves := by simp
  unfold linkDown
  extract_lets s1 ps vs
  have hpoints : (ps.foldl (fun s p => losePoint p s) s1).valves = s.valves := by simp [s1]
  rw [at?_foldl_change (field := State.valves) (g := fun a => { a with unconfirmed := true }) (fun _ => rfl)
    at?_loseValve, hpoints, ← hkept, Table.map_of_mem_which (by rwa [hkept])]
  simp [Option.any_eq_true, s1]

end

/-- Settles O29: what each step makes of the item it takes. -/
theorem straysBadItemsAndLinks : Obligations.StraysBadItemsAndLinks := by
  unfold Obligations.StraysBadItemsAndLinks
  refine ⟨fun c k s hc hother => ?_, fun s i rest hs hq => ?_, fun s i rest hs htables hq => ?_⟩
  · rcases hc with ⟨rfl, rfl⟩ | ⟨rfl, rfl⟩ | ⟨rfl, rfl⟩ | ⟨rfl, rfl⟩ | ⟨rfl, rfl⟩ | ⟨rfl, rfl⟩
    all_goals exact partStep_takeItem_other hother _ _
  · intro bad stray dataStep
    have hbad : bad (badIndication (s.taken rest)) := badIndication_taken s rest
    have hstray : stray (strayTag i.tag (s.taken rest)) := strayTag_taken s rest i.tag
    have hact {k : ItemKind} (hk : i.sort = k) (owed : List TimedWork) (act : Item → State → State) {u : State}
        (hu : act i (s.taken rest) = u) : partStep (takeItem k owed act) s = .next u :=
      (partStep_takeItem hs hq hk owed act).trans (congrArg _ hu)
    refine ⟨fun hk => ⟨_, hact hk _ _ rfl, hbad⟩, fun hk => ⟨fun hm => ?_, fun hp hv => ?_⟩,
      fun hk => ⟨fun hm => ?_, fun hp hv => ?_⟩, fun hk => ⟨fun hm => ?_, fun hp hv => ?_⟩⟩
    · exact ⟨_, hact hk _ _ (toPoint_mismatch (s := s.taken rest) hm _), hbad⟩
    · exact ⟨_, hact hk _ _ (toPoint_stray (s := s.taken rest) hp hv _), hstray⟩
    · exact ⟨_, hact hk _ _ (toPoint_mismatch (s := s.taken rest) hm _), hbad⟩
    · exact ⟨_, hact hk _ _ (toPoint_stray (s := s.taken rest) hp hv _), hstray⟩
    · exact ⟨_, hact hk _ _ (toValve_mismatch (s := s.taken rest) hm _), hbad⟩
    · exact ⟨_, hact hk _ _ (toValve_stray (s := s.taken rest) hp hv _), hstray⟩
  · intro link
    have hlink {u : State} {l : LinkState} (hintake : u.intake = { s.intake with queue := rest })
        (hcon : u.concentrators = (setLink i.tag.concentrator l (s.taken rest)).concentrators)
        (hraises : raisesIf .telemetry (decide ((concentrator s i.tag.concentrator).state ≠ l)) (s.taken rest) u) :
        link u l :=
      ⟨hintake, fun c hc => (concentrator_congr hcon c).trans (concentrator_setLink_other _ _ _ hc),
        (concentrator_congr hcon _).trans (concentrator_setLink_self _ _ _), hraises⟩
    refine ⟨fun hk => ⟨_, partStep_takeItem hs hq hk _ _, hlink ?_ rfl (raisesIf_setLink _ _ _), ?_, ?_, ?_⟩,
      fun hk => ⟨_, partStep_takeItem hs hq hk _ _, hlink ?_ (linkDown_concentrators _ _) (linkDown_telemetry _ _), ?_,
        ?_, ?_⟩⟩
    · simp [State.taken]
    · intro p hp
      cases p with
      | intake | concentrators | notices | onPlace => simp at hp
      | port => exact same_port (by simp [State.taken])
      | _ => simp [State.same, State.taken]
    · exact (setLink_indicates _ _ _).raises
    · exact (setLink_indicates _ _ _).flags
    · simp [State.taken]
    · intro p hp
      cases p with
      | intake | concentrators | points | valves | plans | notices | onPlace => simp at hp
      | incidents => exact linkDown_incidents _ _
      | port => exact same_port (by simp [State.taken])
      | _ => simp [State.same, State.taken]
    · exact at?_linkDown_points _ _ htables.keysRise.points
    · exact at?_linkDown_valves _ _ htables.keysRise.valves

end Sys2Proof.Machine
end

section
/-! SUPPORT. What a run of operations does: to the records of a table, and to the parts of the state. -/

namespace Sys2Proof.Machine

/-! ## The change of one record -/

section
variable {α : Type}

/-- From `t` to `u` the record of slot `n` is changed by `g`, and every other slot stays. -/
def Table.becomes (n : Nat) (g : α → α) (t u : Table α) : Prop :=
  ∀ m, Table.at? u m = if m = n then (Table.at? t m).map g else Table.at? t m

variable {n : Nat} {g g' : α → α} {t u v : Table α}

theorem Table.becomes.of_eq (h : u = t) : Table.becomes n id t u := fun m => by simp [h]

theorem Table.becomes.trans (h : Table.becomes n g t u) (h' : Table.becomes n g' u v) :
    Table.becomes n (fun a => g' (g a)) t v := by
  intro m
  rw [h', h]
  split
  · rw [Option.map_map]; rfl
  · rfl

/-- An operation that leaves the table adds nothing. -/
theorem Table.becomes.same (h : Table.becomes n g t u) (hv : v = u) : Table.becomes n g t v := h.trans (.of_eq hv)

/-- What the map does is settled by what it makes of the record. -/
theorem Table.becomes.congr (h : Table.becomes n g t u) (hg : ∀ a, Table.at? t n = some a → g a = g' a) :
    Table.becomes n g' t u := by
  intro m
  rw [h]
  split
  · subst_vars; exact Option.map_congr hg
  · rfl

theorem Table.becomes.free (h : Table.at? t n = none) (g : α → α) : Table.becomes n g t t := by
  intro m
  split
  · subst_vars; rw [h]; rfl
  · rfl

theorem Table.becomes.self (h : Table.becomes n g t u) {a : α} (ha : Table.at? t n = some a) :
    Table.at? u n = some (g a) := by simp [h n, ha]

theorem Table.becomes.other (h : Table.becomes n g t u) {m : Nat} (hm : m ≠ n) : Table.at? u m = Table.at? t m := by
  simp [h m, hm]

theorem Table.becomes_upd (n : Nat) (g : α → α) (t : Table α) : Table.becomes n g t (Table.upd t n g) :=
  fun m => Table.at?_upd t n m g

theorem Table.becomes_put {a : α} (ha : Table.at? t n = some a) (g : α → α) :
    Table.becomes n g t (Table.put t n (g a)) := by
  intro m
  rw [Table.at?_put]
  split
  · subst_vars; rw [ha]; rfl
  · rfl

/-- A run of changes over distinct slots, each of one record and by the same map as long as `P` holds. -/
theorem at?_foldl_once {field : State → Table α} {f : State → Nat → State} {P : State → Prop}
    (hP : ∀ s n, P s → P (f s n)) (hf : ∀ s n, P s → Table.becomes n g (field s) (field (f s n)))
    {l : List Nat} (hl : l.Nodup) {s : State} (hs : P s) (m : Nat) : Table.at? (field (l.foldl f s)) m =
      if m ∈ l then (Table.at? (field s) m).map g else Table.at? (field s) m := by
  induction l generalizing s with
  | nil => rfl
  | cons n l ih =>
    obtain ⟨hn, hl'⟩ := List.nodup_cons.1 hl
    rw [List.foldl_cons, ih hl' (hP s n hs), hf s n hs m]
    by_cases hm : m = n
    · subst hm; simp [hn]
    · simp [hm]

end

/-! ## The parts that a run of operations leaves -/

theorem State.same.trans {s t u : State} {p : Part} (h : s.same t p) (h' : t.same u p) : s.same u p := by
  cases p with
  | port =>
    change { u.port with onPlace := s.port.onPlace } = s.port
    rw [← show _ = s.port from h, ← show _ = t.port from h']
  | _ => exact Eq.trans h' h

theorem changesOnly.refl (l : List Part) (s : State) : changesOnly l s s := fun p _ => by cases p <;> rfl

theorem changesOnly.trans {l : List Part} {s t u : State} (h : changesOnly l s t) (h' : changesOnly l t u) :
    changesOnly l s u := fun p hp => (h p hp).trans (h' p hp)

theorem changesOnly.mono {l m : List Part} {s u : State} (h : changesOnly l s u) (hlm : l ⊆ m) : changesOnly m s u :=
  fun p hp => h p fun hl => hp (hlm hl)

end Sys2Proof.Machine
end

section
/-! SUPPORT. The target band (R53, R54): its rows, and O32. -/

namespace Sys2Proof.Machine

/-! ## The target band (R53, R54) -/

section
variable {e : Profile} (hmid : e.l < e.h) (hhigh : e.h ≤ e.hh)
include hmid hhigh

theorem targetBand_without_hysteresis (hlow : e.ll ≤ e.l) (b : Band) (p : Nat) : targetBand e 0 b p = zone e p := by
  cases b with
  | normal => rfl
  | low => grind [targetBand, zone]
  | lowLow => grind [targetBand, zone]
  | high => grind [targetBand, zone]
  | highHigh => grind [targetBand, zone]

/-- The target band that a point reaches is where it stays under the same pressure. -/
theorem targetBand_idem (h : Nat) (b : Band) (p : Nat) : targetBand e h (targetBand e h b p) p = targetBand e h b p := by
  have hzone : targetBand e h (zone e p) p = zone e p := by grind [targetBand, zone]
  cases b with
  | normal => exact hzone
  | low => grind [targetBand]
  | lowLow => grind [targetBand]
  | high => grind [targetBand]
  | highHigh => grind [targetBand]

end

/-- Settles O32: row by row of the table of R54. -/
theorem targetBandWidensThePresentBand : Obligations.TargetBandWidensThePresentBand := by
  unfold Obligations.TargetBandWidensThePresentBand
  intro e h p b hlow hmid hhigh
  refine ⟨targetBand_without_hysteresis hmid hhigh hlow b p, rfl, rfl, rfl, rfl, rfl, fun hp hb => ?_, fun hp hb => ?_,
    fun ht => ?_, fun ht => ?_, fun ht => ?_, targetBand_idem hmid hhigh h b p⟩
  · rcases hb with rfl | rfl | rfl <;> grind [targetBand, zone]
  · rcases hb with rfl | rfl | rfl <;> grind [targetBand, zone]
  · grind [targetBand]
  · grind [targetBand]
  · grind [targetBand, zone]

end Sys2Proof.Machine
end

section
/-! SUPPORT. Profile selection (R50 to R52): what the reselection of points makes of each, and O34 and O60, which reselect
the points of a group and every point. -/

namespace Sys2Proof.Machine

/-! ## The selection for a group (R50) -/

theorem periodCode_eq (c : Clock) : periodCode c = c.dayClass * 32 + c.second % 86400 / 3600 := rfl

theorem Profile.applies_iff {e : Profile} {g code : Nat} : e.applies g code = true ↔
    e.enabled = true ∧ e.group = g ∧ (code &&& e.periodMask) = (e.periodValue &&& e.periodMask) := by
  simp [Profile.applies, and_assoc]

theorem selection_iff {s : State} (hs : Table.rises s.profiles) {g n : Nat} : selection s g = some n ↔
    (∃ e, Table.at? s.profiles n = some e ∧ e.applies g (periodCode s.clock) = true) ∧
      ∀ m, m < n → ¬ ∃ e, Table.at? s.profiles m = some e ∧ e.applies g (periodCode s.clock) = true := by
  rw [selection, Table.head?_which hs]
  refine and_congr_right fun _ => ⟨fun h m hlt ⟨e, he, ha⟩ => (h m e he ha).not_gt hlt, fun h m e he ha => ?_⟩
  exact not_lt.1 fun hlt => h m hlt ⟨e, he, ha⟩

/-! ## One point (R51, R52) -/

/-- The selection of a group is the one that a point has, and is not the entry just written. -/
def Point.keepsSelection (p : Point) (rewritten chosen : Option Nat) : Bool :=
  chosen = p.selected && (chosen = none || chosen != rewritten)

/-- A point as a reselection leaves it (R52). -/
def Point.reselected (s : State) (rewritten : Option Nat) (p : Point) : Point :=
  if p.keepsSelection rewritten (selection s p.group) then p
  else { p with selected := selection s p.group, candidate := none, count := 0,
                condition := conditionAfter p.condition (selection s p.group) }

section
variable {s : State} {r : Option Nat} {p : Point}

theorem reselected_same (h : p.keepsSelection r (selection s p.group) = true) : p.reselected s r = p := if_pos h

theorem reselected_chooses (h : ¬ p.keepsSelection r (selection s p.group) = true) :
    (p.reselected s r).candidate = none ∧ (p.reselected s r).count = 0 ∧
      (p.reselected s r).condition = conditionAfter p.condition (selection s p.group) := by
  rw [Point.reselected, if_neg h]
  exact ⟨rfl, rfl, rfl⟩

theorem reselected_selected (s : State) (r : Option Nat) (p : Point) :
    (p.reselected s r).selected = selection s p.group := by
  unfold Point.reselected
  split
  · rename_i h
    simp only [Point.keepsSelection, Bool.and_eq_true, decide_eq_true_eq] at h
    exact h.1.symm
  · rfl

/-- A reselection writes the selection, the run toward a band and the condition alone. -/
theorem reselected_keeps (s : State) (r : Option Nat) (p : Point) : p.reselected s r =
    { p with selected := (p.reselected s r).selected, candidate := (p.reselected s r).candidate,
             count := (p.reselected s r).count, condition := (p.reselected s r).condition } := by
  unfold Point.reselected
  split <;> rfl

end

theorem reselected_congr {s u : State} (hp : u.profiles = s.profiles) (hc : u.clock = s.clock) (r : Option Nat) :
    Point.reselected u r = Point.reselected s r := by
  funext p
  rw [Point.reselected, Point.reselected, selection_congr hp hc]

section
variable {s : State} {r : Option Nat} {n : Nat}

theorem reselectPoint_free (h : Table.at? s.points n = none) : reselectPoint r n s = s := by rw [reselectPoint, h]

variable {p : Point} (hp : Table.at? s.points n = some p)
include hp

theorem reselectPoint_keeps (h : p.keepsSelection r (selection s p.group) = true) : reselectPoint r n s = s := by
  rw [reselectPoint, hp]
  exact if_pos h

theorem reselectPoint_chooses (h : ¬ p.keepsSelection r (selection s p.group) = true) :
    reselectPoint r n s = setCondition n (conditionAfter p.condition (selection s p.group))
      (s.putPoint n { p with selected := selection s p.group, candidate := none, count := 0 }) := by
  rw [reselectPoint, hp]
  refine (if_neg h).trans ?_
  rw [applySelection, hp]

end

section
variable (s : State) (r : Option Nat) (n : Nat)

theorem at?_reselectPoint (m : Nat) : Table.at? (reselectPoint r n s).points m =
    if m = n then (Table.at? s.points m).map (Point.reselected s r) else Table.at? s.points m := by
  cases hp : Table.at? s.points n with
  | none =>
    rw [reselectPoint_free hp]
    split
    · subst_vars; rw [hp]; rfl
    · rfl
  | some p =>
    by_cases h : p.keepsSelection r (selection s p.group) = true
    · rw [reselectPoint_keeps hp h]
      split
      · subst_vars; simp [hp, Point.reselected, h]
      · rfl
    · rw [reselectPoint_chooses hp h, at?_setCondition, State.putPoint, State.points_setPoints, Table.at?_put]
      split
      · subst_vars; simp [hp, Point.reselected, h]
      · rfl

/-- The condition that a reselection leaves drops no test entry, so that the point alone is reached. -/
theorem reselectPoint_others : (reselectPoint r n s).plans = s.plans ∧ (reselectPoint r n s).incidents = s.incidents ∧
    ∃ ns fs, Indicates ns fs s (reselectPoint r n s) := by
  cases hp : Table.at? s.points n with
  | none => rw [reselectPoint_free hp]; exact ⟨rfl, rfl, _, _, .refl s⟩
  | some p =>
    by_cases h : p.keepsSelection r (selection s p.group) = true
    · rw [reselectPoint_keeps hp h]; exact ⟨rfl, rfl, _, _, .refl s⟩
    · rw [reselectPoint_chooses hp h]
      obtain ⟨hplans, hincidents, ns, fs, hind, -⟩ := setCondition_others
        (s := s.putPoint n { p with selected := selection s p.group, candidate := none, count := 0 })
        (Table.at?_put_self s.points n _) conditionAfter_drops
      exact ⟨hplans.trans (by simp), hincidents.trans (by simp), _, _,
        (Indicates.of_same (by simp) (by simp)).trans hind⟩

/-! ## The points that meet a test (R51) -/

theorem at?_reselect (which : Point → Bool) (hs : Table.rises s.points) (m : Nat) :
    Table.at? (reselect r which s).points m =
      (Table.at? s.points m).map (fun p => if which p then p.reselected s r else p) := by
  rw [reselect, at?_foldl_once (field := State.points) (g := Point.reselected s r)
    (P := fun t => t.profiles = s.profiles ∧ t.clock = s.clock) (fun t n ht => by simpa using ht)
    (fun t n ht k => by rw [at?_reselectPoint, reselected_congr ht.1 ht.2])
    (nodup_of_rising (Table.pairwise_which hs which)) ⟨rfl, rfl⟩, Table.map_of_mem_which hs]

theorem reselect_others (which : Point → Bool) :
    (reselect r which s).plans = s.plans ∧ (reselect r which s).incidents = s.incidents :=
  ⟨kept_foldl (field := State.plans) (fun s n => (reselectPoint_others s r n).1) _ s,
    kept_foldl (field := State.incidents) (fun s n => (reselectPoint_others s r n).2.1) _ s⟩

end

/-! ## SET PROFILE (R49) -/

section
variable (n : Nat) (e : Profile) (s : State)

/-- A point of the group of the entry written, or of the group that the entry had before. -/
def State.profileReaches (p : Point) : Bool :=
  s.running && (p.group = e.group || (Table.at? s.profiles n).map (fun x => x.group) = some p.group)

theorem profileReaches_iff {p : Point} : s.profileReaches n e p = true ↔ s.model = .running ∧
    (p.group = e.group ∨ ∃ x, Table.at? s.profiles n = some x ∧ p.group = x.group) := by
  simp only [State.profileReaches, Bool.and_eq_true, Bool.or_eq_true, decide_eq_true_iff, running_iff,
    Option.map_eq_some_iff, eq_comm (a := p.group)]

theorem writeProfile_profiles : (writeProfile n e s).profiles = Table.put s.profiles n e := by
  unfold writeProfile
  dsimp only
  split <;> simp

theorem at?_writeProfile (hs : Table.rises s.points) (m : Nat) : Table.at? (writeProfile n e s).points m =
    (Table.at? s.points m).map (fun p =>
      if s.profileReaches n e p then p.reselected (writeProfile n e s) (some n) else p) := by
  have hclock : (writeProfile n e s).clock = s.clock := by
    unfold writeProfile
    dsimp only
    split <;> simp
  have hsame : Point.reselected (writeProfile n e s) (some n) =
      Point.reselected (s.setProfiles (Table.put s.profiles n e)) (some n) :=
    reselected_congr (s := s.setProfiles (Table.put s.profiles n e)) (writeProfile_profiles n e s) hclock _
  rw [hsame]
  unfold writeProfile
  dsimp only
  cases hrun : s.running with
  | true =>
    rw [if_pos rfl, at?_reselect _ _ _ (by rwa [State.points_setProfiles])]
    simp [State.profileReaches, hrun]
  | false => simp [State.profileReaches, hrun]

theorem changesOnly_writeProfile : changesOnly [.profiles, .points, .notices, .onPlace] s (writeProfile n e s) := by
  unfold writeProfile
  extract_lets old s1
  obtain ⟨hplans, hincidents⟩ := reselect_others s1 (some n) (fun p => p.group = e.group || old = some p.group)
  split
  · intro p hp
    cases p with
    | profiles | points | notices | onPlace => simp at hp
    | port => exact same_port (by simp [s1])
    | _ => simp [State.same, hplans, hincidents, s1]
  · intro p hp
    cases p with
    | profiles | points | notices | onPlace => simp at hp
    | _ => rfl

end

/-- Settles O34: the selection by its entries, and the points that SET PROFILE reaches. -/
theorem setProfileWritesAndReselects : Obligations.SetProfileWritesAndReselects := by
  unfold Obligations.SetProfileWritesAndReselects
  refine ⟨fun x g n hx => ?_, fun h n group pv pm ll l hi hh enabled s hs htables hw hd hn hgroup h1 h2 h3 => ?_⟩
  · obtain ⟨-, -, -, hprofiles, -⟩ := hx
    simpa only [Profile.applies_iff, periodCode_eq] using selection_iff (s := x) (g := g) (n := n) hprofiles.1
  · intro touched
    have hclamped : [ll, l, hi, hh].any (fun x => Config.topPressure < x) =
        decide (1048575 < ll ∨ 1048575 < l ∨ 1048575 < hi ∨ 1048575 < hh) := by
      rw [Bool.eq_iff_iff]
      simp only [List.any_cons, List.any_nil, Bool.or_false, Bool.or_eq_true, decide_eq_true_iff]
      rfl
    have hact : setProfile h n group pv pm ll l hi hh enabled s =
        (writeProfile n (clampedProfile group pv pm ll l hi hh enabled) s,
          .doneClamped (decide (1048575 < ll ∨ 1048575 < l ∨ 1048575 < hi ∨ 1048575 < hh)) [.u8 n]) := by
      rw [setProfile, tested_passed (by simp [hd, hn, hgroup, Profile.ordered, clampedProfile, Config.topPressure,
        Config.profileSlots, h1, h2, h3]), hclamped]
    generalize he : clampedProfile group pv pm ll l hi hh enabled = e at hact
    refine ⟨writeProfile n e s, ?_, changesOnly_writeProfile n e s, fun m => ?_, fun m p hp => ?_⟩
    · rw [exec, execSetProfile, request_ready hs hw, hact]
      rfl
    · rw [writeProfile_profiles, Table.at?_put, ← he]
      rfl
    · have hreach : s.profileReaches n e p = true ↔ touched p := by
        rw [profileReaches_iff, ← he]
        rfl
      rw [at?_writeProfile n e s htables.keysRise.points, hp, Option.map_some]
      refine ⟨_, rfl, fun hnot => if_neg (hreach.not.2 hnot), fun ht => ?_⟩
      rw [if_pos (hreach.2 ht)]
      exact ⟨reselected_keeps _ _ p, reselected_selected _ _ p, fun hch => reselected_chooses (by
        rcases hch with hne | hwritten
        · simp [Point.keepsSelection, hne]
        · simp [Point.keepsSelection, hwritten]), fun hsel hne => reselected_same (by
        simp [Point.keepsSelection, hsel, hsel ▸ hne])⟩

/-! ## The period code (R172 to R175) -/

/-- With no entry just written, the selection is kept exactly where it is the one that the point has. -/
theorem keepsSelection_none {p : Point} {chosen : Option Nat} :
    p.keepsSelection none chosen = true ↔ chosen = p.selected := by
  cases chosen <;> simp [Point.keepsSelection]

section
variable {s : State} {c : Clock}

/-- The clock is set, and a period code that changed with it has reselected. -/
def State.clockMoved (s : State) (c : Clock) : State := periodChanged s.clock (s.setClock c)

theorem periodChanged_setClock : periodChanged s.clock (s.setClock c) = s.clockMoved c := rfl

theorem clockMoved_clock : (s.clockMoved c).clock = c := by simp [State.clockMoved]

theorem clockMoved_quiet (h : s.model = .loading ∨ periodCode c = periodCode s.clock) :
    s.clockMoved c = s.setClock c := by
  rcases h with h | h <;> simp [State.clockMoved, periodChanged, State.running, h]

theorem clockMoved_reselects (hr : s.model = .running) (h : periodCode c ≠ periodCode s.clock) :
    s.clockMoved c = reselect none (fun _ => true) (s.setClock c) := by
  simp [State.clockMoved, periodChanged, State.running, hr, Ne.symm h]

theorem changesOnly_clockMoved : changesOnly [.clock, .points, .notices, .onPlace] s (s.clockMoved c) := by
  unfold State.clockMoved periodChanged
  obtain ⟨hplans, hincidents⟩ := reselect_others (s.setClock c) none (fun _ => true)
  intro p hp
  cases p with
  | clock | points | notices | onPlace => simp at hp
  | port => exact same_port (by simp)
  | _ => simp [State.same, hplans, hincidents]

theorem changesOnly_setClock : changesOnly [.clock] s (s.setClock c) := by
  intro p hp
  cases p with
  | clock => simp at hp
  | _ => rfl

theorem at?_clockMoved (hs : Table.rises s.points) (hr : s.model = .running) (h : periodCode c ≠ periodCode s.clock)
    (m : Nat) : Table.at? (s.clockMoved c).points m =
      (Table.at? s.points m).map (Point.reselected (s.clockMoved c) none) := by
  have hprofiles : (s.clockMoved c).profiles = (s.setClock c).profiles := by simp [State.clockMoved]
  have hclock : (s.clockMoved c).clock = (s.setClock c).clock := by simp [State.clockMoved]
  have hsame : Point.reselected (s.clockMoved c) none = Point.reselected (s.setClock c) none :=
    reselected_congr hprofiles hclock none
  rw [hsame, clockMoved_reselects hr h, at?_reselect _ _ _ (by rwa [State.points_setClock])]
  simp

end

/-- What the setting of the clock does, as R174 and R175 give it. -/
theorem clockMoved_does {s : State} (hs : Table.rises s.points) (c : Clock) : (s.clockMoved c).clock = c ∧
    changesOnly [.clock, .points, .notices, .onPlace] s (s.clockMoved c) ∧
    (s.model = .loading ∨ periodCode c = periodCode s.clock → changesOnly [.clock] s (s.clockMoved c)) ∧
    (s.model = .running → periodCode c ≠ periodCode s.clock → ∀ n p, Table.at? s.points n = some p →
      ∃ q, Table.at? (s.clockMoved c).points n = some q ∧ q.selected = selection (s.clockMoved c) p.group ∧
        (q.selected = p.selected → q = p) ∧
        (q.selected ≠ p.selected → q = { p with
          selected := q.selected, candidate := none, count := 0
          condition := conditionAfter p.condition q.selected })) := by
  refine ⟨clockMoved_clock, changesOnly_clockMoved, fun h => ?_, fun hr h n p hp => ?_⟩
  · rw [clockMoved_quiet h]
    exact changesOnly_setClock
  · rw [at?_clockMoved hs hr h, hp, Option.map_some]
    refine ⟨_, rfl, reselected_selected _ _ p, fun hsel => ?_, fun hsel => ?_⟩
    · rw [reselected_selected] at hsel
      exact reselected_same (keepsSelection_none.2 hsel)
    · rw [reselected_selected] at hsel ⊢
      exact if_neg (keepsSelection_none.not.2 hsel)

theorem nextSecond_eq (n : Nat) :
    nextSecond n = if n % 4294967296 = 4294967295 then 0 else n % 4294967296 + 1 := by
  change (n + 1) % 4294967296 = _
  split <;> omega

theorem secondEvent_caughtUp {s : State} (hs : s.caughtUp) : secondEvent s = s.clockMoved
    { s.clock with second := nextSecond s.clock.second, due := if s.running then allWork else [] } := by
  rw [secondEvent, settle_of_caughtUp hs]
  rfl

/-- Settles O60: each of the three is a setting of the clock. -/
theorem countAndDayClassMove : Obligations.CountAndDayClassMove := by
  unfold Obligations.CountAndDayClassMove
  intro s hs htables code moves
  have hmoves (c : Clock) : moves (s.clockMoved c) c := clockMoved_does htables.keysRise.points c
  refine ⟨?_, fun h n hl hw hd => ⟨_, ?_, hmoves _⟩, fun h d hl hw hd h7 => ⟨_, ?_, hmoves _⟩⟩
  · have hclock : ({ s.clock with second := nextSecond s.clock.second, due := if s.running then allWork else [] } : Clock) =
        { s.clock with
          second := if s.clock.second % 4294967296 = 4294967295 then 0 else s.clock.second % 4294967296 + 1
          due := if s.model = .running then [.staleness, .overdue, .expiry, .timeout, .windowEnd] else [] } := by
      rw [nextSecond_eq]
      simp [State.running, allWork]
    refine ⟨_, ?_, hmoves _⟩
    rw [exec, execSecondEvent, partStep_awake hs, secondEvent_caughtUp hs.2, hclock]
  · have hact : setClock h n s = (s.clockMoved { s.clock with second := n },
        .done [.u32 s.clock.second, .u32 n, .u8 (code { s.clock with second := n })]) := by
      rw [setClock, deskZero_passed hd]
      simp only [periodChanged_setClock, clockMoved_clock]
      rfl
    rw [exec, execSetClock, request_ready ⟨hl, hs.2⟩ hw, hact]
    rfl
  · have hact : setDayClass h d s = (s.clockMoved { s.clock with dayClass := d },
        .done [.u8 d, .u8 (code { s.clock with dayClass := d })]) := by
      rw [setDayClass, tested_passed (by simp [hd, h7])]
      simp only [periodChanged_setClock, clockMoved_clock]
      rfl
    rw [exec, execSetDayClass, request_ready ⟨hl, hs.2⟩ hw, hact]
    rfl

end Sys2Proof.Machine
end

section
/-! SUPPORT. ALTER POINT (R42, R43): the changes of one point, and O33. -/

namespace Sys2Proof.Machine

/-! ## Operations on the points alone -/

/-- An operation that writes points, and marks them, and reaches no other block. -/
def writesPoints (s u : State) : Prop :=
  changesOnly [.points, .notices, .onPlace] s u ∧ ∃ ns fs, Indicates ns fs s u

theorem writesPoints.refl (s : State) : writesPoints s s := ⟨.refl _ s, _, _, .refl s⟩

theorem writesPoints.trans {s t u : State} (h : writesPoints s t) (h' : writesPoints t u) : writesPoints s u := by
  obtain ⟨hc, _, _, hi⟩ := h
  obtain ⟨hc', _, _, hi'⟩ := h'
  exact ⟨hc.trans hc', _, _, hi.trans hi'⟩

section
variable (n : Nat) (s : State)

theorem writesPoints_updPoint (f : Point → Point) : writesPoints s (s.updPoint n f) := by
  refine ⟨fun p hp => ?_, _, _, .of_same (by simp) (by simp)⟩
  cases p with
  | points | notices | onPlace => simp at hp
  | port => exact same_port (by simp)
  | _ => simp [State.same]

theorem writesPoints_flag : writesPoints s (flag .point n s) := by
  refine ⟨fun p hp => ?_, _, _, (Indicates.refl s).flag .point n⟩
  cases p with
  | points | notices | onPlace => simp at hp
  | port => exact same_port (by simp)
  | _ => simp [State.same]

theorem writesPoints_setCondition {c : Condition} {p : Point} (hp : Table.at? s.points n = some p)
    (hc : c ≠ p.condition → c.drops = false) : writesPoints s (setCondition n c s) := by
  obtain ⟨hplans, hincidents, ns, fs, hind, -⟩ := setCondition_others hp hc
  refine ⟨fun p hp => ?_, ns, fs, hind⟩
  cases p with
  | points | notices | onPlace => simp at hp
  | port => exact same_port (by simp)
  | _ => simp [State.same, hplans, hincidents]

theorem writesPoints_reselectPoint (r : Option Nat) : writesPoints s (reselectPoint r n s) := by
  obtain ⟨hplans, hincidents, ns, fs, hind⟩ := reselectPoint_others s r n
  refine ⟨fun p hp => ?_, ns, fs, hind⟩
  cases p with
  | points | notices | onPlace => simp at hp
  | port => exact same_port (by simp)
  | _ => simp [State.same, hplans, hincidents]

end

/-! ## The change of one point -/

/-- From `s` to `u` the record of point slot `n` is changed by `g`, and no other point changes. -/
abbrev pointBecomes (n : Nat) (g : Point → Point) (s u : State) : Prop := Table.becomes n g s.points u.points

theorem pointBecomes_updPoint (n : Nat) (g : Point → Point) (s : State) : pointBecomes n g s (s.updPoint n g) :=
  Table.becomes_upd n g s.points

theorem pointBecomes_setCondition (n : Nat) (c : Condition) (s : State) :
    pointBecomes n (fun p => { p with condition := c }) s (setCondition n c s) := at?_setCondition n s c

theorem pointBecomes_reselectPoint (r : Option Nat) (n : Nat) (s : State) :
    pointBecomes n (Point.reselected s r) s (reselectPoint r n s) := at?_reselectPoint s r n

/-! ## New calibration and a new group (R43) -/

/-- A point with new calibration. -/
def Point.recalibrated (z g : Option Nat) (p : Point) : Point :=
  { p with zero := z.getD p.zero, gain := g.getD p.gain, lastPressure := none, valid := false, candidate := none,
           count := 0, condition := if p.condition = .overRange then .ok else p.condition }

/-- A point with a profile group written, and its selection made where the group is another. -/
def Point.regrouped (s : State) (x : Nat) (p : Point) : Point :=
  if p.group = x then p else Point.reselected s none { p with group := x }

section
variable {s : State} {x : Nat} {p : Point}

theorem regrouped_same (h : p.group = x) : p.regrouped s x = p := if_pos h

@[simp] theorem regrouped_fields (s : State) (x : Nat) (p : Point) : (p.regrouped s x).tag = p.tag ∧
    (p.regrouped s x).segment = p.segment ∧ (p.regrouped s x).zero = p.zero ∧ (p.regrouped s x).gain = p.gain ∧
    (p.regrouped s x).group = x ∧ (p.regrouped s x).persistence = p.persistence ∧
    (p.regrouped s x).hysteresis = p.hysteresis ∧ (p.regrouped s x).staleLimit = p.staleLimit ∧
    (p.regrouped s x).lastRaw = p.lastRaw ∧ (p.regrouped s x).lastPressure = p.lastPressure ∧
    (p.regrouped s x).valid = p.valid ∧ (p.regrouped s x).lastContact = p.lastContact ∧
    (p.regrouped s x).band = p.band := by
  unfold Point.regrouped
  split
  · simp_all
  · rw [reselected_keeps]
    simp

theorem regrouped_selected (h : p.group ≠ x) : (p.regrouped s x).selected = selection s x := by
  rw [Point.regrouped, if_neg h, reselected_selected]

/-- A point with no run toward a band has none in another group. -/
theorem regrouped_run (hc : p.candidate = none) (hn : p.count = 0) :
    (p.regrouped s x).candidate = none ∧ (p.regrouped s x).count = 0 := by
  unfold Point.regrouped Point.reselected
  split
  · exact ⟨hc, hn⟩
  · split
    · exact ⟨hc, hn⟩
    · exact ⟨rfl, rfl⟩

end

section
variable (n : Nat) (s : State)

theorem recalibrate_becomes (z g : Option Nat) :
    pointBecomes n (Point.recalibrated z g) s (recalibrate n z g s) := by
  unfold recalibrate
  extract_lets s1
  have h1 := pointBecomes_updPoint n (fun p => { p with
    zero := z.getD p.zero, gain := g.getD p.gain, lastPressure := none, valid := false, candidate := none, count := 0 }) s
  split
  · rename_i h
    refine (h1.trans (pointBecomes_setCondition n .ok s1)).congr fun p hp => ?_
    have hover : p.condition = .overRange := by
      rw [Table.test_some (h1.self hp)] at h
      simpa using h
    simp [Point.recalibrated, hover]
  · rename_i h
    refine h1.congr fun p hp => ?_
    have hover : p.condition ≠ .overRange := by
      rw [Table.test_some (h1.self hp)] at h
      simpa using h
    simp [Point.recalibrated, hover]

theorem writesPoints_recalibrate (z g : Option Nat) : writesPoints s (recalibrate n z g s) := by
  unfold recalibrate
  extract_lets s1
  have h1 : writesPoints s s1 := writesPoints_updPoint n s _
  split
  · rename_i h
    obtain ⟨p, hp, -⟩ := (Table.test_iff _ _ _).1 h
    exact h1.trans (writesPoints_setCondition n s1 hp fun _ => rfl)
  · exact h1

theorem regroup_becomes (x : Nat) : pointBecomes n (Point.regrouped s x) s (regroup n x s) := by
  unfold regroup
  extract_lets differs s1
  have h1 := pointBecomes_updPoint n (fun p => { p with group := x }) s
  have hsame : Point.reselected s1 none = Point.reselected s none := reselected_congr rfl rfl none
  split
  · rename_i h
    refine (h1.trans (pointBecomes_reselectPoint none n s1)).congr fun p hp => ?_
    have hgroup : p.group ≠ x := by simpa [differs, Table.test_some hp] using h
    rw [Point.regrouped, if_neg hgroup, hsame]
  · rename_i h
    refine h1.congr fun p hp => ?_
    have hgroup : p.group = x := by simpa [differs, Table.test_some hp] using h
    rw [Point.regrouped, if_pos hgroup, ← hgroup]

theorem writesPoints_regroup (x : Nat) : writesPoints s (regroup n x s) := by
  unfold regroup
  extract_lets differs s1
  have h1 : writesPoints s s1 := writesPoints_updPoint n s _
  split
  · exact h1.trans (writesPoints_reselectPoint n s1 none)
  · exact h1

end

/-! ## ALTER POINT (R42, R43) -/

/-- A point with the calibration and the group given written. -/
def Point.reassigned (s : State) (z g group : Option Nat) (p : Point) : Point :=
  let p1 := if z.isSome || g.isSome then p.recalibrated z g else p
  match group with
  | none => p1
  | some x => p1.regrouped s x

/-- A point with the fields given written. -/
def Point.altered (s : State) (z g group k hyst stale : Option Nat) (p : Point) : Point :=
  { p.reassigned s z g group with
    persistence := (k.map (clamp 1 15)).getD (p.reassigned s z g group).persistence
    hysteresis := hyst.getD (p.reassigned s z g group).hysteresis
    staleLimit := (stale.map (clamp 1 60)).getD (p.reassigned s z g group).staleLimit }

section
variable (s : State) (z g : Option Nat) (p : Point)

theorem reassigned_fields (group : Option Nat) :
    (p.reassigned s z g group).tag = p.tag ∧ (p.reassigned s z g group).segment = p.segment ∧
    (p.reassigned s z g group).lastRaw = p.lastRaw ∧ (p.reassigned s z g group).lastContact = p.lastContact ∧
    (p.reassigned s z g group).band = p.band ∧ (p.reassigned s z g group).zero = z.getD p.zero ∧
    (p.reassigned s z g group).gain = g.getD p.gain ∧ (p.reassigned s z g group).group = group.getD p.group ∧
    (p.reassigned s z g group).persistence = p.persistence ∧ (p.reassigned s z g group).hysteresis = p.hysteresis ∧
    (p.reassigned s z g group).staleLimit = p.staleLimit := by
  by_cases h : (z.isSome || g.isSome) = true
  · cases group <;> simp [Point.reassigned, h, Point.recalibrated]
  · obtain ⟨rfl, rfl⟩ : z = none ∧ g = none := by simpa using h
    cases group <;> simp [Point.reassigned]

theorem reassigned_recalibrated (group : Option Nat) (h : (z.isSome || g.isSome) = true) :
    (p.reassigned s z g group).lastPressure = none ∧ (p.reassigned s z g group).valid = false ∧
      (p.reassigned s z g group).candidate = none ∧ (p.reassigned s z g group).count = 0 := by
  cases group with
  | none => simp [Point.reassigned, h, Point.recalibrated]
  | some x =>
    obtain ⟨hcandidate, hcount⟩ := regrouped_run (s := s) (x := x) (p := p.recalibrated z g) rfl rfl
    simp [Point.reassigned, h, hcandidate, hcount]
    simp [Point.recalibrated]

theorem reassigned_pressure (group : Option Nat) (h : (z.isSome || g.isSome) = false) :
    (p.reassigned s z g group).lastPressure = p.lastPressure ∧ (p.reassigned s z g group).valid = p.valid := by
  cases group <;> simp [Point.reassigned, h]

/-- With the group that it has, a point keeps its selection. -/
theorem reassigned_same_group {group : Option Nat} (h : group.getD p.group = p.group) :
    p.reassigned s z g group = if z.isSome || g.isSome then p.recalibrated z g else p := by
  cases group with
  | none => rfl
  | some x =>
    refine regrouped_same ?_
    split <;> exact h.symm

theorem reassigned_other_group {group : Option Nat} (h : group.getD p.group ≠ p.group) :
    (p.reassigned s z g group).selected = selection s (group.getD p.group) := by
  cases group with
  | none => simp at h
  | some x =>
    refine regrouped_selected ?_
    split <;> exact Ne.symm h

end

section
variable (n : Nat) (z g group k hyst stale : Option Nat) (s : State)

theorem alterFields_becomes :
    pointBecomes n (Point.altered s z g group k hyst stale) s (alterFields n z g group k hyst stale s) := by
  unfold alterFields
  extract_lets s1 s2
  have h1 : pointBecomes n (fun p => if z.isSome || g.isSome then p.recalibrated z g else p) s s1 := by
    unfold s1
    split
    · exact recalibrate_becomes n s z g
    · exact .of_eq rfl
  have hsame : selection s1 = selection s := by
    funext x
    unfold s1
    split <;> simp [selection, recalibrate]
  have h2 : pointBecomes n (Point.reassigned s z g group) s s2 := by
    unfold s2
    cases group with
    | none => exact h1
    | some x =>
      have hregrouped : Point.regrouped s1 x = Point.regrouped s x := by
        funext p
        simp [Point.regrouped, Point.reselected, hsame]
      exact h1.trans (by simpa only [hregrouped] using regroup_becomes n s1 x)
  have h3 := h2.trans (pointBecomes_updPoint n (fun p =>
    { p with persistence := (k.map (clamp 1 15)).getD p.persistence, hysteresis := hyst.getD p.hysteresis,
             staleLimit := (stale.map (clamp 1 60)).getD p.staleLimit }) s2)
  refine h3.same ?_
  simp

/-- The point is flagged after every change that is made of it. -/
theorem alterFields_flags : ∃ t, writesPoints s t ∧ alterFields n z g group k hyst stale s = flag .point n t := by
  unfold alterFields
  extract_lets s1 s2
  have h1 : writesPoints s s1 := by
    unfold s1
    split
    · exact writesPoints_recalibrate n s z g
    · exact .refl s
  have h2 : writesPoints s1 s2 := by
    unfold s2
    cases group with
    | none => exact .refl s1
    | some x => exact writesPoints_regroup n s1 x
  exact ⟨_, (h1.trans h2).trans (writesPoints_updPoint n s2 _), rfl⟩

end

theorem writesPoints.flag {s t : State} (h : writesPoints s t) (n : Nat) :
    changesOnly [.points, .notices, .onPlace] s (flag .point n t) ∧ flagsIf .point n true s (flag .point n t) := by
  obtain ⟨hchanges, ns, fs, hind⟩ := h
  exact ⟨hchanges.trans (writesPoints_flag n t).1, by simpa using (hind.flag .point n).flags .point n⟩

/-- Settles O33: the fields given, one group of them after the other. -/
theorem alterPointWrites : Obligations.AlterPointWrites := by
  unfold Obligations.AlterPointWrites
  intro h n z g group k hyst stale s p hs hw hgiven hm hn hgain hgroup hp hwindow htest
  have hnot : ¬ (z = none && g = none && group = none && k = none && hyst = none && stale = none) = true := by
    intro hnone
    simp only [Bool.and_eq_true, decide_eq_true_eq] at hnone
    simp [hnone] at hgiven
  obtain ⟨u, hu⟩ : ∃ u, alterFields n z g group k hyst stale s = u := ⟨_, rfl⟩
  have hclamped : (k.any (fun x => clamp 1 15 x != x) || stale.any (fun x => clamp 1 60 x != x)) =
      (k.any (fun x => decide (x < 1 ∨ 15 < x)) || stale.any (fun x => decide (x < 1 ∨ 60 < x))) := by
    simp only [bne_eq_decide_ne, clamp_ne_iff]
  have hact : alterPoint h n z g group k hyst stale s = (u, .doneClamped
      (k.any (fun x => decide (x < 1 ∨ 15 < x)) || stale.any (fun x => decide (x < 1 ∨ 60 < x))) (pointFields u n)) := by
    have htest' : (!((z.isSome || g.isSome) && underTest s n)) = true := by
      rcases htest with h0 | h0 <;> simp [h0]
    rw [alterPoint, if_neg hnot, tested_passed, hu, hclamped]
    simp only [List.forall_mem_cons, List.not_mem_nil, false_imp_iff, implies_true, and_true, running_iff, hm,
      Table.has_some hp, Table.test_some hp, hwindow, htest', true_and]
    simpa [Config.pointSlots, hn, Option.all_eq_true] using ⟨hgain, hgroup⟩
  have hbecomes := alterFields_becomes n z g group k hyst stale s
  obtain ⟨t, ht, hflag⟩ := alterFields_flags n z g group k hyst stale s
  rw [hu] at hbecomes hflag
  obtain ⟨hchanges, hflags⟩ := ht.flag n
  obtain ⟨htag, hseg, hraw, hcontact, hband, hzero, hgain', hgroup', hk, hh, hstale⟩ := reassigned_fields s z g p group
  refine ⟨.doneClamped _ (pointFields u n), u, p.altered s z g group k hyst stale, ?_, rfl, rfl, hflag ▸ hchanges,
    hflag ▸ hflags, fun m => hbecomes.other, hbecomes.self hp, htag, hseg, hraw, hcontact, hband, hzero, hgain', hgroup', ?_, ?_, ?_,
    reassigned_recalibrated s z g p group, reassigned_pressure s z g p group, fun hsame => ?_, fun hother => ?_⟩
  · rw [exec, execAlterPoint, request_ready hs hw, hact]
    rfl
  · simp [Point.altered, hk, funext (clamp_eq (lo := 1) (hi := 15) (by omega))]
  · simp [Point.altered, hh]
  · simp [Point.altered, hstale, funext (clamp_eq (lo := 1) (hi := 60) (by omega))]
  · have hq := reassigned_same_group s z g p (hgroup'.symm.trans hsame)
    simp only [Point.altered, hq]
    by_cases hcal : (z.isSome || g.isSome) = true
    · rw [if_pos hcal]
      exact ⟨rfl, by simp [Point.recalibrated, hcal], fun h => absurd hcal (by simp [h])⟩
    · rw [if_neg hcal]
      exact ⟨rfl, by simp [hcal], fun _ => ⟨rfl, rfl⟩⟩
  · exact (reassigned_other_group s z g p fun heq => hother (hgroup'.trans heq)).trans (by rw [← hgroup']; rfl)

end Sys2Proof.Machine
end

section
/-! SUPPORT. The timed work of the Supervisor, the Register and the Selector at a second event (R56, R101, R112), and
O42. -/

namespace Sys2Proof.Machine

/-! ## Work that is owed (R173) -/

section
variable {w : TimedWork} {s : State}

theorem doWork_unowed (h : w ∉ s.clock.due) : doWork w s = s := if_neg (by simpa using h)

/-- The state with a block's work taken off the list of what is owed. -/
def State.relieved (s : State) (w : TimedWork) : State :=
  s.setClock { s.clock with due := s.clock.due.filter (fun x => x != w) }

theorem doWork_owed (h : w ∈ s.clock.due) : doWork w s = workOf w (s.relieved w) := if_pos (by simpa using h)

theorem changesOnly_relieved : changesOnly [.clock] s (s.relieved w) := changesOnly_setClock

end

/-! ## Staleness (R56) -/

section
variable (s : State)

theorem at?_stalePoints (hs : Table.rises s.points) (n : Nat) : Table.at? (stalePoints s).points n =
    (Table.at? s.points n).map (fun p =>
      if p.staleLimit * 60 < s.clock.second - p.lastContact then { p with condition := .stale } else p) := by
  rw [stalePoints, at?_foldl_change (field := State.points) (f := fun n s => setCondition n .stale s)
    (g := fun p => { p with condition := .stale }) (fun _ => rfl) (fun n s => at?_setCondition n s .stale),
    Table.map_of_mem_which hs]
  congr 1
  funext p
  have hlapsed : lapsed s p = true ↔ p.condition ≠ .stale ∧ p.staleLimit * 60 < s.clock.second - p.lastContact := by
    simp only [lapsed, Bool.and_eq_true, bne_iff_ne, decide_eq_true_iff]
    rfl
  by_cases hc : p.condition = .stale
  · have hsame : { p with condition := .stale } = p := by rw [← hc]
    simp [hlapsed, hsame]
  · simp [hlapsed, hc]

theorem changesOnly_stalePoints : changesOnly [.points, .plans, .notices, .onPlace] s (stalePoints s) := by
  have hincidents : (stalePoints s).incidents = s.incidents :=
    kept_foldl (field := State.incidents) (fun s n => (setCondition_does n s .stale).1) _ s
  intro p hp
  cases p with
  | points | plans | notices | onPlace => simp at hp
  | port => exact same_port (by simp)
  | _ => simp [State.same, hincidents]

/-! ## Overdue incidents (R101) -/

theorem at?_markOverdue (n m : Nat) : Table.at? (markOverdue n s).incidents m =
    if m = n then (Table.at? s.incidents m).map (fun i => { i with overdue := true }) else Table.at? s.incidents m :=
  Table.at?_upd s.incidents n m (fun i => { i with overdue := true })

theorem at?_overdueIncidents (hs : Table.rises s.incidents) (n : Nat) : Table.at? (overdueIncidents s).incidents n =
    (Table.at? s.incidents n).map (fun i =>
      if i.attendance ≠ .attended ∧ i.deadline ≤ s.clock.second then { i with overdue := true } else i) := by
  rw [overdueIncidents, at?_foldl_change (field := State.incidents) (g := fun i => { i with overdue := true })
    (fun _ => rfl) (fun n s => at?_markOverdue s n), Table.map_of_mem_which hs]
  congr 1
  funext i
  have hreaches : reachesDeadline s.now i = true ↔
      i.overdue = false ∧ i.attendance ≠ .attended ∧ i.deadline ≤ s.clock.second := by
    simp only [reachesDeadline, Bool.and_eq_true, Bool.not_eq_true', bne_iff_ne, decide_eq_true_iff, and_assoc]
    rfl
  cases ho : i.overdue with
  | true =>
    have hsame : { i with overdue := true } = i := by rw [← ho]
    simp [hsame]
  | false => simp [hreaches, ho]

theorem changesOnly_overdueIncidents : changesOnly [.incidents, .notices, .onPlace] s (overdueIncidents s) := by
  intro p hp
  cases p with
  | incidents | notices | onPlace => simp at hp
  | port => exact same_port (by simp)
  | _ => simp [State.same]

end

/-! ## Offers that expire (R112) -/

/-- An incident's offer has reached its expiry second. -/
def Incident.lapses (i : Incident) (now : Nat) : Bool := i.attendance = .offered && i.offerExpiry.any (fun e => e ≤ now)

theorem Incident.lapses_iff {i : Incident} {now : Nat} :
    i.lapses now = true ↔ i.attendance = .offered ∧ ∃ e, i.offerExpiry = some e ∧ e ≤ now := by
  simp [Incident.lapses, Option.any_eq_true]

/-- An incident with its offer ended. -/
def Incident.unoffered (i : Incident) : Incident :=
  { i with attendance := .unassigned, offerDesk := none, offerExpiry := none }

/-- An incident once the offers of the desks of a list that reached their expiry have lapsed. -/
def Incident.afterExpiry (now : Nat) (l : List Nat) (i : Incident) : Incident :=
  if i.lapses now && i.offerDesk.any (fun d => l.contains d) then i.unoffered else i

/-- From `s` to `t` the offers of the desks of `l` that have reached their expiry have lapsed, and nothing else. -/
structure OffersLapsed (s : State) (l : List Nat) (t : State) : Prop where
  clock : t.clock = s.clock
  incidents : ∀ n, Table.at? t.incidents n = (Table.at? s.incidents n).map (Incident.afterExpiry s.clock.second l)
  offers : ∀ d, Table.at? t.dispatch.offers d = (Table.at? s.dispatch.offers d).filter
    (fun n => !(l.contains d && Table.test s.incidents n (fun i => i.lapses s.clock.second)))

section
variable {now d : Nat} {l : List Nat} {i : Incident}

theorem afterExpiry_cons_stays (h : i.lapses now = true → i.offerDesk = some d → d ∈ l) :
    i.afterExpiry now (d :: l) = i.afterExpiry now l := by
  unfold Incident.afterExpiry
  cases hl : i.lapses now with
  | false => rfl
  | true =>
    cases hd : i.offerDesk with
    | none => rfl
    | some x =>
      by_cases e : x = d
      · subst e; simp [h hl hd]
      · simp [e]

theorem afterExpiry_ended (hl : i.lapses now = true) (hd : i.offerDesk = some d) (hm : d ∈ l) :
    i.afterExpiry now l = i.unoffered := by
  simp [Incident.afterExpiry, hl, hd, hm]

theorem afterExpiry_kept (h : i.lapses now = true → i.offerDesk = some d → d ∉ l) (hd : i.offerDesk = some d) :
    i.afterExpiry now l = i := by
  unfold Incident.afterExpiry
  cases hl : i.lapses now with
  | false => rfl
  | true => simp [hd, h hl hd]

end

theorem attend_incidents (a : Attendance) (n : Nat) (s : State) : (attend a n s).incidents =
    Table.upd s.incidents n (fun i => { i with attendance := a, offerDesk := none, offerExpiry := none }) := by
  simp [attend]

theorem OffersLapsed.nil (s : State) : OffersLapsed s [] s where
  clock := rfl
  incidents n := by
    have hid : Incident.afterExpiry s.clock.second [] = id := by
      funext i
      cases hd : i.offerDesk <;> simp [Incident.afterExpiry, hd]
    simp [hid]
  offers d := by cases Table.at? s.dispatch.offers d <;> rfl

section
variable {s t : State} {l : List Nat} {d : Nat} (ha : s.offersAgree) (h : OffersLapsed s l t)
include ha h

/-- A desk whose offer does not lapse, or has lapsed before, changes nothing. -/
theorem OffersLapsed.stays (hd : ∀ n, Table.at? s.dispatch.offers d = some n →
    Table.test s.incidents n (fun i => i.lapses s.clock.second) = true → d ∈ l) : OffersLapsed s (d :: l) t where
  clock := h.clock
  incidents n := by
    rw [h.incidents]
    refine Option.map_congr fun i hi => (afterExpiry_cons_stays fun hl hdesk => ?_).symm
    obtain ⟨d', hdesk', hoffer⟩ := ha.2 n i hi (Incident.lapses_iff.1 hl).1
    obtain rfl : d' = d := Option.some.inj (hdesk'.symm.trans hdesk)
    exact hd n hoffer (by rwa [Table.test_some hi])
  offers x := by
    rw [h.offers]
    by_cases hx : x = d
    · subst hx
      cases hn : Table.at? s.dispatch.offers x with
      | none => rfl
      | some n =>
        cases hl : Table.test s.incidents n (fun i => i.lapses s.clock.second) with
        | false => simp [Option.filter, hl]
        | true => simp [Option.filter, hl, hd n hn hl]
    · simp [hx]

/-- The expiry of one desk's offer (R112). -/
theorem OffersLapsed.expireOffer (d : Nat) : OffersLapsed s (d :: l) (expireOffer d t) := by
  unfold Machine.expireOffer
  cases hoff : Table.at? t.dispatch.offers d with
  | none =>
    refine h.stays ha fun n hn hl => ?_
    have := h.offers d
    rw [hoff, hn] at this
    simpa [Option.filter, hl] using this
  | some n =>
    have hfilter := h.offers d
    rw [hoff, eq_comm, Option.filter_eq_some_iff] at hfilter
    obtain ⟨hn, hlive⟩ := hfilter
    obtain ⟨i, hi, hoffered, hdesk⟩ := ha.1 d n hn
    have hlive' : i.lapses s.clock.second = true → d ∉ l := by
      intro hl
      simpa [Table.test_some hi, hl] using hlive
    have hti : Table.at? t.incidents n = some i := by
      rw [h.incidents, hi, Option.map_some, afterExpiry_kept (fun hl _ => hlive' hl) hdesk]
    have htest : Table.test t.incidents n (fun i => i.offerExpiry.any (fun e => e ≤ t.now)) = i.lapses s.clock.second := by
      simp [Table.test_some hti, State.now, h.clock, Incident.lapses, hoffered]
    simp only [htest]
    split
    · rename_i hl
      refine ⟨by simpa using h.clock, fun m => ?_, fun x => ?_⟩
      · have hat : Table.at? (attend .unassigned n (clearOffer d t)).incidents m =
            if m = n then (Table.at? t.incidents m).map Incident.unoffered else Table.at? t.incidents m := by
          rw [attend_incidents, Table.at?_upd]
          rfl
        rw [hat]
        split
        · subst_vars
          rw [hti, hi, Option.map_some, Option.map_some, afterExpiry_ended hl hdesk List.mem_cons_self]
        · rename_i hm
          rw [h.incidents]
          refine Option.map_congr fun j hj => (afterExpiry_cons_stays fun hlj hdj => ?_).symm
          obtain ⟨d', hd', hoffer⟩ := ha.2 m j hj (Incident.lapses_iff.1 hlj).1
          obtain rfl : d' = d := Option.some.inj (hd'.symm.trans hdj)
          exact absurd (Option.some.inj (hoffer.symm.trans hn)) hm
      · have hat : (attend .unassigned n (clearOffer d t)).dispatch.offers = Table.del t.dispatch.offers d := by
          simp [clearOffer]
        rw [hat, Table.at?_del]
        by_cases hx : x = d
        · subst hx
          simp [hn, Option.filter, Table.test_some hi, hl]
        · rw [if_neg hx, h.offers]
          simp [hx]
    · rename_i hl
      refine h.stays ha fun m hm hlm => ?_
      obtain rfl : n = m := Option.some.inj (hn.symm.trans hm)
      rw [Table.test_some hi] at hlm
      exact absurd hlm hl

/-- The expiry of the offers of a list of desks. -/
theorem OffersLapsed.foldl (k : List Nat) :
    OffersLapsed s (k.reverse ++ l) (k.foldl (fun s d => Machine.expireOffer d s) t) := by
  induction k generalizing l t with
  | nil => exact h
  | cons d k ih =>
    rw [List.reverse_cons, List.append_assoc, List.foldl_cons]
    exact ih (h.expireOffer ha d)

end

theorem expireOffers_lapse {s : State} (ha : s.offersAgree) :
    OffersLapsed s (Table.keys s.dispatch.offers).reverse (expireOffers s) := by
  have h := (OffersLapsed.nil s).foldl ha (Table.keys s.dispatch.offers)
  rwa [List.append_nil] at h

theorem changesOnly_expireOffers (s : State) :
    changesOnly [.incidents, .dispatch, .notices, .onPlace] s (expireOffers s) := by
  intro p hp
  cases p with
  | incidents | dispatch | notices | onPlace => simp at hp
  | port => exact same_port (by simp)
  | _ => simp [State.same]

theorem unheld_partStep {s : State} (hs : s.port.held = false) (act : State → State) : partStep act s = .next (act s) := by
  simp [partStep, hs]

/-- A block's timed work at a second event: nothing where it is not owed, and once where it is (R173). -/
theorem timedCommand_works {s : State} {w : TimedWork} {l : List Part} {P : State → Prop}
    (hl : changesOnly (l ++ [.notices, .onPlace]) (s.relieved w) (workOf w (s.relieved w)))
    (hclock : (workOf w (s.relieved w)).clock = (s.relieved w).clock) (hP : P (workOf w (s.relieved w))) :
    (w ∉ s.clock.due → doWork w s = s) ∧
    (w ∈ s.clock.due → ∃ u, doWork w s = u ∧ changesOnly (l ++ [.clock, .notices, .onPlace]) s u ∧
      u.clock = { s.clock with due := s.clock.due.filter (fun x => x != w) } ∧ P u) := by
  refine ⟨doWork_unowed, fun h => ⟨_, doWork_owed h, ?_, hclock, hP⟩⟩
  have h1 := changesOnly_relieved (s := s) (w := w)
  exact (h1.mono (by simp)).trans (hl.mono fun x hx => by simp at hx ⊢; tauto)

/-- Settles O42: the work of three blocks, each on the records as they stand. -/
theorem timedWorkReachesDeadlines : Obligations.TimedWorkReachesDeadlines := by
  unfold Obligations.TimedWorkReachesDeadlines
  intro s hheld htables hagree works
  have hworks {c : Instr} {w : TimedWork} {l : List Part} {P : State → Prop} (hc : exec c s = .next (doWork w s))
      (hl : changesOnly (l ++ [.notices, .onPlace]) (s.relieved w) (workOf w (s.relieved w)))
      (hP : P (workOf w (s.relieved w))) : works c w l P := by
    obtain ⟨hnot, howed⟩ := timedCommand_works hl (by simp) hP
    refine ⟨fun h => by rw [hc, hnot h], fun h => ?_⟩
    obtain ⟨u, hu, hrest⟩ := howed h
    exact ⟨u, by rw [hc, hu], hrest⟩
  refine ⟨hworks (unheld_partStep hheld _) (changesOnly_stalePoints _) (at?_stalePoints _ htables.keysRise.points),
    hworks (unheld_partStep hheld _) (changesOnly_overdueIncidents _)
      (at?_overdueIncidents _ htables.keysRise.incidents),
    hworks (unheld_partStep hheld _) (changesOnly_expireOffers _) ?_⟩
  intro lapses
  have hlapses (i : Incident) : i.lapses s.clock.second = true ↔ lapses i := Incident.lapses_iff
  obtain ⟨-, hincidents, hoffers⟩ := expireOffers_lapse (s := s.relieved .expiry) hagree
  refine ⟨fun n i hi hnot => ?_, fun n i hi hl => ?_, fun n hn => ?_, fun d n i hd hi => ⟨fun hl => ?_, fun hnot => ?_⟩,
    expireOffers_offerTime _⟩
  · refine (hincidents n).trans ((congrArg _ hi).trans ?_)
    have hlive : i.lapses s.clock.second = false := by rw [← Bool.not_eq_true, hlapses]; exact hnot
    simp [Incident.afterExpiry, State.relieved, hlive]
  · obtain ⟨d, hdesk, hd⟩ := hagree.2 n i hi hl.1
    refine (hincidents n).trans ((congrArg _ hi).trans (congrArg some ?_))
    exact afterExpiry_ended ((hlapses i).2 hl) hdesk (List.mem_reverse.2 (Table.mem_keys_of_at? hd))
  · exact (hincidents n).trans (congrArg _ hn)
  · have hmem : d ∈ Table.keys s.dispatch.offers := Table.mem_keys_of_at? hd
    refine (hoffers d).trans ((congrArg _ hd).trans ?_)
    simp [Option.filter, State.relieved, hmem, Table.test_some hi, (hlapses i).2 hl]
  · have hlive : i.lapses s.clock.second = false := by rw [← Bool.not_eq_true, hlapses]; exact hnot
    refine (hoffers d).trans ((congrArg _ hd).trans ?_)
    simp [Option.filter, State.relieved, Table.test_some hi, hlive]

end Sys2Proof.Machine
end

section
/-! SUPPORT. Readings and holds (R44 to R47, R53 to R55): the point that they leave, and O30. -/

namespace Sys2Proof.Machine

/-! ## Conversion (R45) -/

theorem convert_eq (z g r : Nat) :
    convert z g r = (min 1048575 (rawPressure z g r), decide (1048575 < rawPressure z g r)) := by
  change (if 1048575 < rawPressure z g r then (1048575, true) else (rawPressure z g r, false)) = _
  split
  · rename_i h
    simp [h, h.le]
  · rename_i h
    simp [h, not_lt.1 h]

/-! ## Band evaluation (R54, R55) -/

/-- A point as band evaluation with pressure `x` and `m` repetitions leaves it. -/
def Point.evaluated (e : Profile) (x m : Nat) (p : Point) : Point :=
  let c := persist p (targetBand e p.hysteresis p.band x) m
  match c.1 with
  | some b => if p.persistence ≤ c.2 then { p with band := b, candidate := none, count := 0 }
    else { p with candidate := c.1, count := c.2 }
  | none => { p with candidate := none, count := 0 }

section
variable {e : Profile} {x m : Nat} {p : Point}

/-- The persistence count that a pressure off the band leads to. -/
def Point.run (p : Point) (t : Band) (m : Nat) : Nat :=
  if p.candidate = some t then min 15 (p.count + m) else min 15 m

theorem persist_at_band (h : targetBand e p.hysteresis p.band x = p.band) :
    persist p (targetBand e p.hysteresis p.band x) m = (none, 0) := if_pos h

theorem persist_off_band {t : Band} (h : t ≠ p.band) : persist p t m = (some t, p.run t m) := by
  rw [persist, if_neg h, Point.run]
  split <;> rfl

theorem evaluated_at_band (h : targetBand e p.hysteresis p.band x = p.band) :
    p.evaluated e x m = { p with candidate := none, count := 0 } := by
  simp only [Point.evaluated, persist_at_band h]

theorem evaluated_moves (h : targetBand e p.hysteresis p.band x ≠ p.band)
    (hc : p.persistence ≤ p.run (targetBand e p.hysteresis p.band x) m) :
    p.evaluated e x m = { p with band := targetBand e p.hysteresis p.band x, candidate := none, count := 0 } := by
  simp only [Point.evaluated, persist_off_band h, if_pos hc]

theorem evaluated_counts (h : targetBand e p.hysteresis p.band x ≠ p.band)
    (hc : ¬ p.persistence ≤ p.run (targetBand e p.hysteresis p.band x) m) :
    p.evaluated e x m = { p with candidate := some (targetBand e p.hysteresis p.band x)
                                 count := p.run (targetBand e p.hysteresis p.band x) m } := by
  simp only [Point.evaluated, persist_off_band h, if_neg hc]

/-- Band evaluation writes the band and the run toward one alone. -/
theorem evaluated_keeps (e : Profile) (x m : Nat) (p : Point) : p.evaluated e x m =
    { p with band := (p.evaluated e x m).band, candidate := (p.evaluated e x m).candidate,
             count := (p.evaluated e x m).count } := by
  unfold Point.evaluated
  dsimp only
  split
  · split <;> rfl
  · rfl

/-- Band evaluation writes the point as it leaves it; where the band changed, it marks the point and hands the change
to the Register (R59, R60). -/
theorem evaluateBand_eq {n : Nat} {s : State} (hp : Table.at? s.points n = some p) : evaluateBand n e x m s =
    if (p.evaluated e x m).band = p.band then s.putPoint n (p.evaluated e x m)
    else bandHandOff p.segment (p.evaluated e x m).band (markPoint n (s.putPoint n (p.evaluated e x m))) := by
  unfold evaluateBand
  rw [hp]
  by_cases h : targetBand e p.hysteresis p.band x = p.band
  · rw [evaluated_at_band h, if_pos rfl]
    simp only [persist_at_band h]
  · by_cases hc : p.persistence ≤ p.run (targetBand e p.hysteresis p.band x) m
    · rw [evaluated_moves h hc, if_neg h]
      simp only [persist_off_band h, if_pos hc]
    · rw [evaluated_counts h hc, if_pos rfl]
      simp only [persist_off_band h, if_neg hc]

end

theorem evaluateBand_becomes (n : Nat) (e : Profile) (x m : Nat) (s : State) :
    pointBecomes n (Point.evaluated e x m) s (evaluateBand n e x m s) := by
  cases hp : Table.at? s.points n with
  | none =>
    have : evaluateBand n e x m s = s := by rw [evaluateBand, hp]
    rw [this]
    exact .free hp _
  | some p =>
    rw [evaluateBand_eq hp]
    have hput : pointBecomes n (Point.evaluated e x m) s (s.putPoint n (p.evaluated e x m)) := Table.becomes_put hp _
    split
    · exact hput
    · exact hput.same (by simp)

/-! ## A converted pressure (R46) -/

/-- A point with a converted pressure, and the condition that a reading of it gives. -/
def Point.converted (conv : Nat × Bool) (p : Point) : Point :=
  { p with lastPressure := some conv.1, valid := true, condition := readingCondition p.selected conv.2 }

/-- A point as a converted pressure with `m` repetitions leaves it. -/
def Point.pressured (profiles : Table Profile) (conv : Nat × Bool) (m : Nat) (p : Point) : Point :=
  match p.selected.bind (Table.at? profiles) with
  | some e => (p.converted conv).evaluated e conv.1 m
  | none => p.converted conv

section
variable {profiles : Table Profile} {conv : Nat × Bool} {m : Nat} {p : Point}

theorem pressured_unselected (h : p.selected.bind (Table.at? profiles) = none) :
    p.pressured profiles conv m = p.converted conv := by rw [Point.pressured, h]

theorem pressured_selected {e : Profile} (h : p.selected.bind (Table.at? profiles) = some e) :
    p.pressured profiles conv m = (p.converted conv).evaluated e conv.1 m := by rw [Point.pressured, h]

theorem pressured_keeps (profiles : Table Profile) (conv : Nat × Bool) (m : Nat) (p : Point) :
    p.pressured profiles conv m = { p with
      lastPressure := some conv.1, valid := true, condition := readingCondition p.selected conv.2
      band := (p.pressured profiles conv m).band, candidate := (p.pressured profiles conv m).candidate
      count := (p.pressured profiles conv m).count } := by
  unfold Point.pressured
  split
  · exact evaluated_keeps _ _ _ _
  · rfl

theorem pressured_condition (profiles : Table Profile) (conv : Nat × Bool) (m : Nat) (p : Point) :
    (p.pressured profiles conv m).condition = readingCondition p.selected conv.2 := by rw [pressured_keeps]

end

section
variable (n : Nat) (conv : Nat × Bool) (m : Nat) (s : State)

/-- The state in which the band is evaluated: the pressure is written, and the condition that it gives. -/
def conditionStage (p : Point) : State :=
  setCondition n (readingCondition p.selected conv.2)
    (s.updPoint n (fun q => { q with lastPressure := some conv.1, valid := true }))

/-- The state that a converted pressure hands to the tests. -/
def bandStage (p : Point) : State :=
  match p.selected.bind (Table.at? s.profiles) with
  | some e => evaluateBand n e conv.1 m (conditionStage n conv s p)
  | none => conditionStage n conv s p

theorem applyPressure_eq {p : Point} (hp : Table.at? s.points n = some p) : applyPressure n conv m s =
    testReadings n conv.1 (readingCondition p.selected conv.2) (bandStage n conv m s p) := by
  have hprofiles : (setCondition n (readingCondition p.selected conv.2)
      (s.updPoint n (fun q => { q with lastPressure := some conv.1, valid := true }))).profiles = s.profiles := by simp
  rw [applyPressure, hp]
  simp only [bandStage, hprofiles]
  rfl

theorem conditionStage_becomes {p : Point} (hp : Table.at? s.points n = some p) :
    pointBecomes n (Point.converted conv) s (conditionStage n conv s p) := by
  refine ((pointBecomes_updPoint n _ s).trans (pointBecomes_setCondition n _ _)).congr fun q hq => ?_
  obtain rfl : p = q := Option.some.inj (hp.symm.trans hq)
  rfl

theorem bandStage_becomes {p : Point} (hp : Table.at? s.points n = some p) :
    pointBecomes n (Point.pressured s.profiles conv m) s (bandStage n conv m s p) := by
  have h1 := conditionStage_becomes n conv s hp
  unfold bandStage
  cases he : p.selected.bind (Table.at? s.profiles) with
  | none =>
    refine h1.congr fun q hq => ?_
    obtain rfl : p = q := Option.some.inj (hp.symm.trans hq)
    exact (pressured_unselected he).symm
  | some e =>
    refine (h1.trans (evaluateBand_becomes n e conv.1 m _)).congr fun q hq => ?_
    obtain rfl : p = q := Option.some.inj (hp.symm.trans hq)
    exact (pressured_selected he).symm

theorem applyPressure_becomes : pointBecomes n (Point.pressured s.profiles conv m) s (applyPressure n conv m s) := by
  cases hp : Table.at? s.points n with
  | none =>
    have : applyPressure n conv m s = s := by rw [applyPressure, hp]
    rw [this]
    exact .free hp _
  | some p =>
    rw [applyPressure_eq n conv m s hp]
    exact (bandStage_becomes n conv m s hp).same (by simp)

end

/-! ## Readings and holds (R44, R47) -/

theorem isRail_iff {r : Nat} : isRail r = true ↔ r = 0 ∨ r = 65535 := by simp [isRail]

/-- A state in which a point has been heard of, by a reading with a raw value or by a hold. -/
def State.heard (s : State) (n : Nat) (raw : Option Nat) : State :=
  s.updPoint n (fun p => { p with lastContact := s.now, lastRaw := raw.orElse fun _ => p.lastRaw })

/-- A point as it is then. -/
def Point.heard (s : State) (raw : Option Nat) (p : Point) : Point :=
  { p with lastContact := s.clock.second, lastRaw := raw.orElse fun _ => p.lastRaw }

section
variable {n : Nat} {s : State} {p : Point} (hp : Table.at? s.points n = some p)

theorem heard_becomes (raw : Option Nat) : pointBecomes n (Point.heard s raw) s (s.heard n raw) :=
  pointBecomes_updPoint n _ s

include hp

theorem at?_heard (raw : Option Nat) : Table.at? (s.heard n raw).points n = some (p.heard s raw) :=
  (heard_becomes raw).self hp

theorem reading_rail {r : Nat} (h : isRail r = true) :
    reading n r s = setCondition n .sensorFault (s.heard n (some r)) := by
  rw [reading, hp]
  exact if_pos h

theorem reading_pressure {r : Nat} (h : ¬ isRail r = true) :
    reading n r s = applyPressure n (convert p.zero p.gain r) 1 (s.heard n (some r)) := by
  rw [reading, hp]
  exact if_neg h

theorem holdReading_discarded {k : Nat} (h : p.valid = false ∨ p.lastRaw = none) : holdReading n k s = s := by
  rw [holdReading, hp]
  dsimp only
  split
  · simp_all
  · rfl

section
variable {k r : Nat} (hv : p.valid = true) (hr : p.lastRaw = some r)
include hv hr

theorem holdReading_rail (h : isRail r = true) : holdReading n k s =
    if p.condition = .stale then setCondition n .sensorFault (s.heard n none) else s.heard n none := by
  rw [holdReading, hp]
  simp only [hv, hr, h, if_true]
  rfl

theorem holdReading_pressure (h : ¬ isRail r = true) :
    holdReading n k s = applyPressure n (convert p.zero p.gain r) (k + 1) (s.heard n none) := by
  rw [holdReading, hp]
  simp only [hv, hr, h, Bool.false_eq_true, if_false]
  rfl

end

end

/-! ## The point that a reading leaves -/

section
variable (profiles : Table Profile) (m r : Nat) (p : Point)

/-- What a raw value off the rails makes of its point, given `m` times over (R45, R46, R54, R55). -/
theorem pressured_does :
    let full := if r ≤ p.zero then 0 else ((r - p.zero) * p.gain + 512) / 1024
    let x := min 1048575 full
    let q := p.pressured profiles (convert p.zero p.gain r) m
    q = { p with lastPressure := some x, valid := true, condition := q.condition, band := q.band
                 candidate := q.candidate, count := q.count } ∧
    (p.selected = none → q.condition = .unbanded ∧ q.band = p.band ∧ q.candidate = p.candidate ∧ q.count = p.count) ∧
    ∀ k e, p.selected = some k → Table.at? profiles k = some e →
      let t := targetBand e p.hysteresis p.band x
      let c := if p.candidate = some t then min 15 (p.count + m) else min 15 m
      q.condition = (if 1048575 < full then .overRange else .ok) ∧
      (t = p.band → q.band = p.band ∧ q.candidate = none ∧ q.count = 0) ∧
      (t ≠ p.band → p.persistence ≤ c → q.band = t ∧ q.candidate = none ∧ q.count = 0) ∧
      (t ≠ p.band → c < p.persistence → q.band = p.band ∧ q.candidate = some t ∧ q.count = c) := by
  intro full x q
  have hconv : convert p.zero p.gain r = (x, decide (1048575 < full)) := convert_eq _ _ _
  have hq : q = p.pressured profiles (x, decide (1048575 < full)) m := by rw [← hconv]
  have hcondition : q.condition = readingCondition p.selected (decide (1048575 < full)) := by
    rw [hq, pressured_condition]
  refine ⟨?_, fun hnone => ?_, fun k e hsel he => ?_⟩
  · rw [hcondition, hq]
    exact pressured_keeps _ _ _ _
  · rw [hq, pressured_unselected (by rw [hnone]; rfl), Point.converted, hnone]
    exact ⟨rfl, rfl, rfl, rfl⟩
  · intro t c
    rw [pressured_selected (e := e) (by rw [hsel]; exact he)] at hq
    refine ⟨?_, fun ht => ?_, fun ht hc => ?_, fun ht hc => ?_⟩
    · rw [hcondition, hsel]
      by_cases hover : 1048575 < full <;> simp [hover, readingCondition]
    · rw [hq, evaluated_at_band (p := p.converted _) ht]
      exact ⟨rfl, rfl, rfl⟩
    · rw [hq, evaluated_moves (p := p.converted _) ht hc]
      exact ⟨rfl, rfl, rfl⟩
    · rw [hq, evaluated_counts (p := p.converted _) ht (not_le.2 hc)]
      exact ⟨rfl, rfl, rfl⟩

end

/-! ## An item that reaches its point -/

section
variable {s : State} {i : Item} {rest : List Item} {n : Nat} (hs : s.awake) (hq : s.intake.queue = i :: rest)
  (hn : pointByTag s i.tag = some n)
include hs hq hn

theorem exec_readingItem (hk : i.sort = .reading) : exec .readingItem s = .next (reading n i.value (s.taken rest)) := by
  rw [exec, execReadingItem, partStep_takeItem hs hq hk, toPoint, show pointByTag (s.taken rest) i.tag = some n from hn]

theorem exec_holdItem (hk : i.sort = .hold) : exec .holdItem s = .next (holdReading n i.value (s.taken rest)) := by
  rw [exec, execHoldItem, partStep_takeItem hs hq hk, toPoint, show pointByTag (s.taken rest) i.tag = some n from hn]

end

theorem changesOnly_taken (s : State) (rest : List Item) : changesOnly [.intake] s (s.taken rest) := by
  intro p hp
  cases p with
  | intake => simp at hp
  | _ => rfl

/-- The parts that a reading or a hold may change. -/
def readingParts : List Part := [.intake, .points, .plans, .incidents, .segments, .register, .notices, .onPlace]

theorem changesOnly_reading (n r : Nat) (s : State) : changesOnly readingParts s (reading n r s) := by
  intro p hp
  cases p with
  | intake | points | plans | incidents | segments | register | notices | onPlace => simp [readingParts] at hp
  | port => exact same_port (by simp)
  | _ => simp [State.same]

theorem changesOnly_holdReading (n k : Nat) (s : State) : changesOnly readingParts s (holdReading n k s) := by
  intro p hp
  cases p with
  | intake | points | plans | incidents | segments | register | notices | onPlace => simp [readingParts] at hp
  | port => exact same_port (by simp)
  | _ => simp [State.same]

section
variable {n : Nat} {s : State} {p : Point} (hp : Table.at? s.points n = some p)
include hp

/-- The point that a raw value off the rails leaves, of a point heard of by a reading or a hold. -/
theorem at?_applyPressure_heard (raw : Option Nat) (m r : Nat) :
    Table.at? (applyPressure n (convert p.zero p.gain r) m (s.heard n raw)).points n =
      some ((p.heard s raw).pressured s.profiles (convert p.zero p.gain r) m) :=
  (applyPressure_becomes n _ m (s.heard n raw)).self (at?_heard hp raw)

theorem reading_others (r : Nat) {m : Nat} (hm : m ≠ n) : Table.at? (reading n r s).points m = Table.at? s.points m := by
  have hheard := (heard_becomes (n := n) (s := s) (some r)).other hm
  by_cases hrail : isRail r = true
  · rw [reading_rail hp hrail]
    exact ((pointBecomes_setCondition n _ _).other hm).trans hheard
  · rw [reading_pressure hp hrail]
    exact ((applyPressure_becomes n _ _ _).other hm).trans hheard

theorem holdReading_others (k : Nat) {m : Nat} (hm : m ≠ n) :
    Table.at? (holdReading n k s).points m = Table.at? s.points m := by
  have hheard := (heard_becomes (n := n) (s := s) none).other hm
  cases hv : p.valid with
  | false => rw [holdReading_discarded hp (.inl hv)]
  | true =>
    cases hr : p.lastRaw with
    | none => rw [holdReading_discarded hp (.inr hr)]
    | some r =>
      by_cases hrail : isRail r = true
      · rw [holdReading_rail hp hv hr hrail]
        split
        · exact ((pointBecomes_setCondition n _ _).other hm).trans hheard
        · exact hheard
      · rw [holdReading_pressure hp hv hr hrail]
        exact ((applyPressure_becomes n _ _ _).other hm).trans hheard

/-- The point that a reading leaves (R44 to R46). -/
def Point.read (s : State) (r : Nat) (p : Point) : Point :=
  if isRail r then { p.heard s (some r) with condition := .sensorFault }
  else (p.heard s (some r)).pressured s.profiles (convert p.zero p.gain r) 1

theorem at?_reading (r : Nat) : Table.at? (reading n r s).points n = some (p.read s r) := by
  by_cases hrail : isRail r = true
  · rw [reading_rail hp hrail, Point.read, if_pos hrail]
    exact (pointBecomes_setCondition n _ _).self (at?_heard hp _)
  · rw [reading_pressure hp hrail, Point.read, if_neg hrail]
    exact at?_applyPressure_heard hp _ _ _

/-- The point that a hold leaves (R47). -/
def Point.holding (s : State) (k : Nat) (p : Point) : Point :=
  match p.valid, p.lastRaw with
  | true, some r =>
    if isRail r then
      { p.heard s none with condition := if p.condition = .stale then .sensorFault else p.condition }
    else (p.heard s none).pressured s.profiles (convert p.zero p.gain r) (k + 1)
  | _, _ => p

omit hp in
theorem holding_discarded {k : Nat} (h : p.valid = false ∨ p.lastRaw = none) : p.holding s k = p := by
  unfold Point.holding
  split
  · simp_all
  · rfl

omit hp in
theorem holding_repeats {k r : Nat} (hv : p.valid = true) (hr : p.lastRaw = some r) : p.holding s k =
    if isRail r then
      { p.heard s none with condition := if p.condition = .stale then .sensorFault else p.condition }
    else (p.heard s none).pressured s.profiles (convert p.zero p.gain r) (k + 1) := by
  unfold Point.holding
  split
  · rename_i r' _ hr'
    obtain rfl : r' = r := Option.some.inj (hr'.symm.trans hr)
    rfl
  · rename_i hnot
    exact absurd hr (hnot r hv)

theorem at?_holdReading (k : Nat) : Table.at? (holdReading n k s).points n = some (p.holding s k) := by
  by_cases h : p.valid = false ∨ p.lastRaw = none
  · rw [holdReading_discarded hp h, hp, holding_discarded h]
  · obtain ⟨hv, r, hr⟩ : p.valid = true ∧ ∃ r, p.lastRaw = some r := by
      simpa [Option.ne_none_iff_exists'] using h
    rw [holding_repeats hv hr]
    by_cases hrail : isRail r = true
    · rw [holdReading_rail hp hv hr hrail, if_pos hrail]
      by_cases hstale : p.condition = .stale
      · simp only [if_pos hstale]
        exact (pointBecomes_setCondition n _ _).self (at?_heard hp _)
      · simp only [if_neg hstale]
        exact at?_heard hp _
    · rw [holdReading_pressure hp hv hr hrail, if_neg hrail]
      exact at?_applyPressure_heard hp _ _ _

end

/-- Settles O30: at a rail the condition alone, off the rails the converted pressure. -/
theorem readingsAndHoldsReachTheirPoint : Obligations.ReadingsAndHoldsReachTheirPoint := by
  unfold Obligations.ReadingsAndHoldsReachTheirPoint
  refine ⟨fun s i rest n p hs hq hk hn hp => ?_, fun s i rest n p hs hq hk hn hp => ?_⟩
  · have hpt : Table.at? (s.taken rest).points n = some p := hp
    refine ⟨_, p.read (s.taken rest) i.value, exec_readingItem hs hq hn hk, by simp [State.taken],
      ((changesOnly_taken s rest).mono (by simp)).trans (changesOnly_reading n i.value (s.taken rest)),
      fun m => reading_others hpt i.value, at?_reading hpt i.value, ?_⟩
    by_cases hrail : isRail i.value = true
    · rw [Point.read, if_pos hrail]
      exact ⟨rfl, rfl, fun _ => rfl, fun h0 h1 => absurd (isRail_iff.1 hrail) (by simp [h0, h1])⟩
    · rw [Point.read, if_neg hrail]
      obtain ⟨hkeeps, hrest⟩ := pressured_does (s.taken rest).profiles 1 i.value (p.heard (s.taken rest) (some i.value))
      refine ⟨by rw [pressured_keeps]; rfl, by rw [pressured_keeps]; rfl, fun h => absurd (isRail_iff.2 h) hrail,
        fun _ _ => ⟨hkeeps, hrest⟩⟩
  · have hpt : Table.at? (s.taken rest).points n = some p := hp
    refine ⟨_, p.holding (s.taken rest) i.value, exec_holdItem hs hq hn hk, by simp [State.taken],
      ((changesOnly_taken s rest).mono (by simp)).trans
        (changesOnly_holdReading n i.value (s.taken rest)),
      fun m => holdReading_others hpt i.value, at?_holdReading hpt i.value,
      fun hv => holdReading_discarded hpt (.inl hv), fun r hv hr => ?_⟩
    rw [holding_repeats hv hr]
    by_cases hrail : isRail r = true
    · rw [if_pos hrail]
      exact ⟨fun _ => rfl, fun h0 h1 => absurd (isRail_iff.1 hrail) (by simp [h0, h1])⟩
    · rw [if_neg hrail]
      refine ⟨fun h => absurd (isRail_iff.2 h) hrail, fun _ _ => ?_⟩
      have hraw : p.heard (s.taken rest) none = p.heard (s.taken rest) (some r) := by simp [Point.heard, hr]
      rw [hraw]
      exact pressured_does (s.taken rest).profiles (i.value + 1) r (p.heard (s.taken rest) (some r))

end Sys2Proof.Machine
end

section
/-! SUPPORT. The classes of notices and flags that an operation may set, and the marking of a point by a reading or a
hold (R58, R59). -/

namespace Sys2Proof.Machine

/-! ## The classes that an operation indicates -/

/-- From `s` to `u` notices are raised and slots flagged, of no classes but these. -/
def indicatesAmong (ns : List Notice) (cs : List RecordClass) (s u : State) : Prop :=
  ∃ ms fs, Indicates ms fs s u ∧ ms ⊆ ns ∧ ∀ x ∈ fs, x.1 ∈ cs

section
variable {ns : List Notice} {cs : List RecordClass} {s t u : State}

theorem indicatesAmong.of_same (hn : u.notices = s.notices) (hp : u.port.onPlace = s.port.onPlace) :
    indicatesAmong ns cs s u := ⟨_, _, .of_same hn hp, by simp, by simp⟩

theorem indicatesAmong.refl (s : State) : indicatesAmong ns cs s s := .of_same rfl rfl

theorem indicatesAmong.trans (h : indicatesAmong ns cs s t) (h' : indicatesAmong ns cs t u) :
    indicatesAmong ns cs s u := by
  obtain ⟨ms, fs, hi, hm, hf⟩ := h
  obtain ⟨ms', fs', hi', hm', hf'⟩ := h'
  exact ⟨_, _, hi.trans hi', List.append_subset.2 ⟨hm, hm'⟩, fun x hx => (List.mem_append.1 hx).elim (hf x) (hf' x)⟩

theorem indicatesAmong.mono (h : indicatesAmong ns cs s u) {ns' : List Notice} {cs' : List RecordClass}
    (hn : ns ⊆ ns') (hc : cs ⊆ cs') : indicatesAmong ns' cs' s u := by
  obtain ⟨ms, fs, hi, hm, hf⟩ := h
  exact ⟨ms, fs, hi, List.Subset.trans hm hn, fun x hx => hc (hf x hx)⟩

/-- What the rest of an operation sets, after a part that sets nothing. -/
theorem indicatesAmong.after (h : indicatesAmong ns cs t u) (hn : t.notices = s.notices)
    (hp : t.port.onPlace = s.port.onPlace) : indicatesAmong ns cs s u := (indicatesAmong.of_same hn hp).trans h

/-- A flag that an operation sets is set over whatever came before it. -/
theorem Indicates.then_flags {ms : List Notice} {fs : List (RecordClass × Nat)} (hi : Indicates ms fs s t)
    {k : RecordClass} {n : Nat} (h : flagsIf k n true t u) : flagsIf k n true s u := by
  simpa using flagsIf_trans (hi.flags k n) h

theorem Indicates.then_raises {ms : List Notice} {fs : List (RecordClass × Nat)} (hi : Indicates ms fs s t) {v : Notice}
    (h : raisesIf v true t u) : raisesIf v true s u := by
  obtain ⟨⟨-, -, -, hraises⟩, -⟩ := hi
  simpa using raisesIf_trans (hraises v) h

theorem indicatesAmong_mark (c : RecordClass) (n : Nat) (v : Notice) (s : State) :
    indicatesAmong [v] [c] s (mark c n v s) := ⟨_, _, (Indicates.refl s).mark c n v, by simp, by simp⟩

theorem indicatesAmong_flag (c : RecordClass) (n : Nat) (s : State) : indicatesAmong [] [c] s (flag c n s) :=
  ⟨_, _, (Indicates.refl s).flag c n, by simp, by simp⟩

theorem indicatesAmong_raise (v : Notice) (s : State) : indicatesAmong [v] [] s (raise v s) :=
  ⟨_, _, (Indicates.refl s).raise v, by simp, by simp⟩

theorem indicatesAmong.foldl {α : Type} {f : State → α → State} (hf : ∀ s a, indicatesAmong ns cs s (f s a))
    (l : List α) (s : State) : indicatesAmong ns cs s (l.foldl f s) := by
  induction l generalizing s with
  | nil => exact .refl s
  | cons a l ih => exact (hf s a).trans (ih _)

theorem indicatesAmong.ite {p : Prop} [Decidable p] {a b : State} (ha : indicatesAmong ns cs s a)
    (hb : indicatesAmong ns cs s b) : indicatesAmong ns cs s (if p then a else b) := by
  split
  · exact ha
  · exact hb

theorem indicatesAmong.other_flags (h : indicatesAmong ns cs s u) {k : RecordClass} (hk : k ∉ cs) (n : Nat) :
    flagsIf k n false s u := by
  obtain ⟨ms, fs, hi, -, hf⟩ := h
  have hnot : (k, n) ∉ fs := fun hmem => hk (hf _ hmem)
  simpa [hnot] using hi.flags k n

theorem indicatesAmong.other_raises (h : indicatesAmong ns cs s u) {v : Notice} (hv : v ∉ ns) : raisesIf v false s u := by
  obtain ⟨ms, fs, hi, hm, -⟩ := h
  exact hi.raisesAtMost v fun hmem => hv (hm hmem)

/-- A flag that is set stays set, whatever else is flagged after it. -/
theorem indicatesAmong.keeps_flag (h' : indicatesAmong ns cs t u) {k : RecordClass} {n : Nat} (h : flagsIf k n true s t) :
    flagsIf k n true s u := by
  obtain ⟨ms, fs, hi, -, -⟩ := h'
  exact flagsIf_trans h (hi.flags k n)

theorem indicatesAmong.keeps_raise (h' : indicatesAmong ns cs t u) {v : Notice} (h : raisesIf v true s t) :
    raisesIf v true s u := by
  obtain ⟨ms, fs, ⟨⟨-, -, -, hraises⟩, -⟩, -, -⟩ := h'
  exact raisesIf_trans h (hraises v)

/-- A slot marked after anything else is flagged, and its notice raised. -/
theorem indicatesAmong.mark (h : indicatesAmong ns cs s t) (c : RecordClass) (n : Nat) (v : Notice) :
    flagsIf c n true s (mark c n v t) ∧ raisesIf v true s (mark c n v t) := by
  obtain ⟨ms, fs, hi, -, -⟩ := h
  obtain ⟨⟨-, -, -, hraises⟩, hflags⟩ := hi.mark c n v
  exact ⟨by simpa using hflags c n, by simpa using hraises v⟩

end

/-! ## The Register and the Verification Unit -/

section
variable (n : Nat) (s : State)

theorem regradeIncident_among : indicatesAmong [.incident] [.incident] s (regradeIncident n s) := by
  unfold regradeIncident
  split
  · exact .refl s
  · exact .ite (.refl s) ((indicatesAmong_mark .incident n .incident _).after (by simp) (by simp))

theorem regradeSegment_among : indicatesAmong [.incident] [.incident] s (regradeSegment n s) :=
  .foldl (fun s n => regradeIncident_among n s) _ s

theorem regradeRequest_among : indicatesAmong [.incident] [.incident] s (regradeRequest n s) :=
  .ite (regradeSegment_among n s) (.refl s)

theorem recountIncidents_among : indicatesAmong [] [.segment] s (recountIncidents n s) :=
  .ite ((indicatesAmong_flag .segment n _).after (by simp) (by simp)) (.refl s)

theorem recounted_among (i : Incident) : indicatesAmong [.incident] [.incident, .segment] s
    (recountIncidents i.segment (s.putIncident n (graded s i))) :=
  ((recountIncidents_among i.segment _).mono (by simp) (by simp)).after (by simp) (by simp)

theorem makeIncident_among (i : Incident) :
    indicatesAmong [.incident] [.incident, .segment] s (makeIncident n i s) :=
  (recounted_among n s i).trans ((indicatesAmong_mark .incident n .incident _).mono (by simp) (by simp))

theorem makeIncident_marks (i : Incident) :
    flagsIf .incident n true s (makeIncident n i s) ∧ raisesIf .incident true s (makeIncident n i s) :=
  (recounted_among n s i).mark .incident n .incident

theorem pressureRequest_among :
    indicatesAmong [.incident, .pressure] [.incident, .segment] s (pressureRequest n s) := by
  unfold pressureRequest
  refine .ite ((regradeSegment_among n s).mono (by simp) (by simp)) ?_
  split
  · exact (makeIncident_among _ s _).mono (by simp) (by simp)
  · exact ((indicatesAmong_raise .pressure _).mono (by simp) (by simp)).after (by simp) (by simp)

theorem bandHandOff_among (b : Band) :
    indicatesAmong [.incident, .pressure] [.incident, .segment] s (bandHandOff n b s) :=
  .ite (pressureRequest_among n s) ((regradeRequest_among n s).mono (by simp) (by simp))

theorem setSafety_among (f : Safety → Safety) : indicatesAmong [.incident] [.incident] s (setSafety n f s) := by
  unfold setSafety
  split
  · exact .refl s
  · exact .ite (.refl s) ((indicatesAmong_mark .incident n .incident _).after (by simp) (by simp))

theorem planEvent_among (e : PlanEvent) (i : Option Nat) :
    indicatesAmong [.incident] [.incident] s (planEvent e i s) := by
  cases i with
  | none => exact .refl s
  | some n => exact setSafety_among n s _

theorem regradePlanIncident_among (i : Option Nat) :
    indicatesAmong [.incident] [.incident] s (regradePlanIncident i s) := by
  cases i with
  | none => exact .refl s
  | some n => exact regradeIncident_among n s

theorem setVerdict_among (v : Verdict) : indicatesAmong [.plan, .incident] [.plan, .incident] s (setVerdict n v s) := by
  have hmark (q : Plan) : indicatesAmong [.plan, .incident] [.plan, .incident] s (markPlan n (s.putPlan n q)) :=
    ((indicatesAmong_mark .plan n .plan _).mono (by simp) (by simp)).after (by simp) (by simp)
  unfold setVerdict
  split
  · exact .refl s
  · refine .ite (.refl s) ?_
    cases v with
    | tight => exact (hmark _).trans ((planEvent_among _ _ _).mono (by simp) (by simp))
    | passing =>
      exact ((hmark _).trans ((planEvent_among _ _ _).mono (by simp) (by simp))).trans
        ((regradePlanIncident_among _ _).mono (by simp) (by simp))
    | untested => exact hmark _
    | none => exact .refl s

theorem dropEntry_among (point : Nat) :
    indicatesAmong [.plan, .incident] [.plan, .incident] s (dropEntry point n s) := by
  have hmark (t : DecayTest) : indicatesAmong [.plan, .incident] [.plan, .incident] s (markPlan n (setTest n t s)) :=
    ((indicatesAmong_mark .plan n .plan _).mono (by simp) (by simp)).after (by simp) (by simp)
  unfold dropEntry
  split
  · exact .refl s
  · split
    · exact .ite (hmark _) ((hmark _).trans (setVerdict_among _ _ _))
    · exact .refl s

theorem dropPoint_among : indicatesAmong [.plan, .incident] [.plan, .incident] s (dropPoint n s) :=
  .foldl (fun s p => dropEntry_among p s n) _ s

theorem testReading_among (point x : Nat) (c : Condition) :
    indicatesAmong [.plan, .incident] [.plan, .incident] s (testReading point x c n s) := by
  unfold testReading
  split
  · exact .refl s
  · split
    · refine .ite (dropEntry_among n s point) ?_
      exact .ite ((setVerdict_among _ _ _).after (by simp) (by simp)) (.of_same (by simp) (by simp))
    · exact .refl s

theorem testReadings_among (x : Nat) (c : Condition) :
    indicatesAmong [.plan, .incident] [.plan, .incident] s (testReadings n x c s) :=
  .foldl (fun s p => testReading_among p s n x c) _ s

end

/-! ## The marking of a point (R58, R59) -/

/-- From `s` to `u` point slot `n` is flagged and PRESSURE raised, both if `b`, and no other point is flagged. -/
def marksPoint (n : Nat) (b : Bool) (s u : State) : Prop :=
  (∀ m, flagsIf .point m (decide (m = n) && b) s u) ∧ raisesIf .pressure b s u

section
variable {n : Nat} {b c : Bool} {s t u : State}

theorem marksPoint.trans (h : marksPoint n b s t) (h' : marksPoint n c t u) : marksPoint n (b || c) s u := by
  obtain ⟨hf, hr⟩ := h
  obtain ⟨hf', hr'⟩ := h'
  exact ⟨fun m => by rw [Bool.and_or_distrib_left]; exact flagsIf_trans (hf m) (hf' m), raisesIf_trans hr hr'⟩

theorem indicatesAmong.marksNoPoint {ns : List Notice} {cs : List RecordClass} (h : indicatesAmong ns cs s u)
    (hn : Notice.pressure ∉ ns) (hc : RecordClass.point ∉ cs) : marksPoint n false s u :=
  ⟨fun m => by simpa using h.other_flags hc m, h.other_raises hn⟩

theorem marksPoint.of_same (hn : u.notices = s.notices) (hp : u.port.onPlace = s.port.onPlace) :
    marksPoint n false s u :=
  (indicatesAmong.of_same (ns := []) (cs := []) hn hp).marksNoPoint (by simp) (by simp)

theorem marksPoint_markPoint (n : Nat) (s : State) : marksPoint n true s (markPoint n s) := by
  obtain ⟨⟨-, -, -, hraises⟩, hflags⟩ := (Indicates.refl s).mark .point n .pressure
  exact ⟨fun m => by simpa [markPoint] using hflags .point m, by simpa [markPoint] using hraises .pressure⟩

/-- What comes after the marking of a point, and flags no other, adds nothing to it. -/
theorem marksPoint.then {ns : List Notice} {cs : List RecordClass} (h : marksPoint n true s t)
    (h' : indicatesAmong ns cs t u) (hc : RecordClass.point ∉ cs) : marksPoint n true s u := by
  obtain ⟨hf, hr⟩ := h
  exact ⟨fun m => by simpa using flagsIf_trans (hf m) (h'.other_flags hc m), h'.keeps_raise hr⟩

end

section
variable {n : Nat} {s : State} {p : Point} (hp : Table.at? s.points n = some p)
include hp

theorem setCondition_same {c : Condition} (h : p.condition = c) : setCondition n c s = s :=
  if_neg (by simp [Table.test_some hp, h])

theorem setCondition_change {c : Condition} (h : p.condition ≠ c) : setCondition n c s =
    if c.drops then dropPoint n (markPoint n (s.updPoint n (fun p => { p with condition := c })))
    else markPoint n (s.updPoint n (fun p => { p with condition := c })) :=
  if_pos (by simp [Table.test_some hp, h])

theorem setCondition_marks (c : Condition) : marksPoint n (decide (c ≠ p.condition)) s (setCondition n c s) := by
  by_cases h : p.condition = c
  · rw [setCondition_same hp h]
    simpa [h] using marksPoint.of_same (n := n) (s := s) rfl rfl
  · have hmark : marksPoint n true s (markPoint n (s.updPoint n (fun p => { p with condition := c }))) :=
      (marksPoint.of_same (by simp) (by simp)).trans (marksPoint_markPoint n _)
    rw [setCondition_change hp h, decide_eq_true (Ne.symm h)]
    split
    · exact hmark.then (dropPoint_among n _) (by simp)
    · exact hmark

theorem evaluateBand_marks (e : Profile) (x m : Nat) :
    marksPoint n (decide ((p.evaluated e x m).band ≠ p.band)) s (evaluateBand n e x m s) := by
  rw [evaluateBand_eq hp]
  have hput : marksPoint n false s (s.putPoint n (p.evaluated e x m)) := .of_same (by simp) (by simp)
  split
  · rename_i h
    simpa [h] using hput
  · rename_i h
    rw [decide_eq_true h]
    exact (hput.trans (marksPoint_markPoint n _)).then (bandHandOff_among _ _ _) (by simp)

variable (conv : Nat × Bool) (m : Nat)

omit hp in
/-- The band's change marks the point and reaches the Register, and no plan. -/
theorem bandStage_among : indicatesAmong [.pressure, .incident] [.point, .incident, .segment]
    (conditionStage n conv s p) (bandStage n conv m s p) := by
  unfold bandStage
  split
  · unfold evaluateBand
    split
    · exact .refl _
    · dsimp only
      split
      · refine .ite ?_ (.of_same (by simp) (by simp))
        exact (((indicatesAmong_mark .point n .pressure _).mono (by simp) (by simp)).after (by simp) (by simp)).trans
          ((bandHandOff_among _ _ _).mono (by simp) (by simp))
      · exact .of_same (by simp) (by simp)
  · exact .refl _

theorem at?_withPressure : Table.at? (s.updPoint n fun q => { q with lastPressure := some conv.1, valid := true }).points n =
    some { p with lastPressure := some conv.1, valid := true } :=
  (pointBecomes_updPoint n (fun q : Point => { q with lastPressure := some conv.1, valid := true }) s).self hp

theorem conditionStage_marks :
    marksPoint n (decide (readingCondition p.selected conv.2 ≠ p.condition)) s (conditionStage n conv s p) :=
  (marksPoint.of_same (by simp) (by simp)).trans (setCondition_marks (at?_withPressure hp conv) _)

theorem bandStage_marks : marksPoint n (decide (readingCondition p.selected conv.2 ≠ p.condition) ||
    decide ((p.pressured s.profiles conv m).band ≠ p.band)) s (bandStage n conv m s p) := by
  have hcondition := conditionStage_marks hp conv
  unfold bandStage
  cases he : p.selected.bind (Table.at? s.profiles) with
  | none => simpa [pressured_unselected he, Point.converted] using hcondition
  | some e =>
    rw [pressured_selected he]
    exact hcondition.trans (evaluateBand_marks ((conditionStage_becomes n conv s hp).self hp) e conv.1 m)

theorem applyPressure_marks : marksPoint n (decide ((p.pressured s.profiles conv m).condition ≠ p.condition) ||
    decide ((p.pressured s.profiles conv m).band ≠ p.band)) s (applyPressure n conv m s) := by
  rw [applyPressure_eq n conv m s hp, pressured_condition]
  simpa using (bandStage_marks hp conv m).trans
    ((testReadings_among n _ conv.1 (readingCondition p.selected conv.2)).marksNoPoint (by simp) (by simp))

omit hp in
theorem heard_marks (raw : Option Nat) : marksPoint n false s (s.heard n raw) :=
  .of_same (by simp [State.heard]) (by simp [State.heard])

/-- A reading marks its point exactly where the condition or the band changes. -/
theorem reading_marks (r : Nat) : marksPoint n (decide ((p.read s r).condition ≠ p.condition) ||
    decide ((p.read s r).band ≠ p.band)) s (reading n r s) := by
  have hheard := heard_marks (n := n) (s := s) (some r)
  have hat := at?_heard hp (some r)
  by_cases hrail : isRail r = true
  · rw [reading_rail hp hrail, Point.read, if_pos hrail]
    simpa [Point.heard] using hheard.trans (setCondition_marks hat .sensorFault)
  · rw [reading_pressure hp hrail, Point.read, if_neg hrail]
    exact hheard.trans (applyPressure_marks hat _ 1)

theorem holdReading_marks (k : Nat) : marksPoint n (decide ((p.holding s k).condition ≠ p.condition) ||
    decide ((p.holding s k).band ≠ p.band)) s (holdReading n k s) := by
  by_cases h : p.valid = false ∨ p.lastRaw = none
  · rw [holdReading_discarded hp h, holding_discarded h]
    simpa using marksPoint.of_same (n := n) (s := s) rfl rfl
  · obtain ⟨hv, r, hr⟩ : p.valid = true ∧ ∃ r, p.lastRaw = some r := by
      simpa [Option.ne_none_iff_exists'] using h
    have hheard := heard_marks (n := n) (s := s) none
    have hat := at?_heard hp none
    rw [holding_repeats hv hr]
    by_cases hrail : isRail r = true
    · rw [holdReading_rail hp hv hr hrail, if_pos hrail]
      by_cases hstale : p.condition = .stale
      · simpa [Point.heard, hstale] using hheard.trans (setCondition_marks hat .sensorFault)
      · simpa [Point.heard, hstale] using hheard
    · rw [holdReading_pressure hp hv hr hrail, if_neg hrail]
      exact hheard.trans (applyPressure_marks hat _ (k + 1))

end

end Sys2Proof.Machine
end

section
/-! SUPPORT. The decay tests that a reading or a change of condition reaches (R61, R135, R165, R166): what each makes of a
plan, and of the incident that a plan found PASSING names. -/

namespace Sys2Proof.Machine

/-! ## The plan that an operation leaves -/

/-- From `s` to `u` the record of plan slot `p` is changed by `g`, and no other plan changes. -/
abbrev planBecomes (p : Nat) (g : Plan → Plan) (s u : State) : Prop := Table.becomes p g s.plans u.plans

/-- A plan found UNTESTED by the Verification Unit (R135). -/
def Plan.foundUntested (q : Plan) : Plan := if q.activeState = .secured then { q with verdict := .untested } else q

/-- A plan found PASSING by the Verification Unit (R135). -/
def Plan.foundPassing (q : Plan) : Plan :=
  if q.activeState = .secured then { q with verdict := .passing, activeState := .passing } else q

/-- A test with a point's entries dropped (R166). -/
def TestData.dropping (d : TestData) (point : Nat) : TestData := d.setEntry point (fun e => { e with state := .dropped })

/-- A test with a pressure taken for a point (R165). -/
def TestData.taking (d : TestData) (point x : Nat) : TestData := d.setEntry point (fun e => { e with latest := x })

/-- A plan whose test drops a point (R166). -/
def Plan.dropped (point : Nat) (q : Plan) : Plan :=
  match q.test, testingEntry q.test point with
  | .running d, some _ =>
    if (d.dropping point).entries.any (fun e => e.state = .testing) then { q with test := .running (d.dropping point) }
    else Plan.foundUntested { q with test := .ended (d.dropping point) }
  | _, _ => q

/-- A plan whose test is handed a pressure of a point (R165). -/
def Plan.measured (point x : Nat) (c : Condition) (q : Plan) : Plan :=
  match q.test, testingEntry q.test point with
  | .running d, some e =>
    if c = .overRange then q.dropped point
    else if e.p0 + q.rise < x then Plan.foundPassing { q with test := .ended (d.taking point x) }
    else { q with test := .running (d.taking point x) }
  | _, _ => q

theorem running_of_testingEntry {t : DecayTest} {point : Nat} {e : TestEntry} (h : testingEntry t point = some e) :
    ∃ d, t = .running d := by
  cases t with
  | running d => exact ⟨d, rfl⟩
  | none => simp [testingEntry] at h
  | ended d => simp [testingEntry] at h

section
variable {q : Plan} {point : Nat}

theorem dropped_unread (h : testingEntry q.test point = none) : q.dropped point = q := by
  rw [Plan.dropped, h]
  cases q.test <;> rfl

theorem dropped_running {d : TestData} {e : TestEntry} (ht : q.test = .running d)
    (he : testingEntry q.test point = some e) : q.dropped point =
      if (d.dropping point).entries.any (fun e => e.state = .testing) then { q with test := .running (d.dropping point) }
      else Plan.foundUntested { q with test := .ended (d.dropping point) } := by
  rw [Plan.dropped, he, ht]

theorem measured_unread {x : Nat} {c : Condition} (h : testingEntry q.test point = none) :
    q.measured point x c = q := by
  rw [Plan.measured, h]
  cases q.test <;> rfl

theorem measured_overRange {x : Nat} : q.measured point x .overRange = q.dropped point := by
  cases he : testingEntry q.test point with
  | none => rw [measured_unread he, dropped_unread he]
  | some e =>
    obtain ⟨d, ht⟩ := running_of_testingEntry he
    rw [Plan.measured, he, ht]
    rfl

theorem measured_running {x : Nat} {c : Condition} {d : TestData} {e : TestEntry} (hc : c ≠ .overRange)
    (ht : q.test = .running d) (he : testingEntry q.test point = some e) : q.measured point x c =
      if e.p0 + q.rise < x then Plan.foundPassing { q with test := .ended (d.taking point x) }
      else { q with test := .running (d.taking point x) } := by
  rw [Plan.measured, he, ht]
  exact if_neg hc

end

section
variable (p : Nat) (s : State)

theorem setTest_becomes (t : DecayTest) : planBecomes p (fun q => { q with test := t }) s (setTest p t s) :=
  Table.becomes_upd p _ s.plans

theorem setVerdict_free {v : Verdict} (h : Table.at? s.plans p = none) : setVerdict p v s = s := by
  rw [setVerdict, h]

section
variable {p s} {q : Plan} (hq : Table.at? s.plans p = some q)
include hq

theorem setVerdict_unsecured {v : Verdict} (h : q.activeState ≠ .secured) : setVerdict p v s = s := by
  rw [setVerdict, hq]
  exact if_pos (by simpa using h)

theorem setVerdict_untested_secured (h : q.activeState = .secured) :
    setVerdict p .untested s = markPlan p (s.putPlan p { q with verdict := .untested }) := by
  rw [setVerdict, hq]
  exact if_neg (by simpa using h)

theorem setVerdict_passing_secured (h : q.activeState = .secured) : setVerdict p .passing s =
    regradePlanIncident q.incident (planEvent .becomesPassing q.incident
      (markPlan p (s.putPlan p { q with verdict := .passing, activeState := .passing }))) := by
  rw [setVerdict, hq]
  exact if_neg (by simpa using h)

end

theorem setVerdict_untested_becomes : planBecomes p Plan.foundUntested s (setVerdict p .untested s) := by
  cases hq : Table.at? s.plans p with
  | none => rw [setVerdict_free p s hq]; exact .free hq _
  | some q =>
    by_cases h : q.activeState = .secured
    · rw [setVerdict_untested_secured hq h]
      have hput : planBecomes p Plan.foundUntested s (s.putPlan p q.foundUntested) := Table.becomes_put hq _
      rw [Plan.foundUntested, if_pos h] at hput
      exact hput.same (by simp)
    · rw [setVerdict_unsecured hq h]
      refine (Table.becomes.of_eq rfl).congr fun x hx => ?_
      obtain rfl : q = x := Option.some.inj (hq.symm.trans hx)
      exact (if_neg h).symm

theorem setVerdict_passing_becomes : planBecomes p Plan.foundPassing s (setVerdict p .passing s) := by
  cases hq : Table.at? s.plans p with
  | none => rw [setVerdict_free p s hq]; exact .free hq _
  | some q =>
    by_cases h : q.activeState = .secured
    · rw [setVerdict_passing_secured hq h]
      have hput : planBecomes p Plan.foundPassing s (s.putPlan p q.foundPassing) := Table.becomes_put hq _
      rw [Plan.foundPassing, if_pos h] at hput
      exact hput.same (by simp)
    · rw [setVerdict_unsecured hq h]
      refine (Table.becomes.of_eq rfl).congr fun x hx => ?_
      obtain rfl : q = x := Option.some.inj (hq.symm.trans hx)
      exact (if_neg h).symm

variable (point : Nat)

section
variable {p s point} {q : Plan} (hq : Table.at? s.plans p = some q)
include hq

theorem dropEntry_unread (h : testingEntry q.test point = none) : dropEntry point p s = s := by
  rw [dropEntry, hq]
  simp only [h]
  cases q.test <;> rfl

theorem dropEntry_running {d : TestData} {e : TestEntry} (ht : q.test = .running d)
    (he : testingEntry q.test point = some e) : dropEntry point p s =
      if (d.dropping point).entries.any (fun e => e.state = .testing)
      then markPlan p (setTest p (.running (d.dropping point)) s)
      else setVerdict p .untested (markPlan p (setTest p (.ended (d.dropping point)) s)) := by
  rw [ht] at he
  rw [dropEntry, hq]
  simp only [ht, he]
  rfl

theorem testReading_unread {x : Nat} {c : Condition} (h : testingEntry q.test point = none) :
    testReading point x c p s = s := by
  rw [testReading, hq]
  simp only [h]
  cases q.test <;> rfl

theorem testReading_running {x : Nat} {c : Condition} {d : TestData} {e : TestEntry} (hc : c ≠ .overRange)
    (ht : q.test = .running d) (he : testingEntry q.test point = some e) : testReading point x c p s =
      if e.p0 + q.rise < x then setVerdict p .passing (setTest p (.ended (d.taking point x)) s)
      else setTest p (.running (d.taking point x)) s := by
  rw [ht] at he
  rw [testReading, hq]
  simp only [ht, he]
  exact if_neg hc

end

theorem testReading_overRange (x : Nat) : testReading point x .overRange p s = dropEntry point p s := by
  cases hq : Table.at? s.plans p with
  | none => rw [testReading, dropEntry, hq]
  | some q =>
    cases he : testingEntry q.test point with
    | none => rw [testReading_unread hq he, dropEntry_unread hq he]
    | some e =>
      obtain ⟨d, ht⟩ := running_of_testingEntry he
      rw [ht] at he
      rw [testReading, hq]
      simp only [ht, he, if_true]

theorem dropEntry_becomes : planBecomes p (Plan.dropped point) s (dropEntry point p s) := by
  cases hq : Table.at? s.plans p with
  | none =>
    have : dropEntry point p s = s := by rw [dropEntry, hq]
    rw [this]
    exact .free hq _
  | some q =>
    have hself {g : Plan → Plan} (h : g q = q.dropped point) (x : Plan) (hx : Table.at? s.plans p = some x) :
        g x = x.dropped point := by
      obtain rfl : q = x := Option.some.inj (hq.symm.trans hx)
      exact h
    cases he : testingEntry q.test point with
    | none =>
      rw [dropEntry_unread hq he]
      exact (Table.becomes.of_eq rfl).congr (hself (dropped_unread he).symm)
    | some e =>
      obtain ⟨d, ht⟩ := running_of_testingEntry he
      have hdropped := dropped_running ht he
      rw [dropEntry_running hq ht he]
      have hset (t : DecayTest) : planBecomes p (fun q => { q with test := t }) s (markPlan p (setTest p t s)) :=
        (setTest_becomes p s t).same (by simp)
      split
      · rename_i h
        rw [if_pos h] at hdropped
        exact (hset _).congr (hself hdropped.symm)
      · rename_i h
        rw [if_neg h] at hdropped
        exact ((hset _).trans (setVerdict_untested_becomes p _)).congr (hself hdropped.symm)

theorem testReading_becomes (x : Nat) (c : Condition) :
    planBecomes p (Plan.measured point x c) s (testReading point x c p s) := by
  cases hq : Table.at? s.plans p with
  | none =>
    have : testReading point x c p s = s := by rw [testReading, hq]
    rw [this]
    exact .free hq _
  | some q =>
    have hself {g : Plan → Plan} (h : g q = q.measured point x c) (y : Plan) (hy : Table.at? s.plans p = some y) :
        g y = y.measured point x c := by
      obtain rfl : q = y := Option.some.inj (hq.symm.trans hy)
      exact h
    by_cases hc : c = .overRange
    · subst hc
      rw [testReading_overRange]
      exact (dropEntry_becomes p s point).congr (hself measured_overRange.symm)
    cases he : testingEntry q.test point with
    | none =>
      rw [testReading_unread hq he]
      exact (Table.becomes.of_eq rfl).congr (hself (measured_unread he).symm)
    | some e =>
      obtain ⟨d, ht⟩ := running_of_testingEntry he
      have hmeasured := measured_running (x := x) hc ht he
      rw [testReading_running hq hc ht he]
      split
      · rename_i h
        rw [if_pos h] at hmeasured
        exact ((setTest_becomes p s _).trans (setVerdict_passing_becomes p _)).congr (hself hmeasured.symm)
      · rename_i h
        rw [if_neg h] at hmeasured
        exact (setTest_becomes p s _).congr (hself hmeasured.symm)

end

/-! ## Every test (R61) -/

/-- A run of changes of each plan in use. -/
theorem at?_foldl_plans {f : State → Nat → State} {g : Plan → Plan} (hf : ∀ s p, planBecomes p g s (f s p)) {s : State}
    (hs : Table.rises s.plans) (a : Nat) :
    Table.at? ((Table.keys s.plans).foldl f s).plans a = (Table.at? s.plans a).map g := by
  rw [at?_foldl_once (field := State.plans) (P := fun _ => True) (fun _ _ _ => trivial) (fun s p _ => hf s p)
    (nodup_of_rising hs) trivial]
  split
  · rfl
  · rename_i hmem
    rw [(Table.at?_none_iff _ _).2 (by rwa [← Bool.not_eq_true, ← Table.mem_keys])]
    rfl

section
variable (n : Nat) {s : State} (hs : Table.rises s.plans) (a : Nat)
include hs

theorem at?_dropPoint : Table.at? (dropPoint n s).plans a = (Table.at? s.plans a).map (Plan.dropped n) :=
  at?_foldl_plans (fun s p => dropEntry_becomes p s n) hs a

theorem at?_testReadings (x : Nat) (c : Condition) :
    Table.at? (testReadings n x c s).plans a = (Table.at? s.plans a).map (Plan.measured n x c) :=
  at?_foldl_plans (fun s p => testReading_becomes p s n x c) hs a

end

end Sys2Proof.Machine
end

section
/-! SUPPORT. The Incident Register's regrades and makings (R60, R87, R90, R93 to R99, R102), as what stands in each slot. -/

namespace Sys2Proof.Machine

/-! ## What a score and a regrade read (R95, R98) -/

/-- From `s` to `u` what every regrade reads is the same. -/
structure SameGrading (s u : State) : Prop where
  segments : u.segments = s.segments
  points : u.points = s.points
  plans : u.plans = s.plans
  register : u.register = s.register
  clock : u.clock = s.clock

theorem SameGrading.refl (s : State) : SameGrading s s := ⟨rfl, rfl, rfl, rfl, rfl⟩

theorem SameGrading.trans {s t u : State} (h : SameGrading s t) (h' : SameGrading t u) : SameGrading s u :=
  ⟨h'.segments.trans h.segments, h'.points.trans h.points, h'.plans.trans h.plans, h'.register.trans h.register,
    h'.clock.trans h.clock⟩

/-- The score reads of a segment its tier, its supply and its points, and of the plans the one that the incident names. -/
theorem score_congr {s u : State} (hp : u.points = s.points) {i : Incident}
    (hseg : (Table.at? u.segments i.segment).map (fun g => { g with openIncidents := 0 }) =
      (Table.at? s.segments i.segment).map (fun g => { g with openIncidents := 0 }))
    (hplan : ∀ a, i.plan = some a → Table.at? u.plans a = Table.at? s.plans a) : score u i = score s i := by
  have hband (g : Segment) (bands : List Band) : hasBand u g bands = hasBand s g bands := by simp [hasBand, hp]
  have htest : i.plan.any (fun p => Table.test u.plans p (fun q => q.verdict = .passing)) =
      i.plan.any (fun p => Table.test s.plans p (fun q => q.verdict = .passing)) := by
    cases h : i.plan with
    | none => rfl
    | some a => simp [Table.test, hplan a h]
  have hsegment {β : Type} (f : Segment → β) (hf : ∀ g : Segment, f { g with openIncidents := 0 } = f g) :
      (Table.at? u.segments i.segment).map f = (Table.at? s.segments i.segment).map f := by
    have := congrArg (Option.map f) hseg
    simpa [Option.map_map, Function.comp_def, hf] using this
  have hany (f : Segment → Bool) (hf : ∀ g : Segment, f { g with openIncidents := 0 } = f g) :
      (Table.at? u.segments i.segment).any f = (Table.at? s.segments i.segment).any f := by
    have := congrArg (fun o => o.getD false) (hsegment f hf)
    revert this
    cases Table.at? u.segments i.segment <;> cases Table.at? s.segments i.segment <;> simp
  unfold score scoreSum
  simp only [hband, htest, hsegment (fun g => g.tier.base) (fun _ => rfl),
    hany (fun g => g.supply = .supplied && hasBand s g [.low, .lowLow]) (fun _ => rfl),
    hany (fun g => hasBand s g [.lowLow, .highHigh]) (fun _ => rfl)]

theorem regraded_congr {s u : State} (h : SameGrading s u) : regraded u = regraded s := by
  funext i
  have hscore : score u i = score s i :=
    score_congr h.points (by rw [h.segments]) (fun a _ => by rw [h.plans])
  unfold regraded
  rw [hscore]
  simp [candidateDeadline, allowance, h.register, State.now, h.clock]

/-! ## Regrades (R99) -/

/-- From `s` to `u` the record of incident slot `n` is changed by `g`, and no other incident changes. -/
abbrev incidentBecomes (n : Nat) (g : Incident → Incident) (s u : State) : Prop :=
  Table.becomes n g s.incidents u.incidents

section
variable (n : Nat) (s : State)

theorem regradeIncident_becomes : incidentBecomes n (regraded s) s (regradeIncident n s) := by
  unfold regradeIncident
  cases hi : Table.at? s.incidents n with
  | none => exact .free hi _
  | some i =>
    dsimp only
    split
    · rename_i h
      refine (Table.becomes.of_eq rfl).congr fun j hj => ?_
      obtain rfl : i = j := Option.some.inj (hi.symm.trans hj)
      exact h.symm
    · have hput : incidentBecomes n (regraded s) s (s.putIncident n (regraded s i)) := Table.becomes_put hi _
      exact hput.same (by simp)

theorem setSafety_becomes (f : Safety → Safety) :
    incidentBecomes n (fun i => { i with safety := f i.safety }) s (setSafety n f s) := by
  unfold setSafety
  cases hi : Table.at? s.incidents n with
  | none => exact .free hi _
  | some i =>
    dsimp only
    split
    · rename_i h
      refine (Table.becomes.of_eq rfl).congr fun j hj => ?_
      obtain rfl : i = j := Option.some.inj (hi.symm.trans hj)
      rw [h]
      rfl
    · have hput : incidentBecomes n (fun i => { i with safety := f i.safety }) s
          (s.putIncident n { i with safety := f i.safety }) := Table.becomes_put hi (fun i => { i with safety := f i.safety })
      exact hput.same (by simp)

theorem regradeIncident_sameGrading : SameGrading s (regradeIncident n s) :=
  ⟨by simp, by simp, by simp, by simp, by simp⟩

theorem at?_regradeSegment (hs : Table.rises s.incidents) (m : Nat) : Table.at? (regradeSegment n s).incidents m =
    (Table.at? s.incidents m).map (fun i => if i.segment = n then regraded s i else i) := by
  rw [regradeSegment, openIncidents, at?_foldl_once (field := State.incidents) (g := regraded s) (P := SameGrading s)
    (fun t k ht => ht.trans (regradeIncident_sameGrading k t))
    (fun t k ht => regraded_congr ht ▸ regradeIncident_becomes k t)
    (nodup_of_rising (Table.pairwise_which hs _)) (.refl s)]
  exact (Table.map_of_mem_which hs _ _ m).trans (by simp)

end

/-! ## The making of an incident (R87, R90, R93) -/

section
variable {s : State} {k x : Nat} (hs : Table.rises s.incidents)
  (hnone : ∀ m j, Table.at? s.incidents m = some j → j.segment ≠ x)
include hs hnone

theorem openIncidents_none : openIncidents s x = [] := by
  rw [openIncidents, List.eq_nil_iff_forall_not_mem]
  intro m hm
  obtain ⟨j, hj, hseg⟩ := (Table.mem_which hs).1 hm
  exact hnone m j hj (by simpa using hseg)

/-- The first incident of a segment makes its open incident count 1. -/
theorem at?_makeIncident_segments (hk : Table.at? s.incidents k = none) {i : Incident} (hi : i.segment = x) (m : Nat) :
    Table.at? (makeIncident k i s).segments m =
      (Table.at? s.segments m).map (fun g => if m = x then { g with openIncidents := 1 } else g) := by
  have hcount : (openIncidents (s.putIncident k (graded s i)) x).length = 1 := by
    have hzero : (openIncidents s x).length = 0 := by rw [openIncidents_none hs hnone]; rfl
    have hgraded : (graded s i).segment = x := hi
    rw [length_openIncidents] at hzero ⊢
    rw [State.putIncident, State.incidents_setIncidents, Table.count_put_free hk, hzero, hgraded]
    simp
  have hsegments : (makeIncident k i s).segments = (recountIncidents x (s.putIncident k (graded s i))).segments := by
    simp [makeIncident, hi]
  have hkept : (s.putIncident k (graded s i)).segments = s.segments := by simp
  rw [hsegments]
  by_cases hm : m = x
  · subst hm
    unfold recountIncidents
    dsimp only
    rw [hcount, hkept]
    cases hg : Table.at? s.segments m with
    | none => simp [Table.test, hg]
    | some g =>
      by_cases h1 : g.openIncidents = 1
      · have hsame : ({ g with openIncidents := 1 } : Segment) = g := by rw [← h1]
        simp [Table.test, hg, h1, hsame]
      · simp [Table.test, hg, h1, Table.at?_upd]
  · rw [recountIncidents_at?_ne hm, hkept]
    simp [hm]

end

theorem makeIncident_incidents (k : Nat) (i : Incident) (s : State) :
    (makeIncident k i s).incidents = Table.put s.incidents k (graded s i) := by
  simp [makeIncident]

/-! ## The hand-off of a band change (R60, R93, R94) -/

section
variable {s : State} {x : Nat}

theorem openIncidents_ne_nil (hs : Table.rises s.incidents) :
    openIncidents s x ≠ [] ↔ ∃ m j, Table.at? s.incidents m = some j ∧ j.segment = x := by
  rw [Ne, List.eq_nil_iff_forall_not_mem]
  simp [openIncidents, Table.mem_which hs]

theorem pressureRequest_regrades (h : openIncidents s x ≠ []) : pressureRequest x s = regradeSegment x s :=
  if_pos (by simpa using h)

theorem pressureRequest_makes (h : openIncidents s x = []) {k : Nat}
    (hk : Table.lowestFree s.incidents Config.incidentSlots = some k) :
    pressureRequest x s = makeIncident k (newIncident s .pressure x) s := by
  rw [pressureRequest, if_neg (by simp [h]), hk]

theorem pressureRequest_refused (h : openIncidents s x = [])
    (hk : Table.lowestFree s.incidents Config.incidentSlots = none) : pressureRequest x s =
      raise .pressure (s.setRegister { s.register with full := true, lastRefused := some x }) := by
  rw [pressureRequest, if_neg (by simp [h]), hk]

theorem Band.severe_iff {b : Band} : b.severe = true ↔ b = .lowLow ∨ b = .highHigh := by simp [Band.severe]

theorem bandHandOff_severe {b : Band} (hb : b = .lowLow ∨ b = .highHigh)
    (hsup : Table.test s.segments x (fun g => g.supply = .supplied) = true) :
    bandHandOff x b s = pressureRequest x s := if_pos (by rw [Band.severe_iff.2 hb, hsup]; rfl)

theorem bandHandOff_other {b : Band}
    (h : ¬ ((b = .lowLow ∨ b = .highHigh) ∧ Table.test s.segments x (fun g => g.supply = .supplied) = true)) :
    bandHandOff x b s = if Table.test s.segments x (fun g => 0 < g.openIncidents) then regradeSegment x s else s :=
  if_neg (by rwa [Bool.and_eq_true, Band.severe_iff])

end

end Sys2Proof.Machine
end

section
/-! SUPPORT. What a reading or a hold of a point hands to the Register (R59, R60, R93, R94), where no test reads it. -/

namespace Sys2Proof.Machine

/-! ## A point that no test reads -/

section
variable {s : State} {n : Nat}

theorem underTest_congr {u : State} (h : u.plans = s.plans) : underTest u n = underTest s n := by
  rw [underTest, h, underTest]

variable (h : underTest s n = false)
include h

theorem testingEntry_of_not_underTest {p : Nat} {q : Plan} (hq : Table.at? s.plans p = some q) :
    testingEntry q.test n = none := by
  rw [underTest, List.any_eq_false] at h
  simpa using h _ (Table.mem_of_at? hq)

theorem dropPoint_unread : dropPoint n s = s := by
  refine List.foldl_fixed' (fun p => ?_) _
  cases hq : Table.at? s.plans p with
  | none => rw [dropEntry, hq]
  | some q => exact dropEntry_unread hq (testingEntry_of_not_underTest h hq)

theorem testReadings_unread (x : Nat) (c : Condition) : testReadings n x c s = s := by
  refine List.foldl_fixed' (fun p => ?_) _
  cases hq : Table.at? s.plans p with
  | none => rw [testReading, hq]
  | some q => exact testReading_unread hq (testingEntry_of_not_underTest h hq)

theorem setCondition_plans_unread (c : Condition) : (setCondition n c s).plans = s.plans := by
  unfold setCondition
  split
  · have hunread : underTest (markPoint n (s.updPoint n (fun p => { p with condition := c }))) n = false := by
      rw [underTest_congr (s := s) (by simp), h]
    simp [dropPoint_unread hunread]
  · rfl

end

/-! ## The hand-off -/

/-- From `s` to `t` the Register, the segments and the clock are as they were. -/
structure LeavesRegister (s t : State) : Prop where
  incidents : t.incidents = s.incidents
  register : t.register = s.register
  segments : t.segments = s.segments
  clock : t.clock = s.clock
  indicates : ∃ ns fs, Indicates ns fs s t

theorem LeavesRegister.trans {s t u : State} (h : LeavesRegister s t) (h' : LeavesRegister t u) : LeavesRegister s u := by
  obtain ⟨ns, fs, hi⟩ := h.indicates
  obtain ⟨ns', fs', hi'⟩ := h'.indicates
  exact ⟨h'.incidents.trans h.incidents, h'.register.trans h.register, h'.segments.trans h.segments,
    h'.clock.trans h.clock, _, _, hi.trans hi'⟩

/-- From `s` to `u` a point that was `p` becomes `q`, and where its band changed the change is handed to the Register. -/
def handsOff (p q : Point) (s u : State) : Prop :=
  ∃ t, LeavesRegister s t ∧ u = if q.band = p.band then t else bandHandOff p.segment q.band t

theorem handsOff.after {p q : Point} {s t u : State} (h : handsOff p q t u) (hs : LeavesRegister s t) :
    handsOff p q s u := by
  obtain ⟨v, hv, hu⟩ := h
  exact ⟨v, hs.trans hv, hu⟩

theorem handsOff_of_band {p q : Point} {s u : State} (h : q.band = p.band) (hu : LeavesRegister s u) :
    handsOff p q s u := ⟨u, hu, (if_pos h).symm⟩

theorem setCondition_leaves (n : Nat) (c : Condition) (s : State) : LeavesRegister s (setCondition n c s) where
  incidents := (setCondition_does n s c).1
  register := by simp
  segments := by simp
  clock := by simp
  indicates := by
    have hmark : indicatesAmong [.pressure, .plan, .incident] [.point, .plan, .incident] s
        (markPoint n (s.updPoint n (fun p => { p with condition := c }))) :=
      ((indicatesAmong_mark .point n .pressure _).mono (by simp) (by simp)).after (by simp) (by simp)
    obtain ⟨ms, fs, hi, -⟩ : indicatesAmong [.pressure, .plan, .incident] [.point, .plan, .incident] s
        (setCondition n c s) :=
      .ite (.ite (hmark.trans ((dropPoint_among n _).mono (by simp) (by simp))) hmark) (.refl s)
    exact ⟨ms, fs, hi⟩

theorem updPoint_leaves (n : Nat) (f : Point → Point) (s : State) : LeavesRegister s (s.updPoint n f) :=
  ⟨by simp, by simp, by simp, by simp, _, _, .of_same (by simp) (by simp)⟩

theorem heard_leaves (n : Nat) (raw : Option Nat) (s : State) : LeavesRegister s (s.heard n raw) :=
  updPoint_leaves n _ s

theorem putPoint_leaves (n : Nat) (x : Point) (s : State) : LeavesRegister s (s.putPoint n x) :=
  ⟨by simp, by simp, by simp, by simp, _, _, .of_same (by simp) (by simp)⟩

theorem markPoint_leaves (n : Nat) (s : State) : LeavesRegister s (markPoint n s) :=
  ⟨by simp, by simp, by simp, by simp, _, _, (Indicates.refl s).mark .point n .pressure⟩

section
variable {n : Nat} {s : State} {p : Point} (hp : Table.at? s.points n = some p)
include hp

theorem evaluateBand_handsOff (e : Profile) (x m : Nat) :
    handsOff p (p.evaluated e x m) s (evaluateBand n e x m s) := by
  rw [evaluateBand_eq hp]
  split
  · rename_i h
    exact handsOff_of_band h (putPoint_leaves n _ s)
  · rename_i h
    exact ⟨_, (putPoint_leaves n _ s).trans (markPoint_leaves n _), (if_neg h).symm⟩

variable (conv : Nat × Bool) (m : Nat)

omit hp in
theorem conditionStage_leaves : LeavesRegister s (conditionStage n conv s p) :=
  (updPoint_leaves n _ s).trans (setCondition_leaves n _ _)

theorem bandStage_handsOff : handsOff p (p.pressured s.profiles conv m) s (bandStage n conv m s p) := by
  unfold bandStage
  cases he : p.selected.bind (Table.at? s.profiles) with
  | none =>
    rw [pressured_unselected he]
    exact handsOff_of_band rfl (conditionStage_leaves conv)
  | some e =>
    rw [pressured_selected he]
    have h := evaluateBand_handsOff ((conditionStage_becomes n conv s hp).self hp) e conv.1 m
    exact handsOff.after h (conditionStage_leaves conv)

variable (hunread : underTest s n = false)

omit hp in
theorem bandStage_plans_kept : (bandStage n conv m s p).plans = (conditionStage n conv s p).plans := by
  unfold bandStage
  split <;> simp

include hunread

omit hp in
theorem bandStage_plans_unread : (bandStage n conv m s p).plans = s.plans := by
  have hset : underTest (s.updPoint n (fun q => { q with lastPressure := some conv.1, valid := true })) n = false := by
    rw [underTest_congr (s := s) (by simp), hunread]
  have hcondition : (conditionStage n conv s p).plans = s.plans := by
    rw [conditionStage, setCondition_plans_unread hset]
    simp
  rw [bandStage_plans_kept, hcondition]

theorem applyPressure_handsOff : handsOff p (p.pressured s.profiles conv m) s (applyPressure n conv m s) := by
  have hkept : underTest (bandStage n conv m s p) n = false := by
    rw [underTest_congr (bandStage_plans_unread conv m hunread), hunread]
  rw [applyPressure_eq n conv m s hp, testReadings_unread hkept]
  exact bandStage_handsOff hp conv m

theorem reading_handsOff (r : Nat) : handsOff p (p.read s r) s (reading n r s) := by
  have hat := at?_heard hp (some r)
  have hheard := heard_leaves n (some r) s
  by_cases hrail : isRail r = true
  · rw [reading_rail hp hrail, Point.read, if_pos hrail]
    exact handsOff_of_band rfl (hheard.trans (setCondition_leaves n _ _))
  · rw [reading_pressure hp hrail, Point.read, if_neg hrail]
    exact (applyPressure_handsOff hat _ 1 (by rw [underTest_congr (s := s) (by simp [State.heard]), hunread])).after hheard

theorem holdReading_handsOff (k : Nat) : handsOff p (p.holding s k) s (holdReading n k s) := by
  have hat := at?_heard hp none
  have hheard := heard_leaves n none s
  by_cases h : p.valid = false ∨ p.lastRaw = none
  · rw [holdReading_discarded hp h, holding_discarded h]
    exact handsOff_of_band rfl ⟨rfl, rfl, rfl, rfl, _, _, .refl s⟩
  · obtain ⟨hv, r, hr⟩ : p.valid = true ∧ ∃ r, p.lastRaw = some r := by
      simpa [Option.ne_none_iff_exists'] using h
    rw [holding_repeats hv hr]
    by_cases hrail : isRail r = true
    · rw [holdReading_rail hp hv hr hrail, if_pos hrail]
      refine handsOff_of_band rfl ?_
      split
      · exact hheard.trans (setCondition_leaves n _ _)
      · exact hheard
    · rw [holdReading_pressure hp hv hr hrail, if_neg hrail]
      exact (applyPressure_handsOff hat _ (k + 1)
        (by rw [underTest_congr (s := s) (by simp [State.heard]), hunread])).after hheard

end

/-! ## What the Register makes of it -/

/-- From `s` to `u` the incidents, the segments and the Register's own fields are as they were. -/
def registerKept (s u : State) : Prop := u.incidents = s.incidents ∧ u.register = s.register ∧ u.segments = s.segments

/-- From `s` to `u` the incidents of a segment are regraded, and nothing else of the Register changes. -/
def segmentRegraded (x : Nat) (s u : State) : Prop := u.register = s.register ∧ u.segments = s.segments ∧
  ∀ m, Table.at? u.incidents m = (Table.at? s.incidents m).map (fun j => if j.segment = x then regraded u j else j)

/-- A PRESSURE incident as it stands once it is made at second `now` (R86, R93, R98; log 15). -/
def madeForPressure (u : State) (x now : Nat) (j : Incident) : Prop :=
  j = { kind := .pressure, segment := x, firstReport := now, deadline := j.deadline, score := score u j
        grade := gradeOf (score u j), overdue := decide (j.deadline ≤ now), indoor := false, damage := false
        callCount := 0, entries := [], attendance := .unassigned, offerDesk := none, offerExpiry := none
        safety := .opened, plan := none, adjustment := 0 }

section
variable {p q : Point} {s u : State} (h : handsOff p q s u) (hs : Table.rises s.incidents)
include h

theorem handsOff.kept (hband : q.band = p.band) : registerKept s u := by
  obtain ⟨t, ht, rfl⟩ := h
  rw [if_pos hband]
  exact ⟨ht.incidents, ht.register, ht.segments⟩

theorem handsOff.eq (hband : q.band ≠ p.band) : ∃ t, LeavesRegister s t ∧ u = bandHandOff p.segment q.band t := by
  obtain ⟨t, ht, rfl⟩ := h
  exact ⟨t, ht, if_neg hband⟩

include hs

omit h in
theorem regradeSegment_regrades {t : State} (ht : LeavesRegister s t) (x : Nat) :
    segmentRegraded x s (regradeSegment x t) := by
  have hgrading : SameGrading t (regradeSegment x t) := ⟨by simp, by simp, by simp, by simp, by simp⟩
  refine ⟨by simp [ht.register], by simp [ht.segments], fun m => ?_⟩
  rw [at?_regradeSegment x t (by rwa [ht.incidents]), regraded_congr hgrading, ht.incidents]

theorem handsOff.other (hband : q.band ≠ p.band) (hother : ¬ ((q.band = .lowLow ∨ q.band = .highHigh) ∧
      Table.test s.segments p.segment (fun g => g.supply = .supplied) = true)) :
    (Table.test s.segments p.segment (fun g => 0 < g.openIncidents) = true → segmentRegraded p.segment s u) ∧
    (Table.test s.segments p.segment (fun g => 0 < g.openIncidents) = false → registerKept s u) := by
  obtain ⟨t, ht, rfl⟩ := h.eq hband
  rw [bandHandOff_other (by rwa [ht.segments]), ht.segments]
  refine ⟨fun hcounted => ?_, fun hcounted => ?_⟩
  · rw [if_pos hcounted]
    exact regradeSegment_regrades hs ht _
  · rw [if_neg (by rw [hcounted]; decide)]
    exact ⟨ht.incidents, ht.register, ht.segments⟩

variable (hband : q.band ≠ p.band) (hsevere : q.band = .lowLow ∨ q.band = .highHigh)
  (hsup : Table.test s.segments p.segment (fun g => g.supply = .supplied) = true)
include hband hsevere hsup

theorem handsOff.regrades (hopen : ∃ m j, Table.at? s.incidents m = some j ∧ j.segment = p.segment) :
    segmentRegraded p.segment s u := by
  obtain ⟨t, ht, rfl⟩ := h.eq hband
  rw [bandHandOff_severe hsevere (by rwa [ht.segments]),
    pressureRequest_regrades ((openIncidents_ne_nil (by rwa [ht.incidents])).2 (by rwa [ht.incidents]))]
  exact regradeSegment_regrades hs ht _

variable (hnone : ∀ m j, Table.at? s.incidents m = some j → j.segment ≠ p.segment)
include hnone

theorem handsOff.refused (hfree : Table.lowestFree s.incidents 512 = none) : u.incidents = s.incidents ∧
    u.segments = s.segments ∧ u.register = { s.register with full := true, lastRefused := some p.segment } := by
  obtain ⟨t, ht, rfl⟩ := h.eq hband
  rw [bandHandOff_severe hsevere (by rwa [ht.segments]), pressureRequest_refused
    (openIncidents_none (by rwa [ht.incidents]) (by rwa [ht.incidents])) (by rwa [ht.incidents])]
  exact ⟨by simp [ht.incidents], by simp [ht.segments], by simp [ht.register]⟩

theorem handsOff.makes {k : Nat} (hfree : Table.lowestFree s.incidents 512 = some k) :
    u.register = s.register ∧ flagsIf .incident k true s u ∧ raisesIf .incident true s u ∧
    (∃ j, madeForPressure u p.segment s.clock.second j ∧
      j.deadline = min 4294967295 (s.clock.second + allowance s j.grade * 60) ∧
      ∀ m, Table.at? u.incidents m = if m = k then some j else Table.at? s.incidents m) ∧
    ∀ m, Table.at? u.segments m =
      (Table.at? s.segments m).map (fun g => if m = p.segment then { g with openIncidents := 1 } else g) := by
  obtain ⟨t, ht, hu⟩ := h.eq hband
  have hrises : Table.rises t.incidents := by rwa [ht.incidents]
  have hnone' : ∀ m j, Table.at? t.incidents m = some j → j.segment ≠ p.segment := by rwa [ht.incidents]
  have hfree' : Table.lowestFree t.incidents Config.incidentSlots = some k := by rwa [ht.incidents]
  rw [bandHandOff_severe hsevere (by rwa [ht.segments]), pressureRequest_makes (openIncidents_none hrises hnone') hfree']
    at hu
  have hsegments := at?_makeIncident_segments hrises hnone' (Table.lowestFree_some hfree').2.1
    (i := newIncident t .pressure p.segment) rfl
  rw [← hu] at hsegments
  obtain ⟨ns, fs, hind⟩ := ht.indicates
  obtain ⟨hflag, hraise⟩ := makeIncident_marks k t (newIncident t .pressure p.segment)
  rw [← hu] at hflag hraise
  have hscore : score u (graded t (newIncident t .pressure p.segment)) = score t (newIncident t .pressure p.segment) := by
    refine score_congr (u := u) (i := newIncident t .pressure p.segment) (by simp [hu]) ?_ (fun a ha => by cases ha)
    rw [hsegments, Option.map_map]
    simp [newIncident, Function.comp_def]
  refine ⟨by simp [hu, ht.register], hind.then_flags hflag, hind.then_raises hraise,
    ⟨graded t (newIncident t .pressure p.segment), ?_, ?_, fun m => ?_⟩, fun m => by rw [hsegments, ht.segments]⟩
  · rw [madeForPressure, hscore]
    simp [graded, Incident.gradedBy, newIncident, State.now, ht.clock]
  · simp [graded, Incident.gradedBy, newIncident, candidateDeadline, addSeconds, allowance, State.now, ht.clock, ht.register,
      Config.lastSecond]
  · rw [hu, makeIncident_incidents, Table.at?_put, ht.incidents]

end

end Sys2Proof.Machine
end

section
/-! SUPPORT. What a reading or a hold of a point makes of a test that holds a TESTING entry for it (R61, R165, R166), and of
the incident of a plan found PASSING (R102, R135). -/

namespace Sys2Proof.Machine

/-! ## One entry of a RUNNING test -/

section
variable {r : Plan} {d : TestData} {e : TestEntry} {n : Nat} (ht : r.test = .running d)

theorem dropping_testing (d : TestData) (n : Nat) : (d.dropping n).entries.any (fun y => y.state = .testing) =
    d.entries.any (fun y => decide (y.point ≠ n ∧ y.state = .testing)) := by
  simp only [TestData.dropping, TestData.setEntry, List.any_map]
  congr 1
  funext y
  by_cases h : y.point = n <;> simp [h]

theorem testingEntry_dropping (d : TestData) (n : Nat) : testingEntry (.running (d.dropping n)) n = none := by
  simp only [testingEntry, List.find?_eq_none, TestData.dropping, TestData.setEntry, List.mem_map]
  rintro _ ⟨y, -, rfl⟩
  by_cases h : y.point = n <;> simp [h]

include ht

theorem testingEntry_of_mem (hnodup : (d.entries.map (fun y => y.point)).Nodup) (he : e ∈ d.entries)
    (hpoint : e.point = n) (htesting : e.state = .testing) : testingEntry r.test n = some e := by
  rw [ht]
  change d.entries.find? (fun y => y.point = n && y.state = .testing) = some e
  cases hf : d.entries.find? (fun y => y.point = n && y.state = .testing) with
  | none => exact absurd (List.find?_eq_none.1 hf e he) (by simp [hpoint, htesting])
  | some y =>
    have hy : y.point = n := by
      have := List.find?_some hf
      simp_all
    rw [List.inj_on_of_nodup_map hnodup (List.mem_of_find?_eq_some hf) he (hy.trans hpoint.symm)]

variable (he : testingEntry r.test n = some e)
include he

theorem dropped_secured (hsec : r.activeState = .secured) : r.dropped n =
    if d.entries.any (fun y => decide (y.point ≠ n ∧ y.state = .testing)) then { r with test := .running (d.dropping n) }
    else { r with test := .ended (d.dropping n), verdict := .untested } := by
  rw [dropped_running ht he, dropping_testing, Plan.foundUntested, if_pos hsec]

/-- A test that dropped a point takes no pressure of it. -/
theorem measured_dropped (x : Nat) (c : Condition) : (r.dropped n).measured n x c = r.dropped n := by
  refine measured_unread ?_
  rw [dropped_running ht he]
  split
  · exact testingEntry_dropping d n
  · unfold Plan.foundUntested
    split <;> rfl

end

/-! ## One plan among the others -/

theorem foldl_split {α : Type} {f : α → Nat → α} {l : List Nat} (hl : l.Nodup) {a : Nat} (ha : a ∈ l) (s : α) :
    ∃ l1 l2 : List Nat, a ∉ l1 ∧ a ∉ l2 ∧ l.foldl f s = l2.foldl f (f (l1.foldl f s) a) := by
  obtain ⟨l1, l2, rfl⟩ := List.append_of_mem ha
  rw [List.nodup_append] at hl
  obtain ⟨-, h2, hdis⟩ := hl
  exact ⟨l1, l2, fun h => hdis a h a List.mem_cons_self rfl, (List.nodup_cons.1 h2).1, by simp⟩

/-- A run of changes of other plans leaves a plan. -/
theorem at?_foldl_other {f : State → Nat → State} {g : Plan → Plan} (hf : ∀ s p, planBecomes p g s (f s p)) {a : Nat}
    (l : List Nat) (ha : a ∉ l) (s : State) : Table.at? (l.foldl f s).plans a = Table.at? s.plans a := by
  induction l generalizing s with
  | nil => rfl
  | cons p l ih =>
    rw [List.mem_cons, not_or] at ha
    rw [List.foldl_cons, ih ha.2, (hf s p).other ha.1]

/-! ## A test that drops the point (R166) -/

section
variable {s : State} {a n : Nat} {r : Plan} {e : TestEntry}

theorem dropEntry_marks (hr : Table.at? s.plans a = some r) (he : testingEntry r.test n = some e) :
    flagsIf .plan a true s (dropEntry n a s) ∧ raisesIf .plan true s (dropEntry n a s) := by
  obtain ⟨d, ht⟩ := running_of_testingEntry he
  have hmark (t : DecayTest) : flagsIf .plan a true s (markPlan a (setTest a t s)) ∧
      raisesIf .plan true s (markPlan a (setTest a t s)) :=
    (indicatesAmong.of_same (ns := []) (cs := []) (by simp) (by simp)).mark .plan a .plan
  rw [dropEntry_running hr ht he]
  split
  · exact hmark _
  · obtain ⟨hflag, hraise⟩ := hmark (.ended (d.dropping n))
    exact ⟨(setVerdict_among _ _ _).keeps_flag hflag, (setVerdict_among _ _ _).keeps_raise hraise⟩

theorem dropPoint_marks (hs : Table.rises s.plans) (hr : Table.at? s.plans a = some r)
    (he : testingEntry r.test n = some e) :
    flagsIf .plan a true s (dropPoint n s) ∧ raisesIf .plan true s (dropPoint n s) := by
  obtain ⟨l1, l2, h1, -, hsplit⟩ := foldl_split (f := fun s p => dropEntry n p s) (nodup_of_rising hs)
    (Table.mem_keys_of_at? hr) s
  have hamong (l : List Nat) (t : State) := indicatesAmong.foldl (fun s p => dropEntry_among p s n) l t
  have hr1 := (at?_foldl_other (fun s p => dropEntry_becomes p s n) l1 h1 s).trans hr
  obtain ⟨hflag, hraise⟩ := dropEntry_marks hr1 he
  obtain ⟨ms, fs, hi, -⟩ := hamong l1 s
  rw [dropPoint, hsplit]
  exact ⟨(hamong l2 _).keeps_flag (hi.then_flags hflag), (hamong l2 _).keeps_raise (hi.then_raises hraise)⟩

/-- From `s` to `u` the test `d` of plan `a` drops point `n`, which ends it UNTESTED where no other entry is TESTING. -/
def testDrops (n a : Nat) (r : Plan) (d : TestData) (s u : State) : Prop :=
  Table.at? u.plans a = some (if d.entries.any (fun y => decide (y.point ≠ n ∧ y.state = .testing))
    then { r with test := .running (d.dropping n) } else { r with test := .ended (d.dropping n), verdict := .untested }) ∧
  flagsIf .plan a true s u ∧ raisesIf .plan true s u

variable {d : TestData} (hs : Table.rises s.plans) (hr : Table.at? s.plans a = some r) (ht : r.test = .running d)
  (hsec : r.activeState = .secured) (he : testingEntry r.test n = some e)
include hs hr ht hsec he

/-- A change to a condition that drops the point reaches the test. -/
theorem setCondition_drops {p : Point} (hp : Table.at? s.points n = some p) {c : Condition} (hc : p.condition ≠ c)
    (hd : c.drops = true) : testDrops n a r d s (setCondition n c s) := by
  rw [setCondition_change hp hc, if_pos hd]
  have hkept : (markPoint n (s.updPoint n (fun p => { p with condition := c }))).plans = s.plans := by simp
  obtain ⟨hflag, hraise⟩ := dropPoint_marks (by rwa [hkept]) (by rwa [hkept]) he
  obtain ⟨ns, fs, hi⟩ := ((updPoint_leaves n _ s).trans (markPoint_leaves n _)).indicates
  refine ⟨?_, hi.then_flags hflag, hi.then_raises hraise⟩
  rw [at?_dropPoint n (by rwa [hkept]), hkept, hr, Option.map_some, dropped_secured ht he hsec]

end

/-! ## The incident of a plan found PASSING (R102, R135) -/

/-- From `s` to `u` each incident in use stays in use, and names the plan that it named. -/
def keepsLinks (s u : State) : Prop :=
  ∀ k j, Table.at? s.incidents k = some j → ∃ j', Table.at? u.incidents k = some j' ∧ j'.plan = j.plan

theorem keepsLinks.of_incidents {s u : State} (h : u.incidents = s.incidents) : keepsLinks s u :=
  fun _ j hj => ⟨j, h ▸ hj, rfl⟩

theorem keepsLinks.trans {s t u : State} (h : keepsLinks s t) (h' : keepsLinks t u) : keepsLinks s u := by
  intro k j hj
  obtain ⟨j1, h1, hp1⟩ := h k j hj
  obtain ⟨j2, h2, hp2⟩ := h' k j1 h1
  exact ⟨j2, h2, hp2.trans hp1⟩

theorem keepsLinks.foldl {α : Type} {f : State → α → State} (hf : ∀ s a, keepsLinks s (f s a)) (l : List α)
    (s : State) : keepsLinks s (l.foldl f s) := by
  induction l generalizing s with
  | nil => exact .of_incidents rfl
  | cons a l ih => exact (hf s a).trans (ih _)

theorem keepsLinks_of_becomes {n : Nat} {g : Incident → Incident} {s u : State} (h : incidentBecomes n g s u)
    (hg : ∀ i, (g i).plan = i.plan) : keepsLinks s u := by
  intro k j hj
  by_cases hk : k = n
  · subst hk
    exact ⟨_, h.self hj, hg j⟩
  · exact ⟨j, (h.other hk).trans hj, rfl⟩

theorem bandHandOff_links (x : Nat) (b : Band) (s : State) : keepsLinks s (bandHandOff x b s) := by
  have hregrade : keepsLinks s (regradeSegment x s) :=
    .foldl (fun s n => keepsLinks_of_becomes (regradeIncident_becomes n s) fun _ => rfl) _ s
  have hrequest : keepsLinks s (pressureRequest x s) := by
    unfold pressureRequest
    split
    · exact hregrade
    · split
      · rename_i n hn
        intro k j hj
        have hne : k ≠ n := by
          rintro rfl
          obtain ⟨-, hfree, -⟩ := Table.lowestFree_some hn
          cases hfree.symm.trans hj
        exact ⟨j, by rw [makeIncident_incidents, Table.at?_put_ne _ _ hne, hj], rfl⟩
      · exact .of_incidents (by simp)
  unfold bandHandOff regradeRequest
  split
  · exact hrequest
  · split
    · exact hregrade
    · exact .of_incidents rfl

/-- The incident `k` that plan `a` is linked to stands as the plan's PASSING leaves it. -/
def standsPassing (a k : Nat) (u : State) : Prop :=
  ∃ j, Table.at? u.incidents k = some j ∧ j.plan = some a ∧ j.safety = .makingSafe ∧ j.score = score u j ∧
    j.grade = gradeOf j.score

/-- An incident as it stands after a plan that names it was found PASSING. -/
def Incident.passing (u : State) (i : Incident) : Incident := regraded u { i with safety := .makingSafe }

/-- The event of a plan found PASSING and the regrade after it make the linked incident MAKING SAFE, and grade it anew. -/
theorem passingEvent_becomes {i : Option Nat} {k : Nat} (h : i = some k) (s : State) :
    incidentBecomes k (Incident.passing (regradePlanIncident i (planEvent .becomesPassing i s))) s
      (regradePlanIncident i (planEvent .becomesPassing i s)) := by
  subst h
  change incidentBecomes k (Incident.passing (regradeIncident k (setSafety k (safetyAfter .becomesPassing) s))) s
    (regradeIncident k (setSafety k (safetyAfter .becomesPassing) s))
  refine ((setSafety_becomes k s _).trans (regradeIncident_becomes k _)).congr fun j _ => ?_
  rw [← regraded_congr (regradeIncident_sameGrading k _)]
  unfold Incident.passing
  cases j.safety <;> rfl

section
variable {p : Nat} {s : State} {q : Plan} (hq : Table.at? s.plans p = some q) (hsec : q.activeState = .secured)
include hq hsec

theorem setVerdict_passing_unlinked (h : q.incident = none) : (setVerdict p .passing s).incidents = s.incidents := by
  rw [setVerdict_passing_secured hq hsec, h]
  simp [regradePlanIncident, planEvent]

theorem setVerdict_passing_linked {k : Nat} (h : q.incident = some k) :
    incidentBecomes k (Incident.passing (setVerdict p .passing s)) s (setVerdict p .passing s) := by
  rw [setVerdict_passing_secured hq hsec]
  exact (Table.becomes.of_eq (by simp)).trans (passingEvent_becomes h _)

theorem setVerdict_passing_marks : flagsIf .plan p true s (setVerdict p .passing s) ∧
    raisesIf .plan true s (setVerdict p .passing s) := by
  rw [setVerdict_passing_secured hq hsec]
  obtain ⟨hflag, hraise⟩ := (indicatesAmong.of_same (ns := []) (cs := []) (s := s)
    (u := s.putPlan p { q with verdict := .passing, activeState := .passing }) (by simp) (by simp)).mark .plan p .plan
  have hevent (t : State) := (planEvent_among t .becomesPassing q.incident).trans (regradePlanIncident_among _ q.incident)
  exact ⟨(hevent _).keeps_flag hflag, (hevent _).keeps_raise hraise⟩

end

section
variable (n x : Nat) (c : Condition) (p : Nat) (s : State)

/-- A reading handed to a test reaches an incident only where it finds the plan PASSING. -/
theorem testReading_incidents : (testReading n x c p s).incidents = s.incidents ∨
    ∃ k, incidentBecomes k (Incident.passing (testReading n x c p s)) s (testReading n x c p s) := by
  by_cases hc : c = .overRange
  · subst hc
    rw [testReading_overRange]
    exact .inl (dropEntry_does n s p).1
  cases hq : Table.at? s.plans p with
  | none => exact .inl (by rw [testReading, hq])
  | some q =>
    cases he : testingEntry q.test n with
    | none => exact .inl (by rw [testReading_unread hq he])
    | some e =>
      obtain ⟨d, ht⟩ := running_of_testingEntry he
      rw [testReading_running hq hc ht he]
      split
      · have hended := (setTest_becomes p s (.ended (d.taking n x))).self hq
        by_cases hsec : q.activeState = .secured
        · cases hi : q.incident with
          | none => exact .inl (by rw [setVerdict_passing_unlinked hended hsec hi]; simp)
          | some k => exact .inr ⟨k, (Table.becomes.of_eq (by simp)).trans (setVerdict_passing_linked hended hsec hi)⟩
        · exact .inl (by rw [setVerdict_unsecured hended hsec]; simp)
      · exact .inl (by simp)

theorem testReading_links : keepsLinks s (testReading n x c p s) := by
  obtain h | ⟨k, h⟩ := testReading_incidents n x c p s
  · exact .of_incidents h
  · exact keepsLinks_of_becomes h fun _ => rfl

variable {p s} {a k : Nat}

/-- What another plan's test makes of a reading leaves the linked incident as PASSING left it. -/
theorem standsPassing.testReading (h : standsPassing a k s) (hp : a ≠ p) :
    standsPassing a k (testReading n x c p s) := by
  obtain ⟨j, hj, hplan, hsafety, hscore, hgrade⟩ := h
  have hsame : score (Machine.testReading n x c p s) j = score s j := by
    refine score_congr (by simp) (by simp) fun b hb => ?_
    obtain rfl : a = b := Option.some.inj (hplan.symm.trans hb)
    exact (testReading_becomes p s n x c).other hp
  obtain hinc | ⟨m, hinc⟩ := testReading_incidents n x c p s
  · exact ⟨j, by rw [hinc, hj], hplan, hsafety, by rw [hsame, hscore], hgrade⟩
  by_cases hm : k = m
  · subst hm
    exact ⟨_, hinc.self hj, hplan, rfl, rfl, rfl⟩
  · exact ⟨j, by rw [hinc.other hm, hj], hplan, hsafety, by rw [hsame, hscore], hgrade⟩

end

/-! ## A pressure that reaches a test (R165, R166) -/

/-- From `s` to `u` the pressure `x` of point `n` ends the test `d` of plan `a` PASSING. -/
def testPasses (n x a : Nat) (r : Plan) (d : TestData) (s u : State) : Prop :=
  Table.at? u.plans a = some { r with test := .ended (d.taking n x), verdict := .passing, activeState := .passing } ∧
  flagsIf .plan a true s u ∧ raisesIf .plan true s u ∧
  ∀ k j, r.incident = some k → Table.at? s.incidents k = some j → j.plan = some a → standsPassing a k u

section
variable {s : State} {a n x : Nat} {c : Condition} {r : Plan} {e : TestEntry} {d : TestData}
  (hr : Table.at? s.plans a = some r) (ht : r.test = .running d) (hsec : r.activeState = .secured)
  (he : testingEntry r.test n = some e) (hc : c ≠ .overRange)
include hr ht hsec he hc

theorem testReading_passes (hx : e.p0 + r.rise < x) : testPasses n x a r d s (testReading n x c a s) := by
  have hplan := (testReading_becomes a s n x c).self hr
  rw [measured_running hc ht he, if_pos hx, Plan.foundPassing, if_pos hsec] at hplan
  refine ⟨hplan, ?_⟩
  have hended := (setTest_becomes a s (.ended (d.taking n x))).self hr
  obtain ⟨hflag, hraise⟩ := setVerdict_passing_marks hended hsec
  rw [testReading_running hr hc ht he, if_pos hx]
  refine ⟨?_, ?_, fun k j hk hj hlink => ?_⟩
  · exact (Indicates.of_same (by simp) (by simp)).then_flags hflag
  · exact (Indicates.of_same (by simp) (by simp)).then_raises hraise
  · exact ⟨_, (setVerdict_passing_linked hended hsec hk).self (by simpa using hj), hlink, rfl, rfl, rfl⟩

variable (hs : Table.rises s.plans)
include hs

theorem testReadings_passes (hx : e.p0 + r.rise < x) : testPasses n x a r d s (testReadings n x c s) := by
  obtain ⟨l1, l2, h1, h2, hsplit⟩ := foldl_split (f := fun s p => testReading n x c p s) (nodup_of_rising hs)
    (Table.mem_keys_of_at? hr) s
  have hamong (l : List Nat) (t : State) := indicatesAmong.foldl (fun s p => testReading_among p s n x c) l t
  have hr1 := (at?_foldl_other (fun s p => testReading_becomes p s n x c) l1 h1 s).trans hr
  obtain ⟨hplan, hflag, hraise, hlinked⟩ := testReading_passes hr1 ht hsec he hc hx
  obtain ⟨ms, fs, hi, -⟩ := hamong l1 s
  rw [testReadings, hsplit]
  refine ⟨(at?_foldl_other (fun s p => testReading_becomes p s n x c) l2 h2 _).trans hplan,
    (hamong l2 _).keeps_flag (hi.then_flags hflag), (hamong l2 _).keeps_raise (hi.then_raises hraise),
    fun k j hk hj hlink => ?_⟩
  obtain ⟨j1, hj1, hlink1⟩ := keepsLinks.foldl (fun s p => testReading_links n x c p s) l1 s k j hj
  exact List.foldlRecOn l2 _ (hlinked k j1 hk hj1 (hlink1.trans hlink)) fun t ht p hp =>
    ht.testReading n x c (fun h => h2 (h ▸ hp))

omit hsec in
theorem testReadings_takes (hx : x ≤ e.p0 + r.rise) :
    Table.at? (testReadings n x c s).plans a = some { r with test := .running (d.taking n x) } := by
  rw [at?_testReadings n hs a, hr, Option.map_some, measured_running hc ht he, if_neg (not_lt.2 hx)]

end

end Sys2Proof.Machine
end

section
/-! SUPPORT. What a reading or a hold of a point makes of a RUNNING test that holds a TESTING entry for it (R61, R165, R166),
and O31. -/

namespace Sys2Proof.Machine

/-! ## The tests of a point, after its condition and band -/

/-- A run of changes that each leave the record of a plan as it is. -/
theorem at?_foldl_fixed {f : State → Nat → State} {g : Plan → Plan} (hf : ∀ s p, planBecomes p g s (f s p))
    (l : List Nat) {s : State} {a : Nat} {q : Plan} (hq : Table.at? s.plans a = some q) (hg : g q = q) :
    Table.at? (l.foldl f s).plans a = some q := by
  refine List.foldlRecOn (motive := fun u : State => Table.at? u.plans a = some q) l _ hq fun u hu p _ => ?_
  rw [hf u p a, hu, Option.map_some, hg, ite_self]

theorem readingCondition_drops {selected : Option Nat} {clamped : Bool}
    (h : readingCondition selected clamped ≠ .overRange) : (readingCondition selected clamped).drops = false := by
  cases selected <;> cases clamped <;> simp_all [readingCondition, Condition.drops]

section
variable {n a : Nat} {r : Plan} {d : TestData} {s t u : State}

theorem testDrops.after (h : testDrops n a r d t u) (hs : LeavesRegister s t) : testDrops n a r d s u := by
  obtain ⟨hplan, hflag, hraise⟩ := h
  obtain ⟨ns, fs, hi⟩ := hs.indicates
  exact ⟨hplan, hi.then_flags hflag, hi.then_raises hraise⟩

theorem testPasses.after {x : Nat} (h : testPasses n x a r d t u) {ns : List Notice} {fs : List (RecordClass × Nat)}
    (hi : Indicates ns fs s t) (hlinks : keepsLinks s t) : testPasses n x a r d s u := by
  obtain ⟨hplan, hflag, hraise, hlinked⟩ := h
  refine ⟨hplan, hi.then_flags hflag, hi.then_raises hraise, fun k j hk hj hlink => ?_⟩
  obtain ⟨j', hj', hlink'⟩ := hlinks k j hj
  exact hlinked k j' hk hj' (hlink'.trans hlink)

/-- From `s` to `u` the pressure `x` of point `n`, over range if `high`, is handed to the test `d` of plan `a`. -/
structure TestHandled (n x : Nat) (high : Prop) (a : Nat) (r : Plan) (d : TestData) (e : TestEntry) (s u : State) :
    Prop where
  drops : high → testDrops n a r d s u
  takes : ¬ high → x ≤ e.p0 + r.rise → Table.at? u.plans a = some { r with test := .running (d.taking n x) }
  passes : ¬ high → e.p0 + r.rise < x → testPasses n x a r d s u

theorem TestHandled.after {x : Nat} {high : Prop} {e : TestEntry} (h : TestHandled n x high a r d e t u)
    (hs : LeavesRegister s t) : TestHandled n x high a r d e s u := by
  obtain ⟨hdrops, htakes, hpasses⟩ := h
  obtain ⟨ns, fs, hi⟩ := hs.indicates
  exact ⟨fun h => (hdrops h).after hs, htakes, fun h hx => (hpasses h hx).after hi (.of_incidents hs.incidents)⟩

end

section
variable {n : Nat} {s : State} {p : Point} (conv : Nat × Bool) (m : Nat)

theorem evaluateBand_links (e : Profile) (x : Nat) : keepsLinks s (evaluateBand n e x m s) := by
  cases hp : Table.at? s.points n with
  | none => exact .of_incidents (by rw [evaluateBand, hp])
  | some p =>
    rw [evaluateBand_eq hp]
    split
    · exact .of_incidents (by simp)
    · exact (keepsLinks.of_incidents (by simp)).trans (bandHandOff_links _ _ _)

theorem bandStage_links : keepsLinks s (bandStage n conv m s p) := by
  have hcondition : keepsLinks s (conditionStage n conv s p) := .of_incidents (conditionStage_leaves conv).incidents
  unfold bandStage
  split
  · exact hcondition.trans (evaluateBand_links m _ _)
  · exact hcondition

variable {a : Nat} {r : Plan} {d : TestData} {e : TestEntry} (hp : Table.at? s.points n = some p)
  (hcond : p.condition = .ok ∨ p.condition = .unbanded)
  (hs : Table.rises s.plans) (hr : Table.at? s.plans a = some r) (ht : r.test = .running d)
  (hsec : r.activeState = .secured) (he : testingEntry r.test n = some e)
include hp hcond hs hr ht hsec he

/-- The condition OVER RANGE drops the entry, and the tests, which are handed the pressure too, then find none. -/
theorem applyPressure_drops (hover : readingCondition p.selected conv.2 = .overRange) :
    testDrops n a r d s (applyPressure n conv m s) := by
  have hcondition : testDrops n a r d s (conditionStage n conv s p) := by
    rw [conditionStage, hover]
    refine testDrops.after (t := s.updPoint n fun q => { q with lastPressure := some conv.1, valid := true }) ?_
      (updPoint_leaves n _ s)
    refine setCondition_drops (by simpa using hs) (by simpa using hr) ht hsec he (at?_withPressure hp conv) ?_ rfl
    obtain h | h := hcond <;> simp [h]
  obtain ⟨hplan, hflag, hraise⟩ := hcondition
  rw [applyPressure_eq n conv m s hp, hover]
  have htests := testReadings_among n (bandStage n conv m s p) conv.1 .overRange
  have hband := bandStage_among (n := n) (s := s) (p := p) conv m
  rw [← dropped_secured ht he hsec, ← bandStage_plans_kept conv m] at hplan
  refine ⟨?_, htests.keeps_flag (hband.keeps_flag hflag), htests.keeps_raise (hband.keeps_raise hraise)⟩
  rw [← dropped_secured ht he hsec]
  exact at?_foldl_fixed (fun s p => testReading_becomes p s n conv.1 .overRange) _ hplan
    (measured_dropped ht he conv.1 .overRange)

omit hcond hs hr ht hsec he in
/-- A pressure that is not over range drops no entry before the tests are handed it. -/
theorem bandStage_plans_of_ne (hover : readingCondition p.selected conv.2 ≠ .overRange) :
    (bandStage n conv m s p).plans = s.plans := by
  rw [bandStage_plans_kept, conditionStage,
    (setCondition_others (at?_withPressure hp conv) fun _ => readingCondition_drops hover).1]
  simp

theorem applyPressure_test :
    TestHandled n conv.1 (readingCondition p.selected conv.2 = .overRange) a r d e s (applyPressure n conv m s) where
  drops := applyPressure_drops conv m hp hcond hs hr ht hsec he
  takes hover hx := by
    have hplans := bandStage_plans_of_ne conv m hp hover
    rw [applyPressure_eq n conv m s hp]
    exact testReadings_takes (by rwa [hplans]) ht he hover (by rwa [hplans]) hx
  passes hover hx := by
    have hplans := bandStage_plans_of_ne conv m hp hover
    obtain ⟨ns, fs, hi⟩ := (conditionStage_leaves (n := n) (s := s) (p := p) conv).indicates
    obtain ⟨ms, fs', hi', -⟩ := bandStage_among (n := n) (s := s) (p := p) conv m
    rw [applyPressure_eq n conv m s hp]
    exact (testReadings_passes (by rwa [hplans]) ht hsec he hover (by rwa [hplans]) hx).after (hi.trans hi')
      (bandStage_links conv m)

end

/-! ## A reading or a hold -/

section
variable {n a : Nat} {s : State} {p : Point} {r : Plan} {d : TestData} {e : TestEntry}
  (hp : Table.at? s.points n = some p) (hcond : p.condition = .ok ∨ p.condition = .unbanded)
  (hs : Table.rises s.plans) (hr : Table.at? s.plans a = some r) (ht : r.test = .running d)
  (hsec : r.activeState = .secured) (he : testingEntry r.test n = some e)
include hp hcond hs hr ht hsec he

theorem reading_rail_test {raw : Nat} (hrail : isRail raw = true) : testDrops n a r d s (reading n raw s) := by
  rw [reading_rail hp hrail]
  refine testDrops.after (setCondition_drops (by simpa [State.heard] using hs) (by simpa [State.heard] using hr) ht
    hsec he (at?_heard hp (some raw)) ?_ rfl) (heard_leaves n _ s)
  obtain h | h := hcond <;> simp [Point.heard, h]

/-- A pressure of a point heard of reaches the test. -/
theorem heard_test (raw : Option Nat) (conv : Nat × Bool) (m : Nat) :
    TestHandled n conv.1 (((p.heard s raw).pressured s.profiles conv m).condition = .overRange) a r d e s
      (applyPressure n conv m (s.heard n raw)) := by
  rw [pressured_condition]
  exact (applyPressure_test conv m (at?_heard hp raw) (by exact hcond) (by simpa [State.heard] using hs)
    (by simpa [State.heard] using hr) ht hsec he).after (heard_leaves n raw s)

theorem reading_test {raw : Nat} (hrail : ¬ isRail raw = true) : TestHandled n (convert p.zero p.gain raw).1
    ((p.read s raw).condition = .overRange) a r d e s (reading n raw s) := by
  rw [reading_pressure hp hrail, Point.read, if_neg hrail]
  exact heard_test hp hcond hs hr ht hsec he _ _ _

theorem holdReading_test {raw : Nat} (hv : p.valid = true) (hraw : p.lastRaw = some raw) (hrail : ¬ isRail raw = true)
    (k : Nat) : TestHandled n (convert p.zero p.gain raw).1 ((p.holding s k).condition = .overRange) a r d e s
      (holdReading n k s) := by
  rw [holdReading_pressure hp hv hraw hrail, holding_repeats hv hraw, if_neg hrail]
  exact heard_test hp hcond hs hr ht hsec he _ _ _

end

/-! ## The item at the head of the queue -/

theorem taken_leaves (s : State) (rest : List Item) : LeavesRegister s (s.taken rest) :=
  ⟨rfl, rfl, rfl, rfl, _, _, .of_same rfl rfl⟩

/-- What a reading or a hold item hands on: from `s` to `u` point `n`, which was `p`, becomes `q`. -/
structure ItemHandsOn (c : Instr) (i : Item) (n : Nat) (p q : Point) (s u : State) : Prop where
  point : Table.at? u.points n = some q
  marks : marksPoint n (decide (q.condition ≠ p.condition) || decide (q.band ≠ p.band)) s u
  register : underTest s n = false → handsOff p q s u
  tests : ∀ a r d e, Table.at? s.plans a = some r → r.test = .running d → r.activeState = .secured →
    testingEntry r.test n = some e → p.condition = .ok ∨ p.condition = .unbanded →
    ∀ raw, (c = .readingItem ∧ raw = i.value) ∨ (c = .holdItem ∧ p.valid = true ∧ p.lastRaw = some raw) →
      (c = .readingItem → isRail raw = true → testDrops n a r d s u) ∧
      (¬ isRail raw = true → TestHandled n (convert p.zero p.gain raw).1 (q.condition = .overRange) a r d e s u)

section
variable {s : State} {i : Item} {rest : List Item} {n : Nat} {p : Point} (hs : s.awake) (hplans : Table.rises s.plans)
  (hq : s.intake.queue = i :: rest) (hn : pointByTag s i.tag = some n) (hp : Table.at? s.points n = some p)
include hs hplans hq hn hp

theorem readingItem_handsOn (hk : i.sort = .reading) :
    ∃ u q, exec .readingItem s = .next u ∧ ItemHandsOn .readingItem i n p q s u := by
  have hpt : Table.at? (s.taken rest).points n = some p := hp
  refine ⟨_, _, exec_readingItem hs hq hn hk, at?_reading hpt i.value, reading_marks hpt i.value,
    fun h => (reading_handsOff hpt h i.value).after (taken_leaves s rest),
    fun a r d e hr ht hsec he hcond raw hraw => ?_⟩
  obtain ⟨-, rfl⟩ : _ ∧ raw = i.value := hraw.resolve_right (by simp)
  exact ⟨fun _ hrail => reading_rail_test hpt hcond hplans hr ht hsec he hrail,
    fun hrail => (reading_test hpt hcond hplans hr ht hsec he hrail).after (taken_leaves s rest)⟩

theorem holdItem_handsOn (hk : i.sort = .hold) :
    ∃ u q, exec .holdItem s = .next u ∧ ItemHandsOn .holdItem i n p q s u := by
  have hpt : Table.at? (s.taken rest).points n = some p := hp
  refine ⟨_, _, exec_holdItem hs hq hn hk, at?_holdReading hpt i.value, holdReading_marks hpt i.value,
    fun h => (holdReading_handsOff hpt h i.value).after (taken_leaves s rest),
    fun a r d e hr ht hsec he hcond raw hraw => ?_⟩
  obtain ⟨-, hv, hlast⟩ := hraw.resolve_left (by simp)
  exact ⟨fun h => (by cases h), fun hrail =>
    (holdReading_test hpt hcond hplans hr ht hsec he hv hlast hrail i.value).after (taken_leaves s rest)⟩

end

/-- Settles O31: what each stage of a reading marks, hands to the Register and hands to the tests. -/
theorem readingsReachTheRegisterAndTheTests : Obligations.ReadingsReachTheRegisterAndTheTests := by
  unfold Obligations.ReadingsReachTheRegisterAndTheTests
  intro c s i rest n p hs htables hq hn hp hc
  obtain ⟨-, -, -, -, ⟨hincidents, -⟩, ⟨hplans, -⟩, -⟩ := htables
  obtain ⟨u, q, hexec, hpoint, ⟨hflags, hraises⟩, hregister, htests⟩ :
      ∃ u q, exec c s = .next u ∧ ItemHandsOn c i n p q s u := by
    obtain ⟨rfl, hk⟩ | ⟨rfl, hk⟩ := hc
    · exact readingItem_handsOn hs hplans hq hn hp hk
    · exact holdItem_handsOn hs hplans hq hn hp hk
  refine ⟨u, q, hexec, hpoint, fun m => by simpa using hflags m, by simpa using hraises, fun hunread => ?_,
    fun a r d e hr ht hsec hnodup hmem hpt htesting hcond raw hraw => ?_⟩
  · have hand := hregister hunread
    refine ⟨hand.kept, fun hband hsevere hsup => ⟨fun hopen => ?_, fun hnone k hk => ?_, fun hnone hfull => ?_⟩,
      fun hband hother => hand.other hincidents hband hother⟩
    · exact hand.regrades hincidents hband hsevere hsup (by simpa using hopen)
    · exact hand.makes hincidents hband hsevere hsup hnone hk
    · exact hand.refused hincidents hband hsevere hsup hnone hfull
  · have he := testingEntry_of_mem ht hnodup hmem hpt htesting
    obtain ⟨hrailed, hpressure⟩ := htests a r d e hr ht hsec he hcond raw hraw
    have hoff (h0 : raw ≠ 0) (h1 : raw ≠ 65535) : ¬ isRail raw = true := fun h => (isRail_iff.1 h).elim h0 h1
    rw [convert_eq] at hpressure
    refine ⟨fun h hrail => hrailed h (isRail_iff.2 hrail), fun h0 h1 => (hpressure (hoff h0 h1)).drops,
      fun h0 h1 => (hpressure (hoff h0 h1)).takes, fun h0 h1 hover hx => ?_⟩
    obtain ⟨hplan, hflag, hraise, hlinked⟩ := (hpressure (hoff h0 h1)).passes hover hx
    refine ⟨hplan, hflag, hraise, fun k j hk hj hlink => ?_⟩
    obtain ⟨j', hj', -, hsafety, hscore, hgrade⟩ := hlinked k j hk hj hlink
    exact ⟨j', hj', hsafety, hscore, hgrade⟩

end Sys2Proof.Machine
end

section
/-! SUPPORT. The forms of the record tables (00 §1.2): what keeps the table of plans in its form and below its capacity,
said once for each operation that writes a plan. -/

namespace Sys2Proof.Machine

/-! ## The table of plans -/

/-- From `s` to `u` the table of plans keeps its form and its capacity. -/
structure KeepsPlans (s u : State) : Prop where
  plans : Table.wf s.plans Config.planSlots → Table.wf u.plans Config.planSlots

theorem KeepsPlans.of_plans {s u : State} (h : u.plans = s.plans) : KeepsPlans s u := ⟨fun w => by rwa [h]⟩

@[refl] theorem KeepsPlans.refl (s : State) : KeepsPlans s s := ⟨id⟩

theorem KeepsPlans.trans {s t u : State} (h : KeepsPlans s t) (h' : KeepsPlans t u) : KeepsPlans s u :=
  ⟨h'.plans ∘ h.plans⟩

section
variable {s t : State}

/-- The table keeps its form through an operation that leaves it. -/
theorem KeepsPlans.frame {u : State} (h : KeepsPlans s t) (hu : u.plans = t.plans) : KeepsPlans s u :=
  h.trans (.of_plans hu)

theorem KeepsPlans.ite {c : Prop} [Decidable c] {a b : State} (ha : KeepsPlans s a) (hb : KeepsPlans s b) :
    KeepsPlans s (if c then a else b) := by
  split
  · exact ha
  · exact hb

theorem KeepsPlans.foldl {α : Type} {f : State → α → State}
    (hf : ∀ {t : State}, KeepsPlans s t → ∀ {a}, KeepsPlans s (f t a)) {l : List α} (h : KeepsPlans s t) :
    KeepsPlans s (l.foldl f t) := by
  induction l generalizing t with
  | nil => exact h
  | cons a l ih => exact ih (hf h)

theorem KeepsPlans.updPlan (h : KeepsPlans s t) {p : Nat} {f : Plan → Plan} : KeepsPlans s (t.updPlan p f) :=
  h.trans ⟨fun w => by simpa using Table.wf_upd w p f⟩

theorem KeepsPlans.putPlan (h : KeepsPlans s t) {p : Nat} {q r : Plan} (hr : Table.at? t.plans p = some r) :
    KeepsPlans s (t.putPlan p q) :=
  h.trans ⟨fun w => by simpa using Table.wf_put_of_at? w hr q⟩

theorem markPlan_keepsPlans (h : KeepsPlans s t) {p : Nat} : KeepsPlans s (markPlan p t) := h.frame (by simp)

theorem planEvent_keepsPlans (h : KeepsPlans s t) {e : PlanEvent} {i : Option Nat} : KeepsPlans s (planEvent e i t) :=
  h.frame (by simp)

theorem regradePlanIncident_keepsPlans (h : KeepsPlans s t) {i : Option Nat} :
    KeepsPlans s (regradePlanIncident i t) := h.frame (by simp)

/-! ## Verification Unit -/

theorem setTest_keepsPlans (h : KeepsPlans s t) {p : Nat} {x : DecayTest} : KeepsPlans s (setTest p x t) := h.updPlan

theorem setVerdict_keepsPlans (h : KeepsPlans s t) {p : Nat} {v : Verdict} : KeepsPlans s (setVerdict p v t) := by
  unfold setVerdict
  split
  · exact h
  · rename_i q hq
    refine .ite h ?_
    cases v with
    | none => exact h
    | untested => exact markPlan_keepsPlans (h.putPlan hq)
    | tight => exact planEvent_keepsPlans (markPlan_keepsPlans (h.putPlan hq))
    | passing => exact regradePlanIncident_keepsPlans (planEvent_keepsPlans (markPlan_keepsPlans (h.putPlan hq)))

theorem startTest_keepsPlans (h : KeepsPlans s t) {p : Nat} : KeepsPlans s (startTest p t) := by
  unfold startTest
  split
  · exact h
  · exact .ite (setVerdict_keepsPlans (setTest_keepsPlans h)) (setTest_keepsPlans h)

theorem dropEntry_keepsPlans (h : KeepsPlans s t) {n p : Nat} : KeepsPlans s (dropEntry n p t) := by
  unfold dropEntry
  split
  · exact h
  · split
    · exact .ite (markPlan_keepsPlans (setTest_keepsPlans h))
        (setVerdict_keepsPlans (markPlan_keepsPlans (setTest_keepsPlans h)))
    · exact h

theorem dropPoint_keepsPlans (h : KeepsPlans s t) {n : Nat} : KeepsPlans s (dropPoint n t) :=
  .foldl (fun h => dropEntry_keepsPlans h) h

theorem testReading_keepsPlans (h : KeepsPlans s t) {n x : Nat} {c : Condition} {p : Nat} :
    KeepsPlans s (testReading n x c p t) := by
  unfold testReading
  split
  · exact h
  · split
    · exact .ite (dropEntry_keepsPlans h) (.ite (setVerdict_keepsPlans (setTest_keepsPlans h)) (setTest_keepsPlans h))
    · exact h

theorem testReadings_keepsPlans (h : KeepsPlans s t) {n x : Nat} {c : Condition} :
    KeepsPlans s (testReadings n x c t) :=
  .foldl (fun h => testReading_keepsPlans h) h

theorem endWindow_keepsPlans (h : KeepsPlans s t) {p : Nat} : KeepsPlans s (endWindow p t) := by
  unfold endWindow
  split
  · exact h
  · split
    · exact .ite (setVerdict_keepsPlans (setTest_keepsPlans h)) h
    · exact h

theorem endWindows_keepsPlans (h : KeepsPlans s t) : KeepsPlans s (endWindows t) :=
  .foldl (fun h => endWindow_keepsPlans h) h

/-! ## Order Unit -/

/-- A run of changes of single plans, each of which marks its plan. -/
theorem markedPlans_keepsPlans (h : KeepsPlans s t) {f : Plan → Plan} {l : List Nat} :
    KeepsPlans s (l.foldl (fun s p => markPlan p (s.updPlan p f)) t) :=
  .foldl (fun h => markPlan_keepsPlans h.updPlan) h

theorem failPlans_keepsPlans (h : KeepsPlans s t) {v : Nat} : KeepsPlans s (failPlans v t) := markedPlans_keepsPlans h

theorem clearFailed_keepsPlans (h : KeepsPlans s t) {v : Nat} : KeepsPlans s (clearFailed v t) :=
  markedPlans_keepsPlans h

theorem needRevision_keepsPlans (h : KeepsPlans s t) {v : Nat} : KeepsPlans s (needRevision v t) :=
  markedPlans_keepsPlans h

theorem timeOutOrder_keepsPlans (h : KeepsPlans s t) {n : Nat} : KeepsPlans s (timeOutOrder n t) := by
  unfold timeOutOrder
  split
  · exact h
  · exact failPlans_keepsPlans (h.frame (by simp))

theorem timeOutOrders_keepsPlans (h : KeepsPlans s t) : KeepsPlans s (timeOutOrders t) := by
  unfold timeOutOrders
  dsimp only
  split
  · exact h
  · have h1 : KeepsPlans s ((Table.keys (t.orders.filter (fun r => r.2.state = .fetched &&
        r.2.expiry.any (fun e => e ≤ t.now)))).foldl (fun s n => timeOutOrder n s) t) :=
      .foldl (fun h => timeOutOrder_keepsPlans h) h
    exact h1.frame (by simp)

theorem reissue_keepsPlans (h : KeepsPlans s t) {v : Nat} : KeepsPlans s (reissue v t) := by
  unfold reissue
  split
  · exact h
  · exact .ite (clearFailed_keepsPlans (h.frame (by simp))) (.ite (h.frame (by simp)) h)

/-! ## Plan Engine -/

theorem transferCore_keepsPlans (h : KeepsPlans s t) {p : Nat} : KeepsPlans s (transferCore p t).1 := by
  unfold transferCore
  split
  · exact h
  · rename_i q hq
    extract_lets raised lowered s1 q1 s2 s3 s4 s5 s6 s7 s8
    have h1 : KeepsPlans s s1 := h.frame (by simp [s1])
    have h2 : KeepsPlans s s2 := markPlan_keepsPlans (h1.putPlan (by simpa [s1] using hq))
    have h3 : KeepsPlans s s3 := .ite (startTest_keepsPlans h2) h2
    have h4 : KeepsPlans s s4 := h3.frame (by simp [s4])
    have h5 : KeepsPlans s s5 := h4.updPlan
    exact h5.frame (by simp [s8, s7, s6])

theorem completeRelease_keepsPlans (h : KeepsPlans s t) {p : Nat} : KeepsPlans s (completeRelease p t) :=
  markPlan_keepsPlans h.updPlan

theorem testRelease_keepsPlans (h : KeepsPlans s t) {k p : Nat} : KeepsPlans s (testRelease k p t) := by
  induction k generalizing p t with
  | zero => exact h
  | succ k ih =>
    unfold testRelease
    split
    · exact h
    · have h1 : KeepsPlans s (completeRelease p t) := completeRelease_keepsPlans h
      exact .ite (.ite (.foldl (fun h => ih h) (transferCore_keepsPlans h1)) h1) h

theorem testPlan_keepsPlans (h : KeepsPlans s t) {p : Nat} : KeepsPlans s (testPlan p t) := testRelease_keepsPlans h

theorem transfer_keepsPlans (h : KeepsPlans s t) {p : Nat} : KeepsPlans s (transfer p t) :=
  .foldl (fun h => testPlan_keepsPlans h) (transferCore_keepsPlans h)

theorem becomeSecured_keepsPlans (h : KeepsPlans s t) {p : Nat} : KeepsPlans s (becomeSecured p t) := by
  have h1 : KeepsPlans s (markPlan p (t.updPlan p (fun q => { q with activeState := .secured }))) :=
    markPlan_keepsPlans h.updPlan
  exact .ite (transfer_keepsPlans h1) (startTest_keepsPlans h1)

theorem returnToIssuing_keepsPlans (h : KeepsPlans s t) {p : Nat} {q : Plan} (hq : Table.at? t.plans p = some q) :
    KeepsPlans s (returnToIssuing p q t) := by
  unfold returnToIssuing
  extract_lets s1 s2
  have h1 : KeepsPlans s s1 := markPlan_keepsPlans (h.putPlan hq)
  exact h1.frame (by simp [s2])

theorem reevaluate_keepsPlans (h : KeepsPlans s t) {v p : Nat} : KeepsPlans s (reevaluate v p t) := by
  unfold reevaluate
  split
  · exact h
  · rename_i q hq
    have hback : KeepsPlans s (returnToIssuing p q t) := returnToIssuing_keepsPlans h hq
    refine .ite h ?_
    split
    · exact h
    · exact .ite (becomeSecured_keepsPlans h) h
    · exact .ite hback h
    · exact .ite hback h
    · exact .ite hback h
    · exact testPlan_keepsPlans h

theorem positionChanged_keepsPlans (h : KeepsPlans s t) {v : Nat} : KeepsPlans s (positionChanged v t) :=
  .foldl (fun h => reevaluate_keepsPlans h) h

theorem operabilityChanged_keepsPlans (h : KeepsPlans s t) {v : Nat} : KeepsPlans s (operabilityChanged v t) :=
  .foldl (fun h => testPlan_keepsPlans h) h

theorem release_keepsPlans (h : KeepsPlans s t) {p : Nat} : KeepsPlans s (release p t) := by
  unfold release
  split
  · exact h
  · rename_i q hq
    extract_lets s1 s2 s3 s4 s5
    have h1 : KeepsPlans s s1 := h.frame (by simp [s1])
    have h2 : KeepsPlans s s2 := markPlan_keepsPlans (h1.putPlan (by simpa [s1] using hq))
    have h4 : KeepsPlans s s4 := .foldl (fun h => testPlan_keepsPlans h) (h2.frame (u := s3) (by simp [s3]))
    exact testPlan_keepsPlans (h4.frame (u := s5) (by simp [s5]))

theorem declare_keepsPlans (h : KeepsPlans s t) {v : Nat} : KeepsPlans s (declare v t) := by
  unfold declare
  split
  · exact h
  · refine .ite h ?_
    extract_lets s1 s2
    have h1 : KeepsPlans s s1 := h.frame (by simp [s1])
    have h2 : KeepsPlans s s2 := operabilityChanged_keepsPlans (needRevision_keepsPlans h1)
    exact .ite (h2.frame (by simp)) h2

theorem restore_keepsPlans (h : KeepsPlans s t) {v : Nat} : KeepsPlans s (restore v t) := by
  unfold restore
  split
  · exact h
  · refine .ite h ?_
    extract_lets s1 s2
    have h1 : KeepsPlans s s1 := h.frame (by simp [s1])
    have h2 : KeepsPlans s s2 := operabilityChanged_keepsPlans h1
    exact .ite (clearFailed_keepsPlans h2) h2

/-! ## Pressure Supervisor -/

theorem setCondition_keepsPlans (h : KeepsPlans s t) {n : Nat} {c : Condition} : KeepsPlans s (setCondition n c t) := by
  unfold setCondition
  refine .ite ?_ h
  extract_lets s1
  have h1 : KeepsPlans s s1 := h.frame (by simp [s1])
  exact .ite (dropPoint_keepsPlans h1) h1

theorem applySelection_keepsPlans (h : KeepsPlans s t) {n : Nat} {c : Option Nat} :
    KeepsPlans s (applySelection n c t) := by
  unfold applySelection
  split
  · exact h
  · exact setCondition_keepsPlans (h.frame (by simp))

theorem reselectPoint_keepsPlans (h : KeepsPlans s t) {r : Option Nat} {n : Nat} :
    KeepsPlans s (reselectPoint r n t) := by
  unfold reselectPoint
  split
  · exact h
  · exact .ite h (applySelection_keepsPlans h)

theorem reselect_keepsPlans (h : KeepsPlans s t) {r : Option Nat} {w : Point → Bool} : KeepsPlans s (reselect r w t) :=
  .foldl (fun h => reselectPoint_keepsPlans h) h

theorem periodChanged_keepsPlans (h : KeepsPlans s t) {c : Clock} : KeepsPlans s (periodChanged c t) :=
  .ite (reselect_keepsPlans h) h

theorem recalibrate_keepsPlans (h : KeepsPlans s t) {n : Nat} {z g : Option Nat} :
    KeepsPlans s (recalibrate n z g t) := by
  unfold recalibrate
  extract_lets s1
  have h1 : KeepsPlans s s1 := h.frame (by simp [s1])
  exact .ite (setCondition_keepsPlans h1) h1

theorem regroup_keepsPlans (h : KeepsPlans s t) {n g : Nat} : KeepsPlans s (regroup n g t) := by
  unfold regroup
  extract_lets differs s1
  have h1 : KeepsPlans s s1 := h.frame (by simp [s1])
  exact .ite (reselectPoint_keepsPlans h1) h1

theorem alterFields_keepsPlans (h : KeepsPlans s t) {n : Nat} {z g group k hyst stale : Option Nat} :
    KeepsPlans s (alterFields n z g group k hyst stale t) := by
  unfold alterFields
  extract_lets s1 s2
  have h1 : KeepsPlans s s1 := .ite (recalibrate_keepsPlans h) h
  have h2 : KeepsPlans s s2 := by
    cases group with
    | none => exact h1
    | some x => exact regroup_keepsPlans h1
  exact h2.frame (by simp)

theorem stalePoints_keepsPlans (h : KeepsPlans s t) : KeepsPlans s (stalePoints t) :=
  .foldl (fun h => setCondition_keepsPlans h) h

theorem linkDown_keepsPlans (h : KeepsPlans s t) {n : Nat} : KeepsPlans s (linkDown n t) := by
  refine KeepsPlans.foldl (fun h => h.frame (by simp)) (.foldl (fun h => setCondition_keepsPlans h) (h.frame (by simp)))

/-! ## Timed work -/

theorem workOf_keepsPlans (h : KeepsPlans s t) {w : TimedWork} : KeepsPlans s (workOf w t) := by
  cases w with
  | staleness => exact stalePoints_keepsPlans h
  | overdue => exact h.frame (by simp [workOf])
  | expiry => exact h.frame (by simp [workOf])
  | timeout => exact timeOutOrders_keepsPlans h
  | windowEnd => exact endWindows_keepsPlans h

theorem doWork_keepsPlans (h : KeepsPlans s t) {w : TimedWork} : KeepsPlans s (doWork w t) :=
  .ite (workOf_keepsPlans (h.frame (by simp))) h

theorem settle_keepsPlans (h : KeepsPlans s t) {l : List TimedWork} : KeepsPlans s (settle l t) :=
  .foldl (fun h => doWork_keepsPlans h) h

theorem secondEvent_keepsPlans (h : KeepsPlans s t) : KeepsPlans s (secondEvent t) :=
  periodChanged_keepsPlans ((settle_keepsPlans h (l := allWork)).frame (by simp))

end

end Sys2Proof.Machine
end

section
/-! SUPPORT. The forms of all record tables (00 §1.2), said for each part of an action that brings a record into use,
retires one or writes it, and the ranges of the pass state (R63, R65, R68), said for a trigger and the end of a pass. -/

namespace Sys2Proof.Machine

/-! ## Every record table -/

/-- From `s` to `u` the record tables keep their forms and their capacities. -/
structure KeepsTables (s u : State) : Prop where
  tables : s.tablesLegal → u.tablesLegal

/-- The record tables are the same in both. -/
def SameTables (s u : State) : Prop :=
  u.segments = s.segments ∧ u.valves = s.valves ∧ u.points = s.points ∧ u.profiles = s.profiles ∧
    u.incidents = s.incidents ∧ u.plans = s.plans ∧ u.outages = s.outages

@[simp] theorem sameTables_iff {s u : State} : SameTables s u ↔
    u.segments = s.segments ∧ u.valves = s.valves ∧ u.points = s.points ∧ u.profiles = s.profiles ∧
      u.incidents = s.incidents ∧ u.plans = s.plans ∧ u.outages = s.outages := .rfl

theorem SameTables.keepsTables {s u : State} (h : SameTables s u) : KeepsTables s u := by
  obtain ⟨h1, h2, h3, h4, h5, h6, h7⟩ := h
  exact ⟨fun ht => by simpa only [State.tablesLegal, h1, h2, h3, h4, h5, h6, h7] using ht⟩

@[refl] theorem KeepsTables.refl (s : State) : KeepsTables s s := ⟨id⟩

theorem KeepsTables.trans {s t u : State} (h : KeepsTables s t) (h' : KeepsTables t u) : KeepsTables s u :=
  ⟨h'.tables ∘ h.tables⟩

theorem Table.wf_of_keys {α β : Type} {t : Table α} {u : Table β} {cap : Nat} (h : Table.wf t cap)
    (hk : Table.keys u = Table.keys t) : Table.wf u cap := by
  unfold Table.wf
  rwa [hk]

/-- What leaves the network leaves the forms of its tables. -/
theorem KeepsTables.of_stands {s u : State} (h : Stands s u) (hp : KeepsPlans s u)
    (hprofiles : u.profiles = s.profiles) : KeepsTables s u := by
  refine ⟨fun ht => ?_⟩
  have n := h.sameNetwork ht.keysRise
  obtain ⟨hs, hv, hpt, hpr, hi, hpl, ho⟩ := ht
  exact ⟨n.segments ▸ hs, Table.wf_of_keys hv (Table.keys_of_image n.valves),
    Table.wf_of_keys hpt (Table.keys_of_image n.points), hprofiles ▸ hpr,
    Table.wf_of_keys hi (Table.keys_of_image n.incidents), hp.plans hpl, n.outages ▸ ho⟩

section
variable {s t : State}

theorem KeepsTables.frame {u : State} (h : KeepsTables s t) (hu : SameTables t u) : KeepsTables s u :=
  h.trans hu.keepsTables

theorem KeepsTables.ite {c : Prop} [Decidable c] {a b : State} (ha : KeepsTables s a) (hb : KeepsTables s b) :
    KeepsTables s (if c then a else b) := by
  split
  · exact ha
  · exact hb

theorem KeepsTables.foldl {α : Type} {f : State → α → State}
    (hf : ∀ {t : State}, KeepsTables s t → ∀ {a}, KeepsTables s (f t a)) {l : List α} (h : KeepsTables s t) :
    KeepsTables s (l.foldl f t) := by
  induction l generalizing t with
  | nil => exact h
  | cons a l ih => exact ih (hf h)

/-! ### One table written -/

theorem KeepsTables.setSegments (h : KeepsTables s t) {x : Table Segment}
    (hx : Table.wf t.segments Config.segmentSlots → Table.wf x Config.segmentSlots) : KeepsTables s (t.setSegments x) :=
  h.trans ⟨fun ⟨hs, hrest⟩ => ⟨hx hs, hrest⟩⟩

theorem KeepsTables.setValves (h : KeepsTables s t) {x : Table Valve}
    (hx : Table.wf t.valves Config.valveSlots → Table.wf x Config.valveSlots) : KeepsTables s (t.setValves x) :=
  h.trans ⟨fun ⟨hs, hv, hrest⟩ => ⟨hs, hx hv, hrest⟩⟩

theorem KeepsTables.setPoints (h : KeepsTables s t) {x : Table Point}
    (hx : Table.wf t.points Config.pointSlots → Table.wf x Config.pointSlots) : KeepsTables s (t.setPoints x) :=
  h.trans ⟨fun ⟨hs, hv, hp, hrest⟩ => ⟨hs, hv, hx hp, hrest⟩⟩

theorem KeepsTables.setProfiles (h : KeepsTables s t) {x : Table Profile}
    (hx : Table.wf t.profiles Config.profileSlots → Table.wf x Config.profileSlots) : KeepsTables s (t.setProfiles x) :=
  h.trans ⟨fun ⟨hs, hv, hp, hpr, hrest⟩ => ⟨hs, hv, hp, hx hpr, hrest⟩⟩

theorem KeepsTables.setIncidents (h : KeepsTables s t) {x : Table Incident}
    (hx : Table.wf t.incidents Config.incidentSlots → Table.wf x Config.incidentSlots) :
    KeepsTables s (t.setIncidents x) :=
  h.trans ⟨fun ⟨hs, hv, hp, hpr, hi, hrest⟩ => ⟨hs, hv, hp, hpr, hx hi, hrest⟩⟩

theorem KeepsTables.setOutages (h : KeepsTables s t) {x : Table Outage}
    (hx : Table.wf t.outages Config.outageSlots → Table.wf x Config.outageSlots) : KeepsTables s (t.setOutages x) :=
  h.trans ⟨fun ⟨hs, hv, hp, hpr, hi, hpl, ho⟩ => ⟨hs, hv, hp, hpr, hi, hpl, hx ho⟩⟩

/-- An operation that writes the plans alone. -/
theorem KeepsTables.of_plans {u : State} (h : KeepsPlans t u) (hu : SameTables (t.setPlans u.plans) u) :
    KeepsTables t u := by
  obtain ⟨h1, h2, h3, h4, h5, -, h7⟩ := hu
  refine ⟨fun ⟨hs, hv, hp, hpr, hi, hpl, ho⟩ => ?_⟩
  exact ⟨h1 ▸ hs, h2 ▸ hv, h3 ▸ hp, h4 ▸ hpr, h5 ▸ hi, h.plans hpl, h7 ▸ ho⟩

section
variable (h : KeepsTables s t) {n : Nat}
include h

theorem KeepsTables.putSegment (hn : n < 4096) (x : Segment) : KeepsTables s (t.putSegment n x) :=
  h.setSegments fun w => Table.wf_put w hn x

theorem KeepsTables.putSegment_used {g : Segment} (hg : Table.at? t.segments n = some g) (x : Segment) :
    KeepsTables s (t.putSegment n x) := h.setSegments fun w => Table.wf_put_of_at? w hg x

theorem KeepsTables.updSegment {f : Segment → Segment} : KeepsTables s (t.updSegment n f) :=
  h.setSegments fun w => Table.wf_upd w n f

theorem KeepsTables.delSegment : KeepsTables s (t.setSegments (Table.del t.segments n)) :=
  h.setSegments fun w => Table.wf_del w n

theorem KeepsTables.putValve (hn : n < 6144) (x : Valve) : KeepsTables s (t.putValve n x) :=
  h.setValves fun w => Table.wf_put w hn x

theorem KeepsTables.updValve {f : Valve → Valve} : KeepsTables s (t.updValve n f) :=
  h.setValves fun w => Table.wf_upd w n f

theorem KeepsTables.delValve : KeepsTables s (t.setValves (Table.del t.valves n)) :=
  h.setValves fun w => Table.wf_del w n

theorem KeepsTables.putPoint (hn : n < 1024) (x : Point) : KeepsTables s (t.putPoint n x) :=
  h.setPoints fun w => Table.wf_put w hn x

theorem KeepsTables.putPoint_used {p : Point} (hp : Table.at? t.points n = some p) (x : Point) :
    KeepsTables s (t.putPoint n x) := h.setPoints fun w => Table.wf_put_of_at? w hp x

theorem KeepsTables.updPoint {f : Point → Point} : KeepsTables s (t.updPoint n f) :=
  h.setPoints fun w => Table.wf_upd w n f

theorem KeepsTables.putIncident (hn : n < 512) (x : Incident) : KeepsTables s (t.putIncident n x) :=
  h.setIncidents fun w => Table.wf_put w hn x

theorem KeepsTables.updIncident {f : Incident → Incident} : KeepsTables s (t.updIncident n f) :=
  h.setIncidents fun w => Table.wf_upd w n f

theorem KeepsTables.delIncident : KeepsTables s (t.setIncidents (Table.del t.incidents n)) :=
  h.setIncidents fun w => Table.wf_del w n

theorem KeepsTables.putOutage (hn : n < 128) (x : Outage) : KeepsTables s (t.putOutage n x) :=
  h.setOutages fun w => Table.wf_put w hn x

theorem KeepsTables.putOutage_used {o : Outage} (ho : Table.at? t.outages n = some o) (x : Outage) :
    KeepsTables s (t.putOutage n x) := h.setOutages fun w => Table.wf_put_of_at? w ho x

theorem KeepsTables.delOutage : KeepsTables s (t.setOutages (Table.del t.outages n)) :=
  h.setOutages fun w => Table.wf_del w n

end

/-! ### Notices and flags -/

section
variable (h : KeepsTables s t)
include h

theorem KeepsTables.raise {c : Notice} : KeepsTables s (raise c t) := h.frame (by simp)

theorem KeepsTables.flag {c : RecordClass} {n : Nat} : KeepsTables s (flag c n t) := h.frame (by simp)

theorem KeepsTables.flagAll {c : RecordClass} {l : List Nat} : KeepsTables s (flagAll c l t) := h.frame (by simp)

theorem KeepsTables.unflag {c : RecordClass} {n : Nat} : KeepsTables s (unflag c n t) := h.frame (by simp)

theorem KeepsTables.mark {c : RecordClass} {n : Nat} {v : Notice} : KeepsTables s (mark c n v t) := h.frame (by simp)

end

end

/-! ## The pass state -/

/-- From `s` to `u` the record tables keep their forms, and with them the pass state keeps its ranges. -/
structure KeepsLaws (s u : State) : Prop where
  tables : s.tablesLegal → u.tablesLegal
  tracer : s.tablesLegal → s.tracerLegal → u.tracerLegal

section
variable {s t u : State}

theorem tracerLegal_of_same (h : u.tracer = s.tracer) (hs : s.tracerLegal) : u.tracerLegal := by
  simpa only [State.tracerLegal, h] using hs

theorem KeepsLaws.of_tables (h : KeepsTables s u) (ht : u.tracer = s.tracer) : KeepsLaws s u :=
  ⟨h.tables, fun _ => tracerLegal_of_same ht⟩

theorem KeepsLaws.of_same (h : SameTables s u) (ht : u.tracer = s.tracer) : KeepsLaws s u :=
  .of_tables h.keepsTables ht

/-- What leaves the network, the profiles and the pass state. -/
theorem KeepsLaws.of_stands (h : Stands s u) (hp : KeepsPlans s u)
    (hu : u.profiles = s.profiles ∧ u.tracer = s.tracer) : KeepsLaws s u := by
  obtain ⟨hprofiles, htracer⟩ := hu
  exact .of_tables (.of_stands h hp hprofiles) htracer

@[refl] theorem KeepsLaws.refl (s : State) : KeepsLaws s s := ⟨id, fun _ => id⟩

theorem KeepsLaws.trans (h : KeepsLaws s t) (h' : KeepsLaws t u) : KeepsLaws s u :=
  ⟨h'.tables ∘ h.tables, fun ht hp => h'.tracer (h.tables ht) (h.tracer ht hp)⟩

theorem KeepsLaws.ite {c : Prop} [Decidable c] (ht : KeepsLaws s t) (hu : KeepsLaws s u) :
    KeepsLaws s (if c then t else u) := by
  split
  · exact ht
  · exact hu

/-- The inputs that a pass takes name each segment in use once (R65). -/
theorem takeInputs_rising (h : t.tablesLegal) : (takeInputs t).segments.Pairwise (· < ·) := h.keysRise.segments

/-- A trigger begins or restarts a pass, or after three restarts sets the rerun (R64, R68). -/
theorem trigger_tracerLegal (h : t.tablesLegal) (ht : t.tracerLegal) : (trigger t).tracerLegal := by
  obtain ⟨hrestarts, hgen, hrerun, hidle, -⟩ := id ht
  unfold trigger
  split
  · rename_i hp
    obtain ⟨h0, hno⟩ := hidle hp
    refine ⟨by simp [h0], hgen, by simp [hno], by simp, fun inp hinp => ?_⟩
    obtain rfl : takeInputs t = inp := by simpa using hinp
    exact takeInputs_rising h
  · rename_i inp hp
    split
    · rename_i hlt
      refine ⟨hlt, hgen, fun hr => absurd (hrerun hr) hlt.ne, by simp, fun inp hinp => ?_⟩
      obtain rfl : takeInputs t = inp := by simpa using hinp
      exact takeInputs_rising h
    · rename_i hge
      obtain ⟨-, -, -, -, hinputs⟩ := ht
      exact ⟨hrestarts, hgen, fun _ => le_antisymm hrestarts (not_lt.1 hge), by simp [hp], hinputs⟩

theorem KeepsLaws.trigger (h : KeepsLaws s t) : KeepsLaws s (trigger t) :=
  h.trans ⟨(SameTables.keepsTables (by simp)).tables, trigger_tracerLegal⟩

theorem noteFreed_keepsLaws (n : Nat) (s : State) : KeepsLaws s (noteFreed n s) := by
  refine ⟨(SameTables.keepsTables (by simp)).tables, fun _ h => ?_⟩
  unfold noteFreed
  split
  · exact h
  · rename_i inp hp
    obtain ⟨hrestarts, hgen, hrerun, -, hinputs⟩ := h
    refine ⟨hrestarts, hgen, hrerun, by simp, fun inp' hinp => ?_⟩
    obtain rfl : { inp with freed := n :: inp.freed } = inp' := by simpa using hinp
    exact hinputs inp hp

/-- At its end a pass goes IDLE, or a rerun begins with new inputs (R68, R79). -/
theorem endPass_keepsLaws (m : Nat) (s : State) : KeepsLaws s (endPass m s) := by
  refine ⟨(SameTables.keepsTables (by simp)).tables, fun ht _ => ?_⟩
  refine ⟨Nat.zero_le _, Nat.mod_lt _ (by decide), by simp [endPass], fun _ => ⟨rfl, rfl⟩, fun inp hinp => ?_⟩
  cases hr : s.tracer.rerun with
  | false => simp [endPass, hr] at hinp
  | true =>
    obtain rfl : takeInputs s = inp := by simpa [endPass, hr] using hinp
    exact takeInputs_rising ht

/-! ## Incident Register -/

theorem regradeSegment_keepsTables (h : KeepsTables s t) {n : Nat} : KeepsTables s (regradeSegment n t) :=
  h.trans (.of_stands (regradeSegment_stands (.refl t)) (.of_plans (by simp)) (by simp))

theorem recountIncidents_keepsTables (h : KeepsTables s t) {n : Nat} : KeepsTables s (recountIncidents n t) :=
  .ite h.updSegment.flag h

theorem makeIncident_keepsTables (h : KeepsTables s t) {n : Nat} (hn : n < 512) {i : Incident} :
    KeepsTables s (makeIncident n i t) :=
  (recountIncidents_keepsTables (h.putIncident hn _)).mark

theorem pressureRequest_keepsTables (h : KeepsTables s t) {n : Nat} : KeepsTables s (pressureRequest n t) := by
  unfold pressureRequest
  refine .ite (regradeSegment_keepsTables h) ?_
  split
  · rename_i m hm
    obtain ⟨hlt, -, -⟩ := Table.lowestFree_some hm
    exact makeIncident_keepsTables h hlt
  · exact h.frame (by simp)

theorem unlinkPlan_keepsTables (h : KeepsTables s t) {p : Option Nat} : KeepsTables s (unlinkPlan p t) := by
  cases p with
  | none => exact h
  | some n =>
    exact h.trans (.of_plans (markPlan_keepsPlans (KeepsPlans.refl t).updPlan) (by simp [unlinkPlan]))

theorem retireIncident_keepsTables (h : KeepsTables s t) {n : Nat} {i : Incident} :
    KeepsTables s (retireIncident n i t) := by
  unfold retireIncident
  extract_lets s1
  have h1 : KeepsTables s s1 := (unlinkPlan_keepsTables h (p := i.plan)).frame (by simp [s1])
  exact (recountIncidents_keepsTables h1.delIncident).mark

/-! ## Pressure Supervisor -/

theorem setCondition_keepsTables (h : KeepsTables s t) {n : Nat} {c : Condition} : KeepsTables s (setCondition n c t) :=
  h.trans (.of_stands (setCondition_stands (.refl t)) (setCondition_keepsPlans (.refl t)) (by simp))

theorem testReadings_keepsTables (h : KeepsTables s t) {n x : Nat} {c : Condition} :
    KeepsTables s (testReadings n x c t) :=
  h.trans (.of_stands (testReadings_stands (.refl t)) (testReadings_keepsPlans (.refl t)) (by simp))

theorem bandHandOff_keepsTables (h : KeepsTables s t) {n : Nat} {b : Band} : KeepsTables s (bandHandOff n b t) :=
  .ite (pressureRequest_keepsTables h) (.ite (regradeSegment_keepsTables h) h)

theorem evaluateBand_keepsTables (h : KeepsTables s t) {n : Nat} {e : Profile} {p m : Nat} :
    KeepsTables s (evaluateBand n e p m t) := by
  unfold evaluateBand
  split
  · exact h
  · rename_i q hq
    dsimp only
    split
    · exact .ite (bandHandOff_keepsTables (h.putPoint_used hq _).mark) (h.putPoint_used hq _)
    · exact h.putPoint_used hq _

theorem applyPressure_keepsTables (h : KeepsTables s t) {n : Nat} {c : Nat × Bool} {m : Nat} :
    KeepsTables s (applyPressure n c m t) := by
  unfold applyPressure
  split
  · exact h
  · extract_lets k s1 s2
    have h1 : KeepsTables s s1 := setCondition_keepsTables h.updPoint
    refine testReadings_keepsTables (t := s2) ?_
    dsimp only [s2]
    split
    · exact evaluateBand_keepsTables h1
    · exact h1

theorem reading_keepsTables (n r : Nat) (s : State) : KeepsTables s (reading n r s) := by
  unfold reading
  split
  · exact .refl s
  · extract_lets s1
    have h1 : KeepsTables s s1 := (KeepsTables.refl s).updPoint
    exact .ite (setCondition_keepsTables h1) (applyPressure_keepsTables h1)

theorem holdReading_keepsTables (n k : Nat) (s : State) : KeepsTables s (holdReading n k s) := by
  unfold holdReading
  split
  · exact .refl s
  · split
    · extract_lets s1
      have h1 : KeepsTables s s1 := (KeepsTables.refl s).updPoint
      exact .ite (.ite (setCondition_keepsTables h1) h1) (applyPressure_keepsTables h1)
    · exact .refl s

theorem writeProfile_keepsTables {n : Nat} (hn : n < 256) (e : Profile) (s : State) :
    KeepsTables s (writeProfile n e s) := by
  unfold writeProfile
  extract_lets old s1
  have h1 : KeepsTables s s1 := (KeepsTables.refl s).setProfiles fun w => Table.wf_put w hn e
  exact .ite (h1.trans (.of_stands (reselect_stands (.refl s1)) (reselect_keepsPlans (.refl s1)) (by simp))) h1

/-! ## Network Model -/

theorem firstSelection_keepsTables (h : KeepsTables s t) {n : Nat} : KeepsTables s (firstSelection n t) := by
  refine h.trans (.of_stands (firstSelection_stands (.refl t)) ?_ (by simp))
  unfold firstSelection
  split
  · exact .refl t
  · exact applySelection_keepsPlans (.of_plans (by simp))

theorem opening_keepsLaws (s : State) : KeepsLaws s (opening s) := by
  unfold opening
  extract_lets s1 s2
  have h1 : KeepsTables s s1 := (KeepsTables.refl s).setSegments fun w => Table.wf_map w (openedSegment s)
  have h2 : KeepsTables s s2 := h1.frame (by simp [s2])
  have h3 : KeepsTables s ((Table.keys s2.points).foldl (fun s n => firstSelection n s) s2) :=
    .foldl (fun h => firstSelection_keepsTables h) h2
  exact (KeepsLaws.of_tables h3 (by simp [s2, s1])).trigger

theorem split_keepsLaws {seg m v : Nat} (hseg : seg < 4096) (hm : m < 4096) (hv : v < 6144) (vs ps : List Nat)
    (moved : Nat) (g : Segment) (s : State) : KeepsLaws s (split seg m v vs ps moved g s) := by
  unfold split
  extract_lets s1 s2 s3 s4 s5
  have h1 : KeepsTables s s1 := ((KeepsTables.refl s).putSegment hseg _).putSegment hm _
  have h2 : KeepsTables s s2 := .foldl (fun h => h.updValve) h1
  have h3 : KeepsTables s s3 := .foldl (fun h => h.updPoint) h2
  have h4 : KeepsTables s s4 := (h3.putValve hv _).frame ⟨rfl, rfl, rfl, rfl, rfl, rfl, rfl⟩
  exact (KeepsLaws.of_tables h4.flagAll.flagAll.flagAll.raise (by simp [s4, s3, s2, s1])).trigger

theorem mergeOthers_keepsTables (h : KeepsTables s t) {v a b : Nat} : KeepsTables s (mergeOthers v a b t) := by
  unfold mergeOthers
  extract_lets s1 s2
  have h1 : KeepsTables s s1 := .foldl (fun h => h.updIncident.flag) h
  have h2 : KeepsPlans s1 s2 := markedPlans_keepsPlans (.refl s1)
  refine h1.trans (.of_plans (markedPlans_keepsPlans h2) ?_)
  simp [s2]

theorem merge_keepsLaws {a : Nat} {ga : Segment} {s : State} (ha : Table.at? s.segments a = some ga) (v b : Nat)
    (gb : Segment) : KeepsLaws s (merge v a b ga gb s) := by
  unfold merge
  extract_lets vs s1 s2 s3 s4 s5 s6 s7
  have h1 : KeepsTables s s1 := (KeepsTables.refl s).putSegment_used ha _
  have h2 : KeepsTables s s2 := .foldl (fun h => h.updValve) h1
  have h3 : KeepsTables s s3 := .foldl (fun h => h.updPoint) h2
  have h4 : KeepsTables s s4 := h3.frame (by simp [s4])
  have h5 : KeepsTables s s5 := mergeOthers_keepsTables h4
  have h6 : KeepsTables s s6 := (h5.delValve (n := v)).frame (by simp [s6])
  have h7 : KeepsTables s (flag .segment b (s6.setSegments (Table.del s6.segments b))) := h6.delSegment.flag
  have hfreed : KeepsLaws s s7 :=
    (KeepsLaws.of_tables h7 (by simp [s6, s5, s4, s3, s2, s1])).trans (noteFreed_keepsLaws b _)
  exact (hfreed.trans (.of_tables (KeepsTables.refl s7).raise (by simp))).trigger

/-! ## Supply Tracer -/

theorem assignIsland_keepsTables (h : KeepsTables s t) {i : List Nat} {o : Option Nat} :
    KeepsTables s (assignIsland i o t) := .foldl (fun h => h.updSegment) h

theorem retireOutage_keepsTables (h : KeepsTables s t) {n : Nat} : KeepsTables s (retireOutage n t) :=
  h.delOutage.flag

theorem recountOutages_keepsTables (h : KeepsTables s t) : KeepsTables s (recountOutages t) := by
  refine .foldl (fun h n => ?_) h
  unfold recountOutage
  split
  · exact h
  · rename_i o ho
    exact .ite h (h.putOutage_used ho _).flag

theorem giveRecord_keepsTables (h : KeepsTables s t) {i : List Nat} : KeepsTables s (giveRecord i t) := by
  unfold giveRecord
  split
  · exact h
  · rename_i n hn
    obtain ⟨hlt, -, -⟩ := Table.lowestFree_some hn
    exact (assignIsland_keepsTables (h.putOutage hlt _)).flag

theorem assignOutages_keepsTables (h : KeepsTables s t) {l : List (List Nat)} : KeepsTables s (assignOutages l t) := by
  have hclaims : KeepsTables s (assignClaims l t) := .foldl (fun h => assignIsland_keepsTables h) h
  have hretired : KeepsTables s (retireEmpty (assignClaims l t)) :=
    .foldl (fun h => retireOutage_keepsTables h) hclaims
  exact recountOutages_keepsTables (.foldl (fun h => giveRecord_keepsTables h) hretired)

theorem publish_keepsLaws (inp : PassInputs) (s : State) : KeepsLaws s (publish inp s) := by
  unfold publish
  extract_lets written s1 s2 unassigned changed s3 moved
  have hsupply : KeepsTables s (publishSupply inp written s) := .foldl (fun h => h.updSegment) (.refl s)
  have h1 : KeepsTables s s1 := assignOutages_keepsTables hsupply
  have h3 : KeepsTables s s3 := h1.frame (by simp [s3, s2])
  have hend : KeepsLaws s (endPass unassigned s3) :=
    (KeepsLaws.of_tables h3 (by simp [s3, s2, s1])).trans (endPass_keepsLaws unassigned s3)
  exact hend.trans (.of_tables (.foldl (fun h => regradeSegment_keepsTables h) (.refl _)) (by simp))

theorem publication_keepsLaws (s : State) : KeepsLaws s (publication s) := by
  unfold publication
  split
  · exact .refl s
  · exact publish_keepsLaws _ s

theorem leaveOutage_keepsTables (h : KeepsTables s t) {o : Option Nat} : KeepsTables s (leaveOutage o t) := by
  cases o with
  | none => exact h
  | some n => exact .ite (retireOutage_keepsTables h) (recountOutages_keepsTables h).flag

theorem countRelit_keepsTables {n : Nat} (hn : n < 4096) (count : Nat) (g : Segment) (s : State) :
    KeepsTables s (countRelit n count g s) := by
  have hput (x : Segment) : KeepsTables s (flag .segment n (s.putSegment n x)) :=
    ((KeepsTables.refl s).putSegment hn x).flag
  refine .ite (.refl s) (.ite ?_ (recountOutages_keepsTables (hput _)).raise)
  have hrelit (x : Segment) :
      KeepsTables s (raise .outage (leaveOutage g.outage (flag .segment n (s.putSegment n x)))) :=
    (leaveOutage_keepsTables (hput x)).raise
  exact .ite (regradeSegment_keepsTables (hrelit _)) (hrelit _)

end

end Sys2Proof.Machine
end

section
/-! SUPPORT. The commands and the record tables and passes: each of the 71 keeps their forms and ranges (O7). -/

namespace Sys2Proof.Machine

/-! ## Items and timed work -/

section
variable (s : State)

/-- A report of a valve is a trigger where it changes whether the valve passes gas (R64, R149). -/
theorem positionReport_keepsLaws (v : Nat) (r : Reported) : KeepsLaws s (positionReport v r s) := by
  unfold positionReport
  split
  · exact .refl s
  · rename_i a ha
    extract_lets s1 s2
    have hs1 : Stands s s1 := orderSteps_stands (writeReport_stands (.refl s) ha)
    have hs2 : Stands s s2 := .ite (positionChanged_stands hs1) hs1
    have hp1 : KeepsPlans s s1 := .of_plans (by simp [s1])
    have hp2 : KeepsPlans s s2 := .ite (positionChanged_keepsPlans hp1) hp1
    have h2 : KeepsLaws s s2 := .of_stands hs2 hp2 (by simp [s2, s1])
    exact .ite h2.trigger h2

theorem linkDown_keepsLaws (n : Nat) : KeepsLaws s (linkDown n s) :=
  .of_stands (linkDown_stands (.refl s)) (linkDown_keepsPlans (.refl s)) (by simp)

theorem settle_keepsLaws (l : List TimedWork) : KeepsLaws s (settle l s) :=
  .of_stands (settle_stands (.refl s)) (settle_keepsPlans (.refl s)) (by simp)

theorem doWork_keepsLaws (w : TimedWork) : KeepsLaws s (doWork w s) := settle_keepsLaws s [w]

theorem secondEvent_keepsLaws : KeepsLaws s (secondEvent s) :=
  .of_stands (secondEvent_stands (.refl s)) (secondEvent_keepsPlans (.refl s)) (by simp)

theorem badIndication_keepsLaws : KeepsLaws s (badIndication s) := .of_same (by simp) (by simp)

theorem strayTag_keepsLaws (t : Tag) : KeepsLaws s (strayTag t s) := .of_same (by simp) (by simp)

theorem toPoint_keepsLaws {t : Tag} {act : Nat → State → State} (h : ∀ n, KeepsLaws s (act n s)) :
    KeepsLaws s (toPoint t act s) := by
  unfold toPoint
  split
  · exact h _
  · exact .ite (badIndication_keepsLaws s) (strayTag_keepsLaws s t)

theorem toValve_keepsLaws {t : Tag} {act : Nat → State → State} (h : ∀ v, KeepsLaws s (act v s)) :
    KeepsLaws s (toValve t act s) := by
  unfold toValve
  split
  · exact badIndication_keepsLaws s
  · split
    · exact h _
    · exact strayTag_keepsLaws s t

theorem takeItem_keepsLaws {k : ItemKind} {owed : List TimedWork} {act : Item → State → State}
    (hact : ∀ i u, KeepsLaws u (act i u)) : KeepsLaws s (takeItem k owed act s) := by
  unfold takeItem
  split
  · exact .refl s
  · rename_i i rest hq
    refine .ite ?_ (.refl s)
    exact ((settle_keepsLaws s owed).trans (.of_same (by simp) (by simp))).trans (hact i _)

end

/-! ## Requests -/

theorem KeepsLaws.setPort {s t : State} (h : KeepsLaws s t) (x : Port) : KeepsLaws s (t.setPort x) :=
  h.trans (.of_same (by simp) rfl)

theorem KeepsLaws.setPending (s : State) (l : List Instr) : KeepsLaws s (s.setPending l) := .of_same (by simp) rfl

/-- A request whose action keeps the laws keeps them: it acts once its blocks did the work they owed. -/
theorem request_keepsLaws {c : Instr} {h : Header} {owed : List TimedWork} {act : State → State × Reply}
    (hact : ∀ s, KeepsLaws s (act s).1) {s t : State} (ht : request c h owed act s = .next t) : KeepsLaws s t := by
  rcases request_cases ht with ⟨x, rfl⟩ | ⟨x, rfl⟩
  · exact (KeepsLaws.refl s).setPort x
  · exact ((settle_keepsLaws s owed).trans (hact _)).setPort x

section
variable {l : List (Bool × Result)} {f : State → State × Reply} {s : State}

theorem tested_keepsLaws (hf : (∀ x ∈ l, x.1 = true) → KeepsLaws s (f s).1) : KeepsLaws s (tested l f s).1 :=
  tested_induct (.refl s) hf

/-- A request that leaves the network, the profiles and the pass state. -/
theorem tested_stands_keepsLaws (h : Stands s (f s).1) (hp : KeepsPlans s (f s).1)
    (hu : (f s).1.profiles = s.profiles ∧ (f s).1.tracer = s.tracer) : KeepsLaws s (tested l f s).1 :=
  tested_keepsLaws fun _ => .of_stands h hp hu

end

section
variable (h : Header) (s : State)

/-! ### Network Model -/

theorem defineSegment_keepsLaws (n tier zone customers : Nat) :
    KeepsLaws s (defineSegment h n tier zone customers s).1 := by
  refine tested_keepsLaws fun hok => ?_
  obtain ⟨⟨hn, -⟩, -⟩ : (n < Config.segmentSlots ∧ _) ∧ _ := by
    simpa using hok (n < Config.segmentSlots && (Tier.ofCode? tier).isSome && zone < 256, .badField) (by simp)
  exact .of_tables ((KeepsTables.refl s).putSegment hn _).unflag (by simp)

theorem defineValve_keepsLaws (n k : Nat) (a b : Option Nat) (normal op : Nat) (tag : Option Tag) (r : Nat) :
    KeepsLaws s (defineValve h n k a b normal op tag r s).1 := by
  refine tested_keepsLaws fun hok => ?_
  have hfield := hok (defineValveTest n k a b normal op tag r, .badField) (by simp)
  have hn : n < Config.valveSlots := by
    simp only [defineValveTest, Bool.and_eq_true, decide_eq_true_eq] at hfield
    tauto
  exact .of_tables ((KeepsTables.refl s).putValve hn _).unflag (by simp)

theorem definePoint_keepsLaws (n : Nat) (t : Tag) (seg z g group k hyst stale : Nat) :
    KeepsLaws s (definePoint h n t seg z g group k hyst stale s).1 := by
  refine tested_keepsLaws fun hok => ?_
  obtain ⟨⟨⟨hn, -⟩, -⟩, -⟩ : ((n < Config.pointSlots ∧ _) ∧ _) ∧ _ := by
    simpa using hok (n < Config.pointSlots && seg < Config.segmentSlots && g != 0 && group < 32, .badField) (by simp)
  exact .of_tables ((KeepsTables.refl s).putPoint hn _).unflag (by simp)

theorem openModel_keepsLaws : KeepsLaws s (openModel h s).1 := by
  refine tested_keepsLaws fun _ => ?_
  split
  · exact .refl s
  · exact opening_keepsLaws s

theorem alterSegment_keepsLaws (n : Nat) (zone customers : Option Nat) :
    KeepsLaws s (alterSegment h n zone customers s).1 :=
  tested_keepsLaws fun _ => .ite (.refl s) (.of_tables (KeepsTables.refl s).updSegment.mark (by simp))

theorem splitSegment_keepsLaws (n : Nat) (vs ps : List Nat) (customers : Nat) :
    KeepsLaws s (splitSegment h n vs ps customers s).1 := by
  refine tested_keepsLaws fun hok => ?_
  obtain ⟨⟨⟨⟨hn, -⟩, -⟩, -⟩, -⟩ : (((n < Config.segmentSlots ∧ _) ∧ _) ∧ _) ∧ _ := by
    simpa using hok (n < Config.segmentSlots && vs.all (fun v => v < Config.valveSlots) &&
      ps.all (fun p => p < Config.pointSlots) && distinct vs && distinct ps, .badField) (by simp [splitTests])
  split
  · rename_i g m v hg hm hv
    obtain ⟨hm', -, -⟩ := Table.lowestFree_some hm
    obtain ⟨hv', -, -⟩ := Table.lowestFree_some hv
    exact split_keepsLaws hn hm' hv' vs ps _ g s
  · exact .refl s

theorem mergeAtStop_keepsLaws (v : Nat) : KeepsLaws s (mergeAtStop h v s).1 := by
  refine tested_keepsLaws fun _ => ?_
  split
  · refine tested_keepsLaws fun _ => ?_
    split
    · rename_i ga gb hga hgb
      exact merge_keepsLaws hga v _ gb
    · exact .refl s
  · exact .refl s

/-! ### Pressure Supervisor and Supply Tracer -/

theorem alterPoint_keepsLaws (n : Nat) (z g group k hyst stale : Option Nat) :
    KeepsLaws s (alterPoint h n z g group k hyst stale s).1 := by
  unfold alterPoint
  split
  · exact tested_keepsLaws fun _ => .refl s
  · exact tested_stands_keepsLaws (alterFields_stands (.refl s)) (alterFields_keepsPlans (.refl s)) (by simp)

theorem setProfile_keepsLaws (n group pv pm ll l hi hh : Nat) (enabled : Bool) :
    KeepsLaws s (setProfile h n group pv pm ll l hi hh enabled s).1 := by
  refine tested_keepsLaws fun hok => ?_
  obtain ⟨hn, -⟩ : n < Config.profileSlots ∧ _ := by
    simpa using hok (n < Config.profileSlots && group < 32, .badField) (by simp)
  exact .of_tables (writeProfile_keepsTables hn _ s) (by simp)

theorem reportRelit_keepsLaws (n count : Nat) : KeepsLaws s (reportRelit h n count s).1 := by
  refine tested_keepsLaws fun hok => ?_
  have hn : n < Config.segmentSlots := by simpa using hok (decide (n < Config.segmentSlots), .badField) (by simp)
  split
  · exact .refl s
  · exact .of_tables (countRelit_keepsTables hn _ _ s) (by simp)

/-! ### Incident Register and Dispatch Selector -/

theorem reportCall_keepsLaws (ref seg : Nat) (indoor damage newInc : Bool) (mergeInto : Option Nat) :
    KeepsLaws s (reportCall h ref seg indoor damage newInc mergeInto s).1 := by
  refine tested_keepsLaws fun _ => ?_
  dsimp only
  split
  · exact .of_stands (joinIncident_stands (.refl s)) (.of_plans (by simp)) (by simp)
  · split
    · exact .refl s
    · rename_i n hn
      obtain ⟨hlt, -, -⟩ := Table.lowestFree_some hn
      exact .of_tables (makeIncident_keepsTables (.refl s) hlt) (by simp)

theorem regrade_keepsLaws (n : Nat) (a : Int) : KeepsLaws s (regrade h n a s).1 :=
  tested_stands_keepsLaws (adjustIncident_stands (.refl s)) (.of_plans (by simp)) (by simp)

theorem declareControlled_keepsLaws (n : Nat) : KeepsLaws s (declareControlled h n s).1 :=
  tested_stands_keepsLaws (setSafety_stands (n := n) (f := fun _ => .controlled) (.refl s)) (.of_plans (by simp))
    (by simp)

theorem closeIncident_keepsLaws (n : Nat) : KeepsLaws s (closeIncident h n s).1 := by
  refine tested_keepsLaws fun _ => ?_
  split
  · exact .refl s
  · exact .of_tables (retireIncident_keepsTables (.refl s)) (by simp)

theorem offerNext_keepsLaws (v m : Nat) : KeepsLaws s (offerNext h v m s).1 := by
  have hw : Stands s (withdrawOffer h.desk s) := withdrawOffer_stands (.refl s)
  refine tested_keepsLaws fun _ => ?_
  dsimp only
  split
  · exact .of_stands hw (.of_plans (by simp)) (by simp)
  · exact .of_stands (makeOffer_stands hw) (.of_plans (by simp)) (by simp)

theorem acceptOffer_keepsLaws (n : Nat) : KeepsLaws s (acceptOffer h n s).1 :=
  tested_stands_keepsLaws (attend_stands (clearOffer_stands (.refl s))) (.of_plans (by simp)) (by simp)

theorem declineOffer_keepsLaws (n : Nat) : KeepsLaws s (declineOffer h n s).1 :=
  tested_stands_keepsLaws (attend_stands (clearOffer_stands (.refl s))) (.of_plans (by simp)) (by simp)

theorem dispatchDirect_keepsLaws (n : Nat) : KeepsLaws s (dispatchDirect h n s).1 :=
  tested_stands_keepsLaws (sendCrew_stands (.refl s)) (.of_plans (by simp)) (by simp)

theorem reportAttended_keepsLaws (n : Nat) : KeepsLaws s (reportAttended h n s).1 :=
  tested_stands_keepsLaws (crewOnSite_stands (.refl s)) (.of_plans (by simp)) (by simp)

/-! ### Plan Engine -/

theorem createPlan_keepsLaws (i t : Option Nat) (m : Nat) (w a k : Option Nat) :
    KeepsLaws s (createPlan h i t m w a k s).1 := by
  refine tested_keepsLaws fun _ => ?_
  split
  · rename_i seg p hseg hp
    obtain ⟨hlt, -, -⟩ := Table.lowestFree_some hp
    refine .of_stands (linkIncident_stands (.of_frame (by simp))) ⟨fun wf => ?_⟩ (by simp)
    simpa using Table.wf_put wf hlt _
  · exact .refl s

theorem deletePlan_keepsLaws (p : Nat) : KeepsLaws s (deletePlan h p s).1 := by
  refine tested_keepsLaws fun _ => ?_
  split
  · exact .refl s
  · exact .of_stands (discardPlan_stands (.refl s)) ⟨fun wf => by simpa [discardPlan] using Table.wf_del wf p⟩ (by simp)

/-- A change of one plan record, marked. -/
theorem markedPlan_keepsLaws (p : Nat) (f : Plan → Plan) : KeepsLaws s (markPlan p (s.updPlan p f)) :=
  .of_stands (.of_frame (by simp)) (markPlan_keepsPlans (KeepsPlans.refl s).updPlan) (by simp)

theorem lockDraft_keepsLaws (p : Nat) (c : Bool) : KeepsLaws s (lockDraft h p c s).1 :=
  tested_keepsLaws fun _ => .ite (.refl s) (markedPlan_keepsLaws s p _)

theorem addValve_keepsLaws (p v : Nat) : KeepsLaws s (addValve h p v s).1 :=
  tested_keepsLaws fun _ => markedPlan_keepsLaws s p _

theorem removeValve_keepsLaws (p v : Nat) : KeepsLaws s (removeValve h p v s).1 :=
  tested_keepsLaws fun _ => markedPlan_keepsLaws s p _

theorem commitDraft_keepsLaws (p : Nat) : KeepsLaws s (commitDraft h p s).1 := by
  have hc : KeepsLaws s (commitPlan p s) := markedPlan_keepsLaws s p _
  refine tested_keepsLaws fun _ => .ite (hc.trans ?_) hc
  exact .of_stands (transfer_stands (.refl _)) (transfer_keepsPlans (.refl _)) (by simp)

theorem unlockDraft_keepsLaws (p : Nat) : KeepsLaws s (unlockDraft h p s).1 :=
  tested_keepsLaws fun _ => markedPlan_keepsLaws s p _

theorem releasePlan_keepsLaws (p : Nat) : KeepsLaws s (releasePlan h p s).1 :=
  tested_stands_keepsLaws (release_stands (.refl s)) (release_keepsPlans (.refl s)) (by simp)

/-! ### Order Unit -/

theorem reportValve_keepsLaws (v position : Nat) : KeepsLaws s (reportValve h v position s).1 :=
  tested_keepsLaws fun _ => positionReport_keepsLaws s v _

theorem fetchOrder_keepsLaws : KeepsLaws s (fetchOrder h s).1 := by
  refine tested_keepsLaws fun _ => ?_
  split
  · exact .refl s
  · exact .of_stands (takeOrder_stands (.refl s)) (.of_plans (by simp)) (by simp)

theorem withdrawOrder_keepsLaws (n : Nat) : KeepsLaws s (withdrawOrder h n s).1 := by
  refine tested_keepsLaws fun _ => ?_
  split
  · exact .refl s
  · exact .of_stands (withdraw_stands (.refl s)) (.of_plans (by simp)) (by simp)

theorem reissueValve_keepsLaws (v : Nat) : KeepsLaws s (reissueValve h v s).1 :=
  tested_stands_keepsLaws (reissue_stands (.refl s)) (reissue_keepsPlans (.refl s)) (by simp)

theorem declareInoperable_keepsLaws (v : Nat) : KeepsLaws s (declareInoperable h v s).1 :=
  tested_stands_keepsLaws (declare_stands (.refl s)) (declare_keepsPlans (.refl s)) (by simp)

theorem restoreOperable_keepsLaws (v : Nat) : KeepsLaws s (restoreOperable h v s).1 :=
  tested_stands_keepsLaws (restore_stands (.refl s)) (restore_keepsPlans (.refl s)) (by simp)

/-! ### Timebase -/

/-- A change of the clock, with the reselection that it may bring. -/
theorem clockChange_keepsLaws (b c : Clock) : KeepsLaws s (periodChanged b (s.setClock c)) :=
  .of_stands (periodChanged_stands (.of_frame (by simp))) (periodChanged_keepsPlans (.of_plans (by simp))) (by simp)

theorem setClock_keepsLaws (n : Nat) : KeepsLaws s (setClock h n s).1 :=
  tested_keepsLaws fun _ => clockChange_keepsLaws s _ _

theorem setDayClass_keepsLaws (d : Nat) : KeepsLaws s (setDayClass h d s).1 :=
  tested_keepsLaws fun _ => clockChange_keepsLaws s _ _

end

/-! ### Every request -/

theorem exec_request_keepsLaws {c : Instr} (hc : isRequest c = true) {s t : State} (ht : exec c s = .next t) :
    KeepsLaws s t := by
  cases c with
  | defineSegment h n tier zone customers =>
    exact request_keepsLaws (fun s => defineSegment_keepsLaws h s n tier zone customers) ht
  | defineValve h n k a b normal op tag r =>
    exact request_keepsLaws (fun s => defineValve_keepsLaws h s n k a b normal op tag r) ht
  | definePoint h n t seg z g group k hyst stale =>
    exact request_keepsLaws (fun s => definePoint_keepsLaws h s n t seg z g group k hyst stale) ht
  | openModel h => exact request_keepsLaws (openModel_keepsLaws h) ht
  | alterSegment h n zone customers => exact request_keepsLaws (fun s => alterSegment_keepsLaws h s n zone customers) ht
  | splitSegment h n vs ps customers =>
    exact request_keepsLaws (fun s => splitSegment_keepsLaws h s n vs ps customers) ht
  | mergeAtStop h v => exact request_keepsLaws (fun s => mergeAtStop_keepsLaws h s v) ht
  | alterPoint h n z g group k hyst stale =>
    exact request_keepsLaws (fun s => alterPoint_keepsLaws h s n z g group k hyst stale) ht
  | setProfile h n group pv pm ll l hi hh enabled =>
    exact request_keepsLaws (fun s => setProfile_keepsLaws h s n group pv pm ll l hi hh enabled) ht
  | reportRelit h n count => exact request_keepsLaws (fun s => reportRelit_keepsLaws h s n count) ht
  | reportCall h ref seg indoor damage newInc mergeInto =>
    exact request_keepsLaws (fun s => reportCall_keepsLaws h s ref seg indoor damage newInc mergeInto) ht
  | regrade h n a => exact request_keepsLaws (fun s => regrade_keepsLaws h s n a) ht
  | declareControlled h n => exact request_keepsLaws (fun s => declareControlled_keepsLaws h s n) ht
  | closeIncident h n => exact request_keepsLaws (fun s => closeIncident_keepsLaws h s n) ht
  | offerNext h v m => exact request_keepsLaws (fun s => offerNext_keepsLaws h s v m) ht
  | acceptOffer h n => exact request_keepsLaws (fun s => acceptOffer_keepsLaws h s n) ht
  | declineOffer h n => exact request_keepsLaws (fun s => declineOffer_keepsLaws h s n) ht
  | dispatchDirect h n => exact request_keepsLaws (fun s => dispatchDirect_keepsLaws h s n) ht
  | reportAttended h n => exact request_keepsLaws (fun s => reportAttended_keepsLaws h s n) ht
  | createPlan h i t m w a k => exact request_keepsLaws (fun s => createPlan_keepsLaws h s i t m w a k) ht
  | deletePlan h p => exact request_keepsLaws (fun s => deletePlan_keepsLaws h s p) ht
  | lockDraft h p c => exact request_keepsLaws (fun s => lockDraft_keepsLaws h s p c) ht
  | addValve h p v => exact request_keepsLaws (fun s => addValve_keepsLaws h s p v) ht
  | removeValve h p v => exact request_keepsLaws (fun s => removeValve_keepsLaws h s p v) ht
  | commitDraft h p => exact request_keepsLaws (fun s => commitDraft_keepsLaws h s p) ht
  | unlockDraft h p => exact request_keepsLaws (fun s => unlockDraft_keepsLaws h s p) ht
  | releasePlan h p => exact request_keepsLaws (fun s => releasePlan_keepsLaws h s p) ht
  | reportValve h v position => exact request_keepsLaws (fun s => reportValve_keepsLaws h s v position) ht
  | fetchOrder h => exact request_keepsLaws (fetchOrder_keepsLaws h) ht
  | withdrawOrder h n => exact request_keepsLaws (fun s => withdrawOrder_keepsLaws h s n) ht
  | reissueValve h v => exact request_keepsLaws (fun s => reissueValve_keepsLaws h s v) ht
  | declareInoperable h v => exact request_keepsLaws (fun s => declareInoperable_keepsLaws h s v) ht
  | restoreOperable h v => exact request_keepsLaws (fun s => restoreOperable_keepsLaws h s v) ht
  | setClock h n => exact request_keepsLaws (fun s => setClock_keepsLaws h s n) ht
  | setDayClass h d => exact request_keepsLaws (fun s => setDayClass_keepsLaws h s d) ht
  | readSegment | readValve | readStrays | linkReset | readTrace | readOutage | setAllowances | readIncident |
    setOfferTime | readPlan | setOrderTimes | readOrders | setNoticeEnables | getNotices | peekNotices | listChanged |
    setDeskArea => exact request_keepsLaws (fun _ => .of_same (by simp) (by simp)) ht
  | malformedRequestFrame | requestDiscarded | answerPlaced | readTransaction | telemetryByte | readingItem | holdItem |
    positionItem | linkUpItem | linkDownItem | badItem | publication | secondEvent | pointStale | incidentOverdue |
    offerExpiry | orderTimeout | windowEnd | coldReset => simp [isRequest, requestHeader] at hc

/-! ## The steps that are no request -/

theorem partStep_keepsLaws {act : State → State} {s t : State} (h : KeepsLaws s (act s))
    (ht : partStep act s = .next t) : KeepsLaws s t := by
  obtain rfl := Host.Outcome.next.inj ht
  exact .ite (.refl s) h

/-- The placing of an answer leaves the records and the passes. -/
theorem placeAnswer_keepsLaws (s : State) : KeepsLaws s (placeAnswer s) := by
  cases hs : s.port.state with
  | idle => simpa [placeAnswer, hs] using KeepsLaws.refl s
  | answered f => simpa [placeAnswer, hs] using KeepsLaws.refl s
  | acting tag r =>
    have hrecords : (clearPlaced s.port.onPlace s).records = s.records := by simp [clearPlaced]
    simp only [State.records, Prod.mk.injEq] at hrecords
    obtain ⟨-, -, hseg, hval, hpt, hprof, -, hinc, hplan, hout, -, -, htracer, -⟩ := hrecords
    rw [placeAnswer_acting hs]
    exact (KeepsLaws.of_same ⟨hseg, hval, hpt, hprof, hinc, hplan, hout⟩ htracer).setPort _

/-- No record is in use and no pass runs after an edge of RESET. -/
theorem resetEdge_keepsLaws (e : ResetEdge) (s : State) : KeepsLaws s (resetEdge e s) := by
  obtain ⟨-, -, -, -, htracer, htables, -⟩ := resetMeetsTheLaws
  cases e <;> exact ⟨fun _ => htables, fun _ _ => htracer⟩

/-- Every command keeps the forms of the tables, and the pass state with them. -/
theorem exec_keepsLaws {c : Instr} {s t : State} (ht : exec c s = .next t) : KeepsLaws s t := by
  cases c with
  | malformedRequestFrame l =>
    rcases malformedRequestFrame_cases ht with ⟨x, rfl⟩ | ⟨c, hc, ht⟩
    · exact (KeepsLaws.refl s).setPort x
    · exact exec_request_keepsLaws hc ht
  | requestDiscarded =>
    obtain ⟨x, hx⟩ := frameDiscarded_eq_setPort s
    obtain rfl := Host.Outcome.next.inj ht
    exact hx ▸ (KeepsLaws.refl s).setPort x
  | readTransaction n =>
    obtain ⟨x, hx⟩ := readPort_eq_setPort n s
    obtain rfl := Host.Outcome.next.inj ht
    exact hx ▸ (KeepsLaws.refl s).setPort x
  | coldReset e => exact Host.Outcome.next.inj ht ▸ resetEdge_keepsLaws e s
  | answerPlaced => exact partStep_keepsLaws (placeAnswer_keepsLaws s) ht
  | telemetryByte l =>
    refine partStep_keepsLaws ?_ ht
    split
    · exact .of_same (by simp) (by simp)
    · exact .refl s
  | readingItem =>
    exact partStep_keepsLaws (takeItem_keepsLaws s fun i u => toPoint_keepsLaws u fun n =>
      .of_tables (reading_keepsTables n i.value u) (by simp)) ht
  | holdItem =>
    exact partStep_keepsLaws (takeItem_keepsLaws s fun i u => toPoint_keepsLaws u fun n =>
      .of_tables (holdReading_keepsTables n i.value u) (by simp)) ht
  | positionItem =>
    exact partStep_keepsLaws (takeItem_keepsLaws s fun _ u => toValve_keepsLaws u fun v =>
      positionReport_keepsLaws u v _) ht
  | linkUpItem => exact partStep_keepsLaws (takeItem_keepsLaws s fun _ _ => .of_same (by simp) (by simp)) ht
  | linkDownItem => exact partStep_keepsLaws (takeItem_keepsLaws s fun _ u => linkDown_keepsLaws u _) ht
  | badItem => exact partStep_keepsLaws (takeItem_keepsLaws s fun _ u => badIndication_keepsLaws u) ht
  | publication => exact partStep_keepsLaws (publication_keepsLaws s) ht
  | secondEvent => exact partStep_keepsLaws (secondEvent_keepsLaws s) ht
  | pointStale | incidentOverdue | offerExpiry | orderTimeout | windowEnd =>
    exact partStep_keepsLaws (doWork_keepsLaws s _) ht
  | _ => exact exec_request_keepsLaws rfl ht

/-- Settles O7: the command at the front of the queue keeps the laws, and the queue is no part of them. -/
theorem tablesAndPassesStayLegal : Obligations.TablesAndPassesStayLegal := by
  unfold Obligations.TablesAndPassesStayLegal
  intro s t hs hstep
  have hkeep : KeepsLaws s t := by
    unfold step at hstep
    split at hstep
    · obtain rfl := Host.Outcome.next.inj hstep
      exact .refl s
    · exact (KeepsLaws.setPending s _).trans (exec_keepsLaws hstep)
  exact ⟨hkeep.tables hs, hkeep.tracer hs⟩

end Sys2Proof.Machine
end

section
/-! SUPPORT. What counting the outage records again makes of each and which it flags (R71, R76 to R78). -/

namespace Sys2Proof.Machine

/-! ## One record counted again -/

/-- A record that stands as R77 counts it is counted to be the same. -/
theorem recounted_of_legal {s : State} {n : Nat} {o : Outage} (h : o.legal s n) : recounted s n o = o := by
  obtain ⟨-, hmembers, hoff, hrelit, -, hactive, hrestoring⟩ := h
  have hany : (members s n).any (fun r => r.2.supply = .unsupplied) = decide (o.state = .active) := by
    rw [Bool.eq_iff_iff, decide_eq_true_iff, hactive]
    simp
  unfold recounted
  dsimp only
  rw [hany, ← hmembers, ← hoff, ← hrelit]
  obtain ⟨state, start, second, _, _, _⟩ := o
  cases state with
  | active => simp
  | restoring =>
    cases second with
    | none => exact absurd rfl (hrestoring rfl)
    | some x => simp

/-- Counting keeps the start second, and the restoring second follows the state (R71). -/
theorem recounted_seconds (s : State) (n : Nat) (o : Outage) : (recounted s n o).start = o.start ∧
    (recounted s n o).restoring =
      if (recounted s n o).state = .active then o.restoring else some (o.restoring.getD s.clock.second) := by
  refine ⟨rfl, ?_⟩
  by_cases ha : (members s n).any (fun r => r.2.supply = .unsupplied) <;> simp [recounted, ha, State.now]

/-! ## What is flagged (R78) -/

theorem flagsIf_of_same {k : RecordClass} {n : Nat} {s u : State} (hn : u.notices = s.notices)
    (hp : u.port.onPlace = s.port.onPlace) : flagsIf k n false s u := by
  simpa using (Indicates.of_same hn hp).flags k n

/-- Counting the record of a slot again changes it. -/
def miscounted (s : State) (n : Nat) : Bool := (Table.at? s.outages n).any (fun o => recounted s n o != o)

theorem flagsIf_recountOutage (n m : Nat) (s : State) :
    flagsIf .outage m (decide (m = n) && miscounted s m) s (recountOutage n s) := by
  unfold recountOutage
  by_cases e : m = n
  · subst e
    cases ho : Table.at? s.outages m with
    | none => simpa [miscounted, ho] using flagsIf_of_same rfl rfl
    | some o =>
      by_cases hr : recounted s m o = o
      · simpa [miscounted, ho, hr] using flagsIf_of_same rfl rfl
      · have hput : flagsIf .outage m false s (s.putOutage m (recounted s m o)) := flagsIf_of_same (by simp) (by simp)
        have hne : (recounted s m o != o) = true := by simpa using hr
        simpa [miscounted, ho, hr, hne] using flagsIf_trans hput (flagsIf_flag .outage .outage m m _)
  · simp only [e, decide_false, Bool.false_and]
    split
    · exact flagsIf_of_same rfl rfl
    · rename_i o ho
      split
      · exact flagsIf_of_same rfl rfl
      · have hput : flagsIf .outage m false s (s.putOutage n (recounted s n o)) := flagsIf_of_same (by simp) (by simp)
        simpa [e] using flagsIf_trans hput (flagsIf_flag .outage .outage n m _)

theorem flagsIf_foldl_recountOutage {l : List Nat} (hl : l.Nodup) (m : Nat) (s : State) :
    flagsIf .outage m (decide (m ∈ l) && miscounted s m) s (l.foldl (fun s n => recountOutage n s) s) := by
  induction l generalizing s with
  | nil => simpa using flagsIf_of_same rfl rfl
  | cons n l ih =>
    obtain ⟨hn, hl'⟩ := List.nodup_cons.1 hl
    have hboth := flagsIf_trans (flagsIf_recountOutage n m s) (ih hl' (recountOutage n s))
    by_cases e : m = n
    · subst e
      simpa [hn] using hboth
    · have hsame : miscounted (recountOutage n s) m = miscounted s m := by
        have hat : Table.at? (recountOutage n s).outages m = Table.at? s.outages m := by simp [at?_recountOutage, e]
        have hcount : recounted (recountOutage n s) m = recounted s m :=
          funext fun o => recounted_congr (by simp) (by simp) m o
        unfold miscounted
        rw [hat, hcount]
      simpa [e, hsame] using hboth

/-- Counting every record again flags those that it changes (R78). -/
theorem flagsIf_recountOutages {s : State} (ho : Table.rises s.outages) (m : Nat) :
    flagsIf .outage m (miscounted s m) s (recountOutages s) := by
  have hflags := flagsIf_foldl_recountOutage (nodup_of_rising ho) m s
  have hmem : (decide (m ∈ Table.keys s.outages) && miscounted s m) = miscounted s m := by
    cases hm : Table.at? s.outages m with
    | none => simp [miscounted, hm]
    | some o => simp [Table.mem_keys_of_at? hm]
  rwa [hmem] at hflags

theorem miscounted_iff {s : State} (ho : Table.rises s.outages) (m : Nat) :
    miscounted s m = true ↔ Table.at? (recountOutages s).outages m ≠ Table.at? s.outages m := by
  rw [at?_recountOutages ho]
  cases hm : Table.at? s.outages m <;> simp [miscounted, hm]

theorem recountOutage_among (n : Nat) (s : State) : indicatesAmong [] [.outage] s (recountOutage n s) := by
  unfold recountOutage
  split
  · exact .refl s
  · exact .ite (.refl s) ((indicatesAmong_flag .outage n _).after (by simp) (by simp))

theorem recountOutages_among (s : State) : indicatesAmong [] [.outage] s (recountOutages s) :=
  .foldl (fun s n => recountOutage_among n s) _ s

theorem retireOutage_among (n : Nat) (s : State) : indicatesAmong [] [.outage] s (retireOutage n s) :=
  (indicatesAmong_flag .outage n _).after (by simp) (by simp)

theorem flagsIf_retireOutage (n m : Nat) (s : State) : flagsIf .outage m (decide (m = n)) s (retireOutage n s) := by
  have hdel : flagsIf .outage m false s (s.setOutages (Table.del s.outages n)) := flagsIf_of_same (by simp) (by simp)
  simpa [retireOutage] using flagsIf_trans hdel (flagsIf_flag .outage .outage n m _)

end Sys2Proof.Machine
end

section
/-! SUPPORT. REPORT RELIT (R80 to R82): what its two courses make of the segment, of the outage that it names and of its
open incidents, and O38. -/

namespace Sys2Proof.Machine

/-! ## A segment written anew -/

/-- A record that is written over changes a sum over the records that meet a test, where both meet it. -/
theorem Table.sum_put {α : Type} {t : Table α} (ht : Table.rises t) {n : Nat} {a b : α} (ha : Table.at? t n = some a)
    {p : α → Bool} (hpa : p a = true) (hpb : p b = true) (f : α → Nat) :
    (((Table.put t n b).filter (fun r => p r.2)).map (fun r => f r.2)).sum + f a =
      ((t.filter (fun r => p r.2)).map (fun r => f r.2)).sum + f b := by
  induction t with
  | nil => simp [Table.at?] at ha
  | cons r t ih =>
    obtain ⟨k, c⟩ := r
    obtain ⟨hk, ht'⟩ := Table.rises_cons.1 ht
    by_cases e : k = n
    · subst e
      obtain rfl : c = a := by simpa [Table.at?] using ha
      simp [Table.put, hpa, hpb]
      omega
    · have ha' : Table.at? t n = some a := by simpa [Table.at?, e] using ha
      have hlt : k < n := hk n (Table.mem_keys_of_at? ha')
      have := ih ht' ha'
      by_cases hc : p c <;> simp [Table.put, hlt.not_gt, Ne.symm e, hc] <;> omega

/-- The state with the record of segment `n` written anew and flagged. -/
def State.rewritten (s : State) (n : Nat) (g : Segment) : State := flag .segment n (s.putSegment n g)

@[simp] theorem rewritten_frame (s : State) (n : Nat) (g : Segment) :
    (s.rewritten n g).segments = Table.put s.segments n g ∧ (s.rewritten n g).outages = s.outages ∧
      (s.rewritten n g).incidents = s.incidents ∧ (s.rewritten n g).clock = s.clock := by
  simp [State.rewritten]

theorem rewritten_indicates (s : State) (n : Nat) (g : Segment) :
    Indicates [] [(.segment, n)] s (s.rewritten n g) :=
  ((Indicates.refl s).same (u := s.putSegment n g) (by simp) (by simp)).flag .segment n

/-- The segment with customers counted back on it (R81). -/
def Segment.counted (g : Segment) (count : Nat) : Segment := { g with relit := g.relit + count }

/-- The segment as a relighting leaves it (R82). -/
def Segment.relighted (g : Segment) : Segment := { g with supply := .supplied, outage := none, relit := 0 }

theorem rewritten_among (s : State) (n : Nat) (g : Segment) :
    indicatesAmong [.outage, .incident] [.segment, .outage, .incident] s (s.rewritten n g) :=
  ⟨_, _, rewritten_indicates s n g, by simp, by simp⟩

/-- With more customers relit on a member, the record that it names counts anew. -/
theorem miscounted_rewritten {s : State} (k : s.keysRise) (h : s.outagesLegal) {n c o : Nat} {g : Segment} {x : Outage}
    (hn : Table.at? s.segments n = some g) (hg : g.outage = some o) (hc : 0 < c)
    (hx : Table.at? s.outages o = some x) : miscounted (s.rewritten n (g.counted c)) o = true := by
  obtain ⟨-, hlegal⟩ := h
  obtain ⟨-, -, -, hrelit, -⟩ := hlegal o x hx
  have hsum := Table.sum_put k.segments hn (b := g.counted c)
    (p := fun g => decide (g.outage = some o)) (by simp [hg]) (by simp [Segment.counted, hg]) Segment.relit
  have hmore : (recounted (s.rewritten n (g.counted c)) o x).customersRelit = x.customersRelit + c := by
    rw [hrelit]
    simp only [recounted, members, rewritten_frame]
    have hcount : (g.counted c).relit = g.relit + c := rfl
    omega
  have hne : recounted (s.rewritten n (g.counted c)) o x ≠ x := by
    intro e
    rw [e] at hmore
    omega
  simpa [miscounted, hx] using hne

/-! ## The outage that the segment named -/

/-- From `s` to `u` the record `x` of outage `o` is flagged, and is retired with its last member or counted again
(R76, R77). -/
def outageRecounted (s u : State) (o : Nat) (x : Outage) : Prop :=
  flagsIf .outage o true s u ∧
    (((∀ m k, Table.at? u.segments m = some k → k.outage ≠ some o) ∧ Table.at? u.outages o = none) ∨
      ∃ y, Table.at? u.outages o = some y ∧ y.legal u o ∧ y.start = x.start ∧
        y.restoring = (if y.state = .active then x.restoring else some (x.restoring.getD s.clock.second)))

/-- What either course of a REPORT RELIT makes of the segments, the outages and their flags: segment `n` is written as
`g'`, and the outage that it named as `g` is counted again. -/
structure RelitTo (n : Nat) (g g' : Segment) (s u : State) : Prop where
  segments : u.segments = Table.put s.segments n g'
  among : indicatesAmong [.outage, .incident] [.segment, .outage, .incident] s u
  flags : flagsIf .segment n true s u
  others : ∀ m, g.outage ≠ some m → Table.at? u.outages m = Table.at? s.outages m
  own : ∀ o x, g.outage = some o → Table.at? s.outages o = some x → outageRecounted s u o x

/-- Operations that follow and leave segments and outages add nothing. -/
theorem RelitTo.after {n : Nat} {g g' : Segment} {s t u : State} (h : RelitTo n g g' s t)
    (hi : indicatesAmong [.outage, .incident] [.segment, .outage, .incident] t u) (hs : u.segments = t.segments)
    (ho : u.outages = t.outages) :
    RelitTo n g g' s u := by
  obtain ⟨hseg, hamong, hflags, hothers, hown⟩ := h
  refine ⟨hs.trans hseg, hamong.trans hi, hi.keeps_flag hflags, by rw [ho]; exact hothers, fun o x hg hx => ?_⟩
  obtain ⟨hflag, hrest⟩ := hown o x hg hx
  refine ⟨hi.keeps_flag hflag, ?_⟩
  rw [hs, ho]
  refine hrest.imp_right fun ⟨y, hy, hlegal, hsec⟩ => ⟨y, hy, outageLegal_of_members ?_ hlegal, hsec⟩
  simp [members, hs]

theorem RelitTo.raise {n : Nat} {g g' : Segment} {s t : State} (h : RelitTo n g g' s t) :
    RelitTo n g g' s (Machine.raise .outage t) ∧ raisesIf .outage true s (Machine.raise .outage t) := by
  obtain ⟨ms, fs, hi, -, -⟩ := h.among
  exact ⟨h.after ((indicatesAmong_raise .outage t).mono (by simp) (by simp)) (by simp) (by simp),
    hi.then_raises (by simpa using raisesIf_raise .outage .outage t)⟩

section
variable {s : State} (k : s.keysRise) (h : s.outagesLegal) {n : Nat} {g g' : Segment}
  (hn : Table.at? s.segments n = some g)
  (hsound : (g'.supply = .supplied → g'.outage = none ∧ g'.relit = 0) ∧ g'.relit ≤ g'.customers)
  (hout : g'.outage = none ∨ g'.outage = g.outage)
include k

theorem rises_rewritten : Table.rises (s.rewritten n g').segments := by
  simpa using Table.rises_put k.segments n g'

include h hn hsound hout

/-- The records that the segment did not name are counted to be the same. -/
theorem at?_recountOutages_rewritten {m : Nat} (hm : g.outage ≠ some m) :
    Table.at? (recountOutages (s.rewritten n g')).outages m = Table.at? s.outages m := by
  obtain ⟨-, -, hlegal⟩ := rewritten_legal (u := s.rewritten n g') k h hn (by simp) (by simp) hsound hout
  rw [at?_recountOutages (by simpa using k.outages), (rewritten_frame s n g').2.1]
  cases hx : Table.at? s.outages m with
  | none => rfl
  | some x => exact congrArg some (recounted_of_legal (hlegal m x hm (by simpa using hx)))

/-- The record that the segment named, where it still has a member, is counted again. -/
theorem recountOutages_rewritten_own {o : Nat} {x : Outage} (hx : Table.at? s.outages o = some x)
    (hmem : members (s.rewritten n g') o ≠ []) :
    ∃ y, Table.at? (recountOutages (s.rewritten n g')).outages o = some y ∧
      y.legal (recountOutages (s.rewritten n g')) o ∧ y.start = x.start ∧
      y.restoring = (if y.state = .active then x.restoring else some (x.restoring.getD s.clock.second)) := by
  obtain ⟨hs, -, -⟩ := rewritten_legal (u := s.rewritten n g') k h hn (by simp) (by simp) hsound hout
  have hrises := rises_rewritten k (n := n) (g' := g')
  obtain ⟨hstart, hrestoring⟩ := recounted_seconds (s.rewritten n g') o x
  refine ⟨recounted (s.rewritten n g') o x, ?_, ?_, hstart, by simpa using hrestoring⟩
  · rw [at?_recountOutages (by simpa using k.outages), (rewritten_frame s n g').2.1, hx]
    rfl
  · refine outageLegal_of_members ?_ (recounted_legal hrises hs ((members_ne_nil hrises).1 hmem) x)
    simp [members]

end

/-! ## The two courses (R81, R82) -/

section
variable {s : State} (k : s.keysRise) (h : s.outagesLegal) {n count : Nat} {g : Segment}
  (hn : Table.at? s.segments n = some g) (hg : g.supply = .relight)

theorem countRelit_zero : countRelit n 0 g s = s := if_pos rfl

theorem countRelit_counts (hc : 0 < count) (hlt : g.relit + count < g.customers) : countRelit n count g s =
    raise .outage (recountOutages (s.rewritten n (g.counted count))) := by
  rw [countRelit, if_neg hc.ne', if_neg (by omega)]
  rfl

theorem countRelit_relights (hc : 0 < count) (hle : g.customers ≤ g.relit + count) :
    countRelit n count g s = relightSegment n g s := by
  rw [countRelit, if_neg hc.ne', if_pos hle]

/-- The state of a relighting before the regrade of the open incidents (R82). -/
def relightedState (n : Nat) (g : Segment) (s : State) : State :=
  raise .outage (leaveOutage g.outage (s.rewritten n g.relighted))

theorem relightSegment_eq : relightSegment n g s =
    if 0 < g.openIncidents then regradeSegment n (relightedState n g s) else relightedState n g s := rfl

include k h hn

omit k h hn in
theorem leaveOutage_among (o : Option Nat) (s : State) : indicatesAmong [] [.outage] s (leaveOutage o s) := by
  cases o with
  | none => exact .refl s
  | some o => exact .ite (retireOutage_among o s) ((recountOutages_among s).trans (indicatesAmong_flag _ _ _))

theorem leaveOutage_others {m : Nat} (hm : g.outage ≠ some m) :
    Table.at? (leaveOutage g.outage (s.rewritten n g.relighted)).outages m = Table.at? s.outages m := by
  cases ho : g.outage with
  | none => simp [leaveOutage]
  | some o =>
    have hne : m ≠ o := by rintro rfl; exact hm ho
    unfold leaveOutage
    dsimp only
    split
    · simp [retireOutage, Table.at?_del, hne]
    · simpa using at?_recountOutages_rewritten k h hn (g' := g.relighted) (by simp [Segment.relighted])
        (by simp [Segment.relighted]) hm

theorem leaveOutage_own {o : Nat} {x : Outage} (ho : g.outage = some o) (hx : Table.at? s.outages o = some x) :
    outageRecounted s (leaveOutage g.outage (s.rewritten n g.relighted)) o x := by
  have hi := rewritten_indicates s n g.relighted
  rw [ho]
  unfold leaveOutage
  dsimp only
  split
  · rename_i hnone
    refine ⟨hi.then_flags ?_, .inl ⟨fun m j hj hjo => ?_, by simp [retireOutage, Table.at?_del]⟩⟩
    · simpa using flagsIf_retireOutage o o (s.rewritten n g.relighted)
    · exact (members_ne_nil (rises_rewritten k)).2 ⟨m, j, by simpa using hj, hjo⟩ hnone
  · rename_i hsome
    obtain ⟨y, hy, hlegal, hsec⟩ := recountOutages_rewritten_own k h hn (g' := g.relighted)
      (by simp [Segment.relighted]) (by simp [Segment.relighted]) hx hsome
    refine ⟨?_, .inr ⟨y, by simpa using hy, outageLegal_of_members (by simp [members]) hlegal, hsec⟩⟩
    obtain ⟨ms, fs, hrecount, -, -⟩ := recountOutages_among (s.rewritten n g.relighted)
    exact (hi.trans hrecount).then_flags (by simpa using flagsIf_flag .outage .outage o o _)

theorem leaveOutage_relitTo : RelitTo n g g.relighted s (leaveOutage g.outage (s.rewritten n g.relighted)) := by
  have hi := rewritten_indicates s n g.relighted
  have hleave := leaveOutage_among g.outage (s.rewritten n g.relighted)
  exact ⟨by simp, (rewritten_among s n g.relighted).trans (hleave.mono (by simp) (by simp)),
    hleave.keeps_flag (by simpa using hi.flags .segment n), fun _ hm => leaveOutage_others k h hn hm,
    fun _ _ ho hx => leaveOutage_own k h hn ho hx⟩

include hg

theorem recountOutages_relitTo (hc : 0 < count) (hlt : g.relit + count < g.customers) :
    RelitTo n g (g.counted count) s (recountOutages (s.rewritten n (g.counted count))) := by
  have hsound : ((g.counted count).supply = .supplied → g.outage = none ∧ (g.counted count).relit = 0) ∧
      (g.counted count).relit ≤ g.customers := ⟨by simp [hg, Segment.counted], hlt.le⟩
  have hi := rewritten_indicates s n (g.counted count)
  have hrecount := recountOutages_among (s.rewritten n (g.counted count))
  refine ⟨by simp, (rewritten_among s n _).trans (hrecount.mono (by simp) (by simp)),
    hrecount.keeps_flag (by simpa using hi.flags .segment n),
    fun m hm => at?_recountOutages_rewritten k h hn hsound (.inr rfl) hm, fun o x ho hx => ⟨hi.then_flags ?_, .inr ?_⟩⟩
  · have hflags := flagsIf_recountOutages (s := s.rewritten n (g.counted count)) (by simpa using k.outages) o
    rwa [miscounted_rewritten k h hn ho hc hx] at hflags
  · refine recountOutages_rewritten_own k h hn hsound (.inr rfl) hx ?_
    exact (members_ne_nil (rises_rewritten k)).2 ⟨n, g.counted count, by simp, ho⟩

/-- A REPORT RELIT of some customers writes the segment by its course, counts its outage again and raises OUTAGE. -/
theorem countRelit_relitTo (hc : 0 < count) :
    RelitTo n g (if g.customers ≤ g.relit + count then g.relighted else g.counted count) s (countRelit n count g s) ∧
      raisesIf .outage true s (countRelit n count g s) := by
  split
  · rename_i hle
    obtain ⟨hto, hraises⟩ : RelitTo n g g.relighted s (relightedState n g s) ∧
        raisesIf .outage true s (relightedState n g s) := (leaveOutage_relitTo k h hn).raise
    rw [countRelit_relights hc hle, relightSegment_eq]
    split
    · have hregrade := regradeSegment_among n (relightedState n g s)
      exact ⟨hto.after (hregrade.mono (by simp) (by simp)) (by simp) (by simp), hregrade.keeps_raise hraises⟩
    · exact ⟨hto, hraises⟩
  · rename_i hlt
    rw [countRelit_counts hc (not_le.1 hlt)]
    exact (recountOutages_relitTo k h hn hg hc (not_le.1 hlt)).raise

omit h hn hg in
/-- The open incidents of a segment that is relit are regraded (R82). -/
theorem at?_countRelit_incidents (m : Nat) : Table.at? (countRelit n count g s).incidents m =
    (Table.at? s.incidents m).map (fun i =>
      if 0 < count ∧ g.customers ≤ g.relit + count ∧ 0 < g.openIncidents ∧ i.segment = n
      then regraded (countRelit n count g s) i else i) := by
  by_cases hrelights : 0 < count ∧ g.customers ≤ g.relit + count ∧ 0 < g.openIncidents
  · obtain ⟨hc, hle, hopen⟩ := hrelights
    have hat : (relightedState n g s).incidents = s.incidents := by simp [relightedState]
    have hgrade : regraded (regradeSegment n (relightedState n g s)) = regraded (relightedState n g s) :=
      regraded_congr ⟨by simp, by simp, by simp, by simp, by simp⟩
    rw [countRelit_relights hc hle, relightSegment_eq, if_pos hopen, hgrade,
      at?_regradeSegment _ _ (hat ▸ k.incidents), hat]
    simp [hc, hle, hopen]
  · have hnot (i : Incident) :
        ¬ (0 < count ∧ g.customers ≤ g.relit + count ∧ 0 < g.openIncidents ∧ i.segment = n) := by tauto
    have hkept : (countRelit n count g s).incidents = s.incidents := by
      rcases Nat.eq_zero_or_pos count with rfl | hc
      · rw [countRelit_zero]
      · rcases lt_or_ge (g.relit + count) g.customers with hlt | hle
        · simp [countRelit_counts hc hlt]
        · rw [countRelit_relights hc hle, relightSegment_eq, if_neg (fun hopen => hrelights ⟨hc, hle, hopen⟩)]
          simp [relightedState]
    simp [hnot, hkept]

end

theorem changesOnly_countRelit (n count : Nat) (g : Segment) (s : State) :
    changesOnly [.segments, .outages, .incidents, .notices, .onPlace] s (countRelit n count g s) := by
  intro p hp
  cases p with
  | segments | outages | incidents | notices | onPlace => simp at hp
  | port => exact same_port (by simp)
  | _ => simp [State.same]

/-! ## The request (R80 to R82) -/

/-- An admitted REPORT RELIT passes the tests of R80. -/
theorem reportRelit_admitted {h : Header} {n count : Nat} {s : State} {g : Segment} (hm : s.model = .running)
    (hn : n < 4096) (hw : inWindow s h.desk n = true) (hg : Table.at? s.segments n = some g)
    (hsup : g.supply = .relight) : reportRelit h n count s = (countRelit n count g s,
      .doneClamped (g.customers < g.relit + count) (relitFields n g.outage (countRelit n count g s))) := by
  unfold reportRelit
  rw [tested_passed]
  · simp only [hg]
  · simp [running_iff.2 hm, hn, hw, Table.has_some hg, Table.test_some hg, hsup, Config.segmentSlots]

/-- Settles O38: by its two courses, and the course of a count of 0. -/
theorem reportRelitCounts : Obligations.ReportRelitCounts := by
  unfold Obligations.ReportRelitCounts
  intro h n count s g hready htables hlegal hwell hm hn hw hg hsup
  have k := htables.keysRise
  have hexec : exec (.reportRelit h n count) s = _ := request_ready hready hwell h [.overdue] (reportRelit h n count)
  rw [reportRelit_admitted hm hn hw hg hsup] at hexec
  refine ⟨_, countRelit n count g s, hexec, rfl, rfl, changesOnly_countRelit n count g s, ?_⟩
  rcases Nat.eq_zero_or_pos count with rfl | hc
  · rw [countRelit_zero]
    simp
  · obtain ⟨⟨hseg, -, hflag, hothers, hown⟩, hraises⟩ := countRelit_relitTo k hlegal hg hsup hc
    refine ⟨fun m hne => ?_, fun h0 => absurd h0 hc.ne', fun _ hlt => ?_, fun _ hle => ?_, fun _ => ⟨hraises, hflag⟩,
      hothers, fun o x _ ho hx => hown o x ho hx, at?_countRelit_incidents k⟩
    · rw [hseg, Table.at?_put_ne _ _ hne]
    · rw [hseg, if_neg (not_le.2 hlt), Table.at?_put_self]
      rfl
    · rw [hseg, if_pos hle, Table.at?_put_self]
      rfl

end Sys2Proof.Machine
end

section
/-! SUPPORT. The stages of a publication, what it writes of a segment, and O36 (R68 to R70, R79). -/

namespace Sys2Proof.Machine

/-! ## The stages of a publication -/

section
variable (inp : PassInputs) (s : State)

/-- The state with the supply fields written (R69). -/
def traced : State := publishSupply inp (writtenSegments s inp) s

/-- The islands that outages are assigned to. -/
def lostIslands : List (List Nat) := writtenIslands inp (writtenSegments s inp)

/-- The state with the outages assigned (R72). -/
def assigned : State := assignOutages (lostIslands inp s) (traced inp s)

/-- The segments that R78 flags. -/
def changedSegments : List Nat :=
  (writtenSegments s inp).filter (changedSegment s (assigned inp s) supplyFieldsDiffer)

/-- The segments that no record was free for (R75). -/
def unassignedSegments : List Nat := (writtenSegments s inp).filter fun n =>
  Table.test (assigned inp s).segments n (fun g => g.supply = .unsupplied && g.outage = none)

/-- The segments whose open incidents are regraded (R79). -/
def movedSegments : List Nat := (writtenSegments s inp).filter fun n =>
  changedSegment s (assigned inp s) (fun a b => a.supply != b.supply) n &&
    Table.test (assigned inp s).segments n (fun g => 0 < g.openIncidents)

/-- The publication raises OUTAGE (R78). -/
def tellsOutage : Bool := (writtenSegments s inp).any (changedSegment s (assigned inp s) supplyFieldsDiffer) ||
  (assigned inp s).outages != s.outages || 0 < (unassignedSegments inp s).length

/-- The state with the changed segments flagged and OUTAGE raised. -/
def told : State :=
  if tellsOutage inp s then raise .outage (flagAll .segment (changedSegments inp s) (assigned inp s))
  else flagAll .segment (changedSegments inp s) (assigned inp s)

theorem publish_eq : publish inp s = (movedSegments inp s).foldl (fun s n => regradeSegment n s)
    (endPass (unassignedSegments inp s).length (told inp s)) := by
  unfold publish told tellsOutage
  simp [unassignedSegments, movedSegments, changedSegments, assigned, traced, lostIslands]

@[simp] theorem told_frame : (told inp s).segments = (assigned inp s).segments ∧
    (told inp s).outages = (assigned inp s).outages ∧ (told inp s).tracer = s.tracer ∧
    (told inp s).incidents = s.incidents ∧ (told inp s).valves = s.valves ∧ (told inp s).points = s.points ∧
    (told inp s).clock = s.clock := by
  unfold told
  split <;> simp [assigned, traced]

theorem publish_segments : (publish inp s).segments = (assigned inp s).segments := by simp [publish_eq]

theorem publish_outages : (publish inp s).outages = (assigned inp s).outages := by simp [publish_eq]

/-- What the end of the pass makes of the tracer (R68, R79). -/
theorem publish_tracer : (publish inp s).tracer =
    { pass := if s.tracer.rerun then .running (takeInputs (publish inp s)) else .idle
      restarts := 0
      rerun := false
      generation := (s.tracer.generation + 1) % 65536
      lastPublication := some s.clock.second
      overflow := 0 < (unassignedSegments inp s).length
      unassigned := (unassignedSegments inp s).length } := by
  have hin : takeInputs (told inp s) = takeInputs (publish inp s) := by simp [takeInputs, publish_segments]
  have htracer : (publish inp s).tracer = (endPass (unassignedSegments inp s).length (told inp s)).tracer := by
    simp [publish_eq]
  rw [htracer, ← hin]
  simp [endPass, State.now]

end

/-! ## The segments that a publication writes -/

section
variable {inp : PassInputs} {s : State} {n : Nat} {g : Segment}

theorem mem_writtenSegments : n ∈ writtenSegments s inp ↔
    n ∈ inp.segments ∧ n ∉ inp.freed ∧ Table.has s.segments n = true := by
  simp [writtenSegments]

theorem nodup_writtenSegments (hinp : inp.segments.Pairwise (· < ·)) : (writtenSegments s inp).Nodup :=
  nodup_of_rising (hinp.sublist List.filter_sublist)

open Classical in
theorem at?_traced (hinp : inp.segments.Pairwise (· < ·)) (n : Nat) : Table.at? (traced inp s).segments n =
    if n ∈ writtenSegments s inp then (Table.at? s.segments n).map (publishedSegment (decide (Reaches inp n)))
    else Table.at? s.segments n := by
  have hreach : (reached inp).contains n = decide (Reaches inp n) := by simp [mem_reached]
  rw [traced, at?_publishSupply (nodup_writtenSegments hinp), hreach]

/-- A segment in use is in an island exactly if it is written and gas does not reach it. -/
theorem mem_lostIslands : (∃ i ∈ lostIslands inp s, n ∈ i) ↔ n ∈ writtenSegments s inp ∧ ¬ Reaches inp n := by
  constructor
  · rintro ⟨i, hi, hn⟩
    obtain ⟨hw, hu⟩ := (mem_writtenIslands hi).2 n hn
    exact ⟨hw, (mem_unreached.1 hu).2⟩
  · rintro ⟨hw, hr⟩
    obtain ⟨hin, -, -⟩ := mem_writtenSegments.1 hw
    obtain ⟨j, hj, hn⟩ := exists_island (mem_unreached.2 ⟨hin, hr⟩)
    have hmem : n ∈ j.filter (writtenSegments s inp).contains := by simp [hn, hw]
    exact ⟨_, List.mem_filter.2 ⟨List.mem_map.2 ⟨j, hj, rfl⟩, by simpa using List.ne_nil_of_mem hmem⟩, hmem⟩

/-! ## Outage assignment and the segments -/

/-- The record of a segment but for the outage that it names. -/
def Segment.unnamed (g : Segment) : Segment := { g with outage := none }

/-- From `s` to `u` the segments of the islands may name another outage, and nothing else of a segment changes. -/
structure Reassigns (l : List (List Nat)) (s u : State) : Prop where
  others : ∀ n, (∀ i ∈ l, n ∉ i) → Table.at? u.segments n = Table.at? s.segments n
  unnamed : ∀ n, (Table.at? u.segments n).map Segment.unnamed = (Table.at? s.segments n).map Segment.unnamed

theorem Reassigns.of_same {l : List (List Nat)} {s u : State} (h : u.segments = s.segments) : Reassigns l s u :=
  ⟨fun _ _ => by rw [h], fun _ => by rw [h]⟩

theorem Reassigns.trans {l : List (List Nat)} {s t u : State} (h : Reassigns l s t) (h' : Reassigns l t u) :
    Reassigns l s u :=
  ⟨fun n hn => (h'.others n hn).trans (h.others n hn), fun n => (h'.unnamed n).trans (h.unnamed n)⟩

theorem assignIsland_reassigns {l : List (List Nat)} {i : List Nat} (hi : i ∈ l) (o : Option Nat) (s : State) :
    Reassigns l s (assignIsland i o s) := by
  refine ⟨fun n hn => by rw [at?_assignIsland, if_neg (hn i hi)], fun n => ?_⟩
  rw [at?_assignIsland]
  split
  · rw [Option.map_map]
    rfl
  · rfl

theorem Reassigns.foldl {α : Type} {l : List (List Nat)} {f : State → α → State} {as : List α}
    (hf : ∀ a ∈ as, ∀ s, Reassigns l s (f s a)) (s : State) : Reassigns l s (as.foldl f s) := by
  induction as generalizing s with
  | nil => exact .of_same rfl
  | cons a as ih => exact (hf a (by simp) s).trans (ih (fun b hb => hf b (by simp [hb])) _)

theorem assignClaims_reassigns (l : List (List Nat)) (s : State) : Reassigns l s (assignClaims l s) := by
  refine .foldl (fun c hc s => ?_) s
  obtain ⟨i, hi, rfl⟩ := List.mem_map.1 hc
  exact assignIsland_reassigns hi _ s

theorem giveRecord_reassigns {l : List (List Nat)} {i : List Nat} (hi : i ∈ l) (s : State) :
    Reassigns l s (giveRecord i s) := by
  unfold giveRecord
  split
  · exact .of_same rfl
  · rename_i n hn
    have hput : Reassigns l s (s.putOutage n (newOutage s)) := .of_same (by simp)
    exact (hput.trans (assignIsland_reassigns hi (some n) _)).trans (.of_same (by simp))

theorem assignOutages_reassigns (l : List (List Nat)) (s : State) : Reassigns l s (assignOutages l s) := by
  have hretired : Reassigns l s (retireEmpty (assignClaims l s)) :=
    (assignClaims_reassigns l s).trans (.of_same (by simp))
  have hgiven : Reassigns l (retireEmpty (assignClaims l s)) ((l.filter (fun i => (claimant s i).isNone)).foldl
      (fun s i => giveRecord i s) (retireEmpty (assignClaims l s))) :=
    .foldl (fun i hi t => giveRecord_reassigns (List.mem_of_mem_filter hi) t) _
  exact (hretired.trans hgiven).trans (.of_same (by simp [assignOutages]))

/-! ## What a publication makes of a segment (R69) -/

/-- A segment that no island holds is left as R69 wrote it. -/
theorem at?_assigned_of_not_lost (h : ¬ (n ∈ writtenSegments s inp ∧ ¬ Reaches inp n)) :
    Table.at? (assigned inp s).segments n = Table.at? (traced inp s).segments n :=
  (assignOutages_reassigns (lostIslands inp s) (traced inp s)).others n fun i hi hn => h (mem_lostIslands.1 ⟨i, hi, hn⟩)

theorem at?_assigned_of_unwritten (hinp : inp.segments.Pairwise (· < ·)) (h : n ∉ writtenSegments s inp) :
    Table.at? (assigned inp s).segments n = Table.at? s.segments n := by
  rw [at?_assigned_of_not_lost (fun ⟨hw, _⟩ => h hw), at?_traced hinp, if_neg h]

theorem at?_assigned_of_reached (hinp : inp.segments.Pairwise (· < ·)) (hg : Table.at? s.segments n = some g)
    (hw : n ∈ writtenSegments s inp) (hr : Reaches inp n) :
    Table.at? (assigned inp s).segments n = some (publishedSegment true g) := by
  rw [at?_assigned_of_not_lost (fun ⟨_, hnot⟩ => hnot hr), at?_traced hinp, if_pos hw, hg]
  simp [hr]

theorem at?_assigned_of_lost (hinp : inp.segments.Pairwise (· < ·)) (hg : Table.at? s.segments n = some g)
    (hw : n ∈ writtenSegments s inp) (hr : ¬ Reaches inp n) :
    ∃ o, Table.at? (assigned inp s).segments n = some { publishedSegment false g with outage := o } := by
  have hmap := (assignOutages_reassigns (lostIslands inp s) (traced inp s)).unnamed n
  rw [at?_traced hinp, if_pos hw, hg] at hmap
  obtain ⟨g', hg', he⟩ := Option.map_eq_some_iff.1 hmap
  refine ⟨g'.outage, hg'.trans (congrArg some ?_)⟩
  have hfields : { g'.unnamed with outage := g'.outage } = g' := rfl
  rw [← hfields, he]
  simp [Segment.unnamed, hr]

/-- The table of R69 for a segment that gas reaches. -/
theorem publishedSegment_reached (g : Segment) :
    (g.supply = .supplied → publishedSegment true g = { g with outage := none, relit := 0 }) ∧
    (g.supply = .unsupplied → 0 < g.customers → publishedSegment true g = { g with supply := .relight, relit := 0 }) ∧
    (g.supply = .unsupplied → g.customers = 0 →
      publishedSegment true g = { g with supply := .supplied, outage := none, relit := 0 }) ∧
    (g.supply = .relight → publishedSegment true g = g) := by
  unfold publishedSegment
  refine ⟨fun h => ?_, fun h hc => ?_, fun h hc => ?_, fun h => ?_⟩ <;> simp [*]

/-- The table of R69 for a segment that gas does not reach. -/
theorem publishedSegment_lost (g : Segment) : (publishedSegment false g).supply = .unsupplied ∧
    (publishedSegment false g).relit = if g.supply = .supplied then 0 else g.relit := by
  unfold publishedSegment
  cases h : g.supply <;> simp [h]

/-! ## The publication command (O36) -/

theorem publication_idle (h : s.tracer.pass = .idle) : publication s = s := by
  unfold publication
  rw [h]

theorem publication_running (h : s.tracer.pass = .running inp) : publication s = publish inp s := by
  unfold publication
  rw [h]

theorem changesOnly_publish (inp : PassInputs) (s : State) :
    changesOnly [.segments, .outages, .tracer, .incidents, .notices, .onPlace] s (publish inp s) := by
  intro p hp
  cases p with
  | segments | outages | tracer | incidents | notices | onPlace => simp at hp
  | port => exact same_port (by simp)
  | _ => simp [State.same]

/-- The fields that a publication writes of a segment in use, by the table of R69. -/
theorem publish_writes (hinp : inp.segments.Pairwise (· < ·)) (hg : Table.at? s.segments n = some g)
    (hw : n ∈ writtenSegments s inp) : ∃ g', Table.at? (publish inp s).segments n = some g' ∧
      g' = { g with supply := g'.supply, outage := g'.outage, relit := g'.relit } ∧
      (Reaches inp n → g.supply = .supplied → g'.supply = .supplied ∧ g'.outage = none ∧ g'.relit = 0) ∧
      (Reaches inp n → g.supply = .unsupplied → 0 < g.customers →
        g'.supply = .relight ∧ g'.outage = g.outage ∧ g'.relit = 0) ∧
      (Reaches inp n → g.supply = .unsupplied → g.customers = 0 →
        g'.supply = .supplied ∧ g'.outage = none ∧ g'.relit = 0) ∧
      (Reaches inp n → g.supply = .relight → g' = g) ∧
      (¬ Reaches inp n → g'.supply = .unsupplied ∧ g'.relit = (if g.supply = .supplied then 0 else g.relit)) := by
  rw [publish_segments]
  by_cases hr : Reaches inp n
  · obtain ⟨hsupplied, hrelight, hnobody, hkept⟩ := publishedSegment_reached g
    refine ⟨_, at?_assigned_of_reached hinp hg hw hr, publishedSegment_eq true g, fun _ h => ?_, fun _ h hc => ?_,
      fun _ h hc => ?_, fun _ => hkept, fun h => absurd hr h⟩
    · rw [hsupplied h]
      exact ⟨h, rfl, rfl⟩
    · rw [hrelight h hc]
      exact ⟨rfl, rfl, rfl⟩
    · rw [hnobody h hc]
      exact ⟨rfl, rfl, rfl⟩
  · obtain ⟨o, ho⟩ := at?_assigned_of_lost hinp hg hw hr
    refine ⟨_, ho, ?_, fun h => absurd h hr, fun h => absurd h hr, fun h => absurd h hr, fun h => absurd h hr,
      fun _ => publishedSegment_lost g⟩
    rw [publishedSegment_eq false g]

end

/-- Settles O36: segment by segment through the two stages of a publication, and the end of its pass. -/
theorem publicationWritesSupply : Obligations.PublicationWritesSupply := by
  unfold Obligations.PublicationWritesSupply
  intro s hheld _ htracer
  obtain ⟨-, -, -, -, hpass⟩ := htracer
  have hexec : exec .publication s = .next (publication s) := unheld_partStep hheld publication
  refine ⟨fun hidle => by rw [hexec, publication_idle hidle], fun inp hrun => ?_⟩
  have hinp := hpass inp hrun
  have htracer := publish_tracer inp s
  rw [publication_running hrun] at hexec
  refine ⟨_, hexec, changesOnly_publish inp s, fun n hn => ?_, fun n g hg hnot => ?_, fun n g hg hin hfreed => ?_,
    by rw [htracer], by rw [htracer], by rw [htracer], by rw [htracer], fun hre => ?_, fun hre => ?_⟩
  · have hw : n ∉ writtenSegments s inp := by simp [mem_writtenSegments, Table.has, hn]
    rw [publish_segments, at?_assigned_of_unwritten hinp hw, hn]
  · have hw : n ∉ writtenSegments s inp := fun h => by
      obtain ⟨hin, hfreed, -⟩ := mem_writtenSegments.1 h
      exact hnot.elim (· hin) hfreed
    rw [publish_segments, at?_assigned_of_unwritten hinp hw, hg]
  · exact publish_writes hinp hg (mem_writtenSegments.2 ⟨hin, hfreed, Table.has_some hg⟩)
  · rw [htracer, hre]
    rfl
  · rw [htracer, hre]
    simp only [if_true]

end Sys2Proof.Machine
end

section
/-! SUPPORT. The records that claim an island at a publication, and what the islands without one are (R72, R73). -/

namespace Sys2Proof.Machine

/-! ## The home island of a record -/

section
variable (inp : PassInputs) (s : State)

/-- A publication leaves segment `n` without gas. -/
def losesGas (n : Nat) : Prop :=
  (n ∈ inp.segments ∧ n ∉ inp.freed ∧ Table.has s.segments n = true) ∧ ¬ Reaches inp n

/-- Segment `n` names record `o` and is UNSUPPLIED after R69. -/
def keepsOff (o n : Nat) : Prop := ∃ g, Table.at? s.segments n = some g ∧ g.outage = some o ∧
  (losesGas inp s n ∨
    (¬ (n ∈ inp.segments ∧ n ∉ inp.freed ∧ Table.has s.segments n = true) ∧ g.supply = .unsupplied))

/-- The home island of record `o` is that of segment `n` (R72). -/
def claimsHome (o n : Nat) : Prop :=
  ∃ m, keepsOff inp s o m ∧ (∀ k, keepsOff inp s o k → m ≤ k) ∧ losesGas inp s m ∧ Chained inp n m

/-- `x` is the lowest segment of the island of segment `n`, written or not. -/
def lowestOfIsland (n x : Nat) : Prop := Chained inp n x ∧ ∀ y, Chained inp n y → x ≤ y

/-- No record claims the island of segment `n`. -/
def homeless (n : Nat) : Prop := losesGas inp s n ∧ ∀ o, ¬ claimsHome inp s o n

end

section
variable {inp : PassInputs} {s : State} {n m o : Nat} {i : List Nat}

theorem mem_lostIslands_iff : (∃ i ∈ lostIslands inp s, n ∈ i) ↔ losesGas inp s n := by
  rw [mem_lostIslands, mem_writtenSegments]
  rfl

theorem unreached_of_losesGas (h : losesGas inp s n) : n ∈ unreached inp := by
  obtain ⟨⟨hin, -, -⟩, hr⟩ := h
  exact mem_unreached.2 ⟨hin, hr⟩

/-- An island of a publication holds the segments without gas that chains join to any one of them. -/
theorem mem_lostIsland (hi : i ∈ lostIslands inp s) (hn : n ∈ i) : m ∈ i ↔ losesGas inp s m ∧ Chained inp n m := by
  obtain ⟨hmap, -⟩ := List.mem_filter.1 hi
  obtain ⟨j, hj, rfl⟩ := List.mem_map.1 hmap
  obtain ⟨hnj, -⟩ := List.mem_filter.1 hn
  have hchain : m ∈ j ↔ Chained inp n m := mem_island_iff hj hnj
  constructor
  · intro hm
    exact ⟨mem_lostIslands_iff.1 ⟨_, hi, hm⟩, hchain.1 (List.mem_of_mem_filter hm)⟩
  · rintro ⟨⟨hw, -⟩, hc⟩
    exact List.mem_filter.2 ⟨hchain.2 hc, by simpa using mem_writtenSegments.2 hw⟩

theorem lostIslands_apart (hinp : inp.segments.Pairwise (· < ·)) : (lostIslands inp s).Pairwise List.Disjoint :=
  writtenIslands_apart hinp _

/-! ## The records that claim an island -/

/-- No segment that gas reaches is left UNSUPPLIED. -/
theorem publishedSegment_supply_ne (g : Segment) : (publishedSegment true g).supply ≠ .unsupplied := by
  unfold publishedSegment
  cases h : g.supply <;> simp [h]
  split <;> simp

/-- A segment without gas names the record that it named. -/
theorem publishedSegment_outage {g : Segment} (h : g.supply = .supplied → g.outage = none) :
    (publishedSegment false g).outage = g.outage := by
  unfold publishedSegment
  cases hg : g.supply <;> simp [h, hg]

section
variable (hinp : inp.segments.Pairwise (· < ·)) (k : s.keysRise) (h : s.outagesLegal)
include hinp k h

theorem traced_assigning : Assigning (traced inp s) (lostIslands inp s) := publishSupply_assigning k h hinp

omit k in
/-- The UNSUPPLIED members of a record, with the supply fields written. -/
theorem keepsOff_iff : keepsOff inp s o n ↔
    ∃ g, Table.at? (traced inp s).segments n = some g ∧ (g.outage = some o ∧ g.supply = .unsupplied) := by
  obtain ⟨hsound, -, -⟩ := outagesLegal_iff.1 h
  unfold keepsOff losesGas
  rw [at?_traced hinp, ← mem_writtenSegments]
  by_cases hw : n ∈ writtenSegments s inp
  · by_cases hr : Reaches inp n
    · simp [hw, hr, publishedSegment_supply_ne]
    · simp only [hw, hr, not_false_eq_true, and_self, not_true_eq_false, false_and, or_false, and_true, if_true,
        Option.map_eq_some_iff, exists_exists_and_eq_and, decide_false, (publishedSegment_lost _).1]
      refine exists_congr fun g => and_congr_right fun hg => ?_
      rw [publishedSegment_outage (fun hsup => ((hsound n g hg).1 hsup).1)]
  · simp [hw]

theorem lowestUnsupplied_traced : lowestUnsupplied (traced inp s) o = some m ↔
    keepsOff inp s o m ∧ ∀ j, keepsOff inp s o j → m ≤ j := by
  unfold lowestUnsupplied
  rw [Table.head?_which (traced_assigning hinp k h).segments]
  simp [keepsOff_iff hinp h]

theorem keepsOff_in_use (hm : keepsOff inp s o m) : Table.has (traced inp s).outages o = true := by
  obtain ⟨g, hg, ho, -⟩ := (keepsOff_iff hinp h).1 hm
  exact (traced_assigning hinp k h).named m g o hg ho

/-- A record claims an island where its lowest UNSUPPLIED member lies in it. -/
theorem claimsHome_iff (hi : i ∈ lostIslands inp s) (hn : n ∈ i) : claimsHome inp s o n ↔
    Table.has (traced inp s).outages o = true ∧ (lowestUnsupplied (traced inp s) o).any i.contains = true := by
  constructor
  · rintro ⟨m, hm, hle, hlost, hchain⟩
    refine ⟨keepsOff_in_use hinp k h hm, ?_⟩
    rw [(lowestUnsupplied_traced hinp k h).2 ⟨hm, hle⟩]
    simpa using (mem_lostIsland hi hn).2 ⟨hlost, hchain⟩
  · rintro ⟨-, hany⟩
    cases hlow : lowestUnsupplied (traced inp s) o with
    | none => simp [hlow] at hany
    | some m =>
      obtain ⟨hm, hle⟩ := (lowestUnsupplied_traced hinp k h).1 hlow
      obtain ⟨hlost, hchain⟩ := (mem_lostIsland hi hn).1 (by simpa [hlow] using hany)
      exact ⟨m, hm, hle, hlost, hchain⟩

/-- The record that an island keeps is the lowest of those that claim it (R73). -/
theorem claimant_some_iff (hi : i ∈ lostIslands inp s) (hn : n ∈ i) : claimant (traced inp s) i = some o ↔
    claimsHome inp s o n ∧ ∀ j, claimsHome inp s j n → o ≤ j := by
  unfold claimant
  rw [Table.find?_keys (traced_assigning hinp k h).outages]
  simp only [claimsHome_iff hinp k h hi hn]

theorem claimant_none_iff (hi : i ∈ lostIslands inp s) (hn : n ∈ i) : claimant (traced inp s) i = none ↔
    homeless inp s n := by
  unfold claimant homeless
  simp only [List.find?_eq_none, Table.mem_keys, claimsHome_iff hinp k h hi hn, mem_lostIslands_iff.1 ⟨i, hi, hn⟩,
    true_and, not_and]

end
end

/-! ## The claims taken -/

section
variable {l : List (List Nat)} {s : State}

theorem outage_assignClaims (hapart : l.Pairwise List.Disjoint) {i : List Nat} (hi : i ∈ l) {n : Nat} (hn : n ∈ i)
    {g : Segment} (hg : Table.at? (assignClaims l s).segments n = some g) : g.outage = claimant s i :=
  outage_foldl_assignIsland (claims := l.map (fun i => (i, claimant s i)))
    (List.pairwise_map.2 (by simpa using hapart)) (List.mem_map.2 ⟨i, hi, rfl⟩) hn hg

/-- The islands that no record claims. -/
def unclaimedIslands (l : List (List Nat)) (s : State) : List (List Nat) := l.filter fun i => (claimant s i).isNone

theorem mem_unclaimedIslands {i : List Nat} : i ∈ unclaimedIslands l s ↔ i ∈ l ∧ claimant s i = none := by
  simp [unclaimedIslands]

theorem assignClaims_assigning (h : Assigning s l) : Assigning (assignClaims l s) l := by
  refine foldl_assignIsland_assigning _ h (fun c hc => ?_) (fun c hc m hm => ?_) <;>
    obtain ⟨i, hi, rfl⟩ := List.mem_map.1 hc
  · exact hi
  · exact claimant_in_use hm

/-- With the claims taken and the empty records retired, the islands that no record claims wait for one. -/
theorem unclaimedIslands_waiting (h : Assigning s l) (hne : ∀ i ∈ l, i ≠ []) (hapart : l.Pairwise List.Disjoint) :
    Waiting (retireEmpty (assignClaims l s)) (unclaimedIslands l s) := by
  have hclaims := assignClaims_assigning h
  have hretired := retireEmpty_assigning hclaims
  have hsub (i) (hi : i ∈ unclaimedIslands l s) : i ∈ l := (mem_unclaimedIslands.1 hi).1
  refine ⟨⟨hretired.segments, hretired.outages, hretired.sound, hretired.named,
    fun i hi => hretired.lost i (hsub i hi)⟩, retireEmpty_used hclaims.segments, fun i hi n hn o => ?_,
    fun i hi => hne i (hsub i hi), hapart.sublist List.filter_sublist⟩
  rw [names_congr (s := assignClaims l s) (by simp)]
  rintro ⟨g, hg, hgo⟩
  rw [outage_assignClaims hapart (hsub i hi) hn hg, (mem_unclaimedIslands.1 hi).2] at hgo
  simp at hgo

end

end Sys2Proof.Machine
end

section
/-! SUPPORT. The new records that a publication gives to the islands that no record claims (R75). -/

namespace Sys2Proof.Machine

/-- With no free slot every slot is in use. -/
theorem Table.lowestFree_none {α : Type} {t : Table α} {cap : Nat} (h : Table.lowestFree t cap = none) {n : Nat}
    (hn : n < cap) : Table.has t n = true := by
  unfold Table.lowestFree at h
  rw [Option.filter_eq_none_iff] at h
  cases hfind : (List.range (t.length + 1)).find? (fun n => !Table.has t n) with
  | none =>
    have hsub : List.range (t.length + 1) ⊆ Table.keys t := fun m hm =>
      Table.mem_keys.2 (by simpa using List.find?_eq_none.1 hfind m hm)
    have hlen := (List.subperm_of_subset List.nodup_range hsub).length_le
    simp [Table.keys] at hlen
  | some m =>
    obtain ⟨-, -, hbelow⟩ := List.find?_range_eq_some.1 hfind
    have hcap := h m hfind
    have hm : n < m := lt_of_lt_of_le hn (by simpa using hcap)
    simpa using hbelow n hm

/-! ## One record given -/

section
variable {s : State} {i : List Nat} {o : Nat}

/-- With every slot in use an island stays without a record. -/
theorem giveRecord_full (h : Table.lowestFree s.outages Config.outageSlots = none) : giveRecord i s = s := by
  unfold giveRecord
  rw [h]

variable (h : Table.lowestFree s.outages Config.outageSlots = some o)
include h

theorem at?_giveRecord_outages (m : Nat) : Table.at? (giveRecord i s).outages m =
    if m = o then some (newOutage s) else Table.at? s.outages m := by
  unfold giveRecord
  rw [h]
  simp [Table.at?_put]

theorem at?_giveRecord (n : Nat) : Table.at? (giveRecord i s).segments n = if n ∈ i
    then (Table.at? s.segments n).map (fun g => { g with outage := some o }) else Table.at? s.segments n := by
  unfold giveRecord
  rw [h]
  simp [at?_assignIsland]

theorem flagsIf_giveRecord (m : Nat) : flagsIf .outage m (decide (m = o)) s (giveRecord i s) := by
  unfold giveRecord
  rw [h]
  have hput : flagsIf .outage m false s (assignIsland i (some o) (s.putOutage o (newOutage s))) :=
    flagsIf_of_same (by simp) (by simp)
  simpa using flagsIf_trans hput (flagsIf_flag .outage .outage o m _)

end

theorem giveRecord_among (i : List Nat) (s : State) : indicatesAmong [] [.outage] s (giveRecord i s) := by
  unfold giveRecord
  split
  · exact .refl s
  · exact (indicatesAmong_flag .outage _ _).after (by simp) (by simp)

/-! ## Records given to the islands of a list -/

/-- In `u`, record `o` is a new one, in the lowest of the slots that were free, and the segments of the island alone
name it. -/
def newRecord (s u : State) (i : List Nat) (o : Nat) : Prop :=
  o < 128 ∧ Table.at? s.outages o = none ∧ Table.at? u.outages o = some (newOutage s) ∧
    (∀ k < o, Table.has u.outages k = true) ∧ ∀ m, u.names m o ↔ m ∈ i

/-- What the giving of records to the islands of a list makes of a state (R75). -/
structure Gives (l : List (List Nat)) (s u : State) : Prop where
  reassigns : Reassigns l s u
  kept : ∀ o x, Table.at? s.outages o = some x → Table.at? u.outages o = some x
  flags : ∀ o, flagsIf .outage o (!Table.has s.outages o && Table.has u.outages o) s u
  made : ∀ i ∈ l, ∀ n ∈ i, ∀ o, u.names n o → newRecord s u i o
  without : ∀ i ∈ l, ∀ n ∈ i, (∀ o, ¬ u.names n o) → ∀ o < 128, Table.has u.outages o = true
  order : l.Pairwise fun i j => ∀ n ∈ i, ∀ m ∈ j, ∀ o, u.names m o → ∃ k < o, u.names n k

theorem Gives.kept_has {l : List (List Nat)} {s u : State} (h : Gives l s u) {o : Nat}
    (ho : Table.has s.outages o = true) : Table.has u.outages o = true := by
  obtain ⟨x, hx⟩ := (Table.has_iff ..).1 ho
  exact Table.has_some (h.kept o x hx)

theorem Gives.nil (s : State) : Gives [] s s :=
  ⟨.of_same rfl, fun _ _ h => h, fun o => by simpa using flagsIf_of_same rfl rfl, by simp, by simp, .nil⟩

theorem names_of_at? {s u : State} {n : Nat} (h : Table.at? u.segments n = Table.at? s.segments n) (o : Nat) :
    u.names n o ↔ s.names n o := by simp [State.names, h]

theorem Reassigns.mono {l m : List (List Nat)} {s u : State} (h : Reassigns l s u) (hl : l ⊆ m) : Reassigns m s u :=
  ⟨fun n hn => h.others n fun i hi => hn i (hl hi), h.unnamed⟩

section
variable {s u : State} {i : List Nat} {l : List (List Nat)} (hw : Waiting s (i :: l))
include hw

/-- The segments of the first island are in no other. -/
theorem Waiting.not_mem_rest {n : Nat} (hn : n ∈ i) : ∀ j ∈ l, n ∉ j := by
  obtain ⟨hdisj, -⟩ := List.pairwise_cons.1 hw.apart
  exact fun j hj hnj => hdisj j hj hn hnj

/-- The first island finds no slot free. -/
theorem Gives.cons_full (hfull : Table.lowestFree s.outages Config.outageSlots = none) (h : Gives l s u) :
    Gives (i :: l) s u := by
  have hhas (o) (ho : o < 128) : Table.has s.outages o = true := Table.lowestFree_none hfull ho
  have hnone (n) (hn : n ∈ i) (o) : ¬ u.names n o := by
    rw [names_of_at? (h.reassigns.others n (hw.not_mem_rest hn))]
    exact hw.free i (by simp) n hn o
  refine ⟨h.reassigns.mono (by simp), h.kept, h.flags, List.forall_mem_cons.2 ⟨fun n hn o ho => ?_, h.made⟩,
    List.forall_mem_cons.2 ⟨fun n _ _ o ho => h.kept_has (hhas o ho), h.without⟩,
    List.pairwise_cons.2 ⟨fun j hj n hn m hm o ho => ?_, h.order⟩⟩
  · exact absurd ho (hnone n hn o)
  · obtain ⟨ho128, hfree, -⟩ := h.made j hj m hm o ho
    rw [Table.at?_none_iff, hhas o ho128] at hfree
    simp at hfree

section
variable {o : Nat} (ho : Table.lowestFree s.outages Config.outageSlots = some o) (h : Gives l (giveRecord i s) u)
include ho h

omit hw in
/-- The records that were in use stay when the first island takes a slot and the others theirs. -/
theorem Gives.kept_of_free {m : Nat} {x : Outage} (hm : Table.at? s.outages m = some x) :
    Table.at? u.outages m = some x := by
  obtain ⟨-, hfree, -⟩ := Table.lowestFree_some ho
  refine h.kept m x ?_
  rw [at?_giveRecord_outages ho, if_neg (by rintro rfl; simp [hfree] at hm), hm]

/-- The segments of the first island name the slot that it takes. -/
theorem Gives.names_first {n : Nat} (hn : n ∈ i) (m : Nat) : u.names n m ↔ m = o := by
  obtain ⟨g, hg, -⟩ := hw.lost i (by simp) n hn
  rw [names_of_at? (h.reassigns.others n (hw.not_mem_rest hn)), State.names, at?_giveRecord ho, if_pos hn, hg]
  simp [eq_comm]

theorem Gives.newRecord_first : newRecord s u i o := by
  obtain ⟨hlt, hfree, hbelow⟩ := Table.lowestFree_some ho
  have hnew : Table.at? u.outages o = some (newOutage s) :=
    h.kept o _ (by rw [at?_giveRecord_outages ho, if_pos rfl])
  refine ⟨hlt, hfree, hnew, fun k hk => ?_, fun m => ⟨fun hm => ?_, fun hm => (h.names_first hw ho hm o).2 rfl⟩⟩
  · obtain ⟨x, hx⟩ := (Table.has_iff ..).1 (hbelow k hk)
    exact Table.has_some (h.kept_of_free ho hx)
  · by_contra hmi
    by_cases hj : ∃ j ∈ l, m ∈ j
    · obtain ⟨j, hj, hmj⟩ := hj
      obtain ⟨-, hnot, -⟩ := h.made j hj m hmj o hm
      simp [at?_giveRecord_outages ho] at hnot
    · have hsame : Table.at? (giveRecord i s).segments m = Table.at? s.segments m := by
        rw [at?_giveRecord ho, if_neg hmi]
      rw [names_of_at? ((h.reassigns.others m fun j hj' hmj => hj ⟨j, hj', hmj⟩).trans hsame)] at hm
      obtain ⟨g, hg, hgo⟩ := hm
      simpa [Table.has, hfree] using hw.named m g o hg hgo

omit hw in
/-- The later islands take other slots that were free. -/
theorem Gives.newRecord_rest {j : List Nat} (hj : j ∈ l) {m k : Nat} (hm : m ∈ j) (hk : u.names m k) :
    k ≠ o ∧ newRecord s u j k := by
  obtain ⟨hlt, hnot, hnew, hlow, hmem⟩ := h.made j hj m hm k hk
  have hne : k ≠ o := by rintro rfl; simp [at?_giveRecord_outages ho] at hnot
  have hnow : newOutage (giveRecord i s) = newOutage s := by simp [newOutage, State.now]
  exact ⟨hne, hlt, by simpa [at?_giveRecord_outages ho, hne] using hnot, hnow ▸ hnew, hlow, hmem⟩

/-- The first island takes the lowest free slot. -/
theorem Gives.cons_free : Gives (i :: l) s u := by
  obtain ⟨-, hfree, hbelow⟩ := Table.lowestFree_some ho
  have hown := h.newRecord_first hw ho
  refine ⟨(giveRecord_reassigns (by simp) s).trans (h.reassigns.mono (by simp)), fun _ _ => h.kept_of_free ho,
    fun m => ?_,
    List.forall_mem_cons.2 ⟨fun n hn m hm => ?_, fun j hj n hn m hm => (h.newRecord_rest ho hj hn hm).2⟩,
    List.forall_mem_cons.2 ⟨fun n hn hnot => absurd ((h.names_first hw ho hn o).2 rfl) (hnot o), h.without⟩,
    List.pairwise_cons.2 ⟨fun j hj n hn m hm k hk => ⟨o, ?_, (h.names_first hw ho hn o).2 rfl⟩, h.order⟩⟩
  · have hboth := flagsIf_trans (flagsIf_giveRecord (i := i) ho m) (h.flags m)
    have hb : (decide (m = o) || (!Table.has (giveRecord i s).outages m && Table.has u.outages m)) =
        (!Table.has s.outages m && Table.has u.outages m) := by
      by_cases e : m = o
      · obtain ⟨-, -, hnew, -⟩ := hown
        simp [e, Table.has, hfree, hnew]
      · simp [e, Table.has, at?_giveRecord_outages ho]
    rwa [hb] at hboth
  · obtain rfl := (h.names_first hw ho hn m).1 hm
    exact hown
  · obtain ⟨hne, -, hnot, -⟩ := h.newRecord_rest ho hj hm hk
    by_contra hle
    have := hbelow k (by omega)
    simp [Table.has, hnot] at this

end
end

theorem foldl_giveRecord_gives {s : State} {l : List (List Nat)} (h : Waiting s l) :
    Gives l s (l.foldl (fun s i => giveRecord i s) s) := by
  induction l generalizing s with
  | nil => exact .nil s
  | cons i l ih =>
    have hrest := ih (giveRecord_waiting h)
    cases ho : Table.lowestFree s.outages Config.outageSlots with
    | none =>
      rw [List.foldl_cons, giveRecord_full ho] at *
      exact .cons_full h ho hrest
    | some o => exact .cons_free h ho hrest

end Sys2Proof.Machine
end

section
/-! SUPPORT. The outage records that a publication leaves, and the segments that name them (R72 to R77). -/

namespace Sys2Proof.Machine

/-- Of two elements of a list whose elements are related in their order, one is related to the other. -/
theorem eq_or_related_of_pairwise {α : Type} {R : α → α → Prop} {l : List α} (h : l.Pairwise R) {a b : α}
    (ha : a ∈ l) (hb : b ∈ l) : a = b ∨ R a b ∨ R b a :=
  List.Pairwise.forall_of_forall_of_flip (R := fun a b => a = b ∨ R a b ∨ R b a) (fun _ _ => .inl rfl)
    (h.imp fun hab => .inr (.inl hab)) (h.imp fun hab => .inr (.inr hab)) ha hb

section
variable (inp : PassInputs) (s : State)

/-- The state with the claims taken (R72, R73). -/
def claimed : State := assignClaims (lostIslands inp s) (traced inp s)

/-- The state with the new records given (R75), before every record is counted again. -/
def granted : State := (unclaimedIslands (lostIslands inp s) (traced inp s)).foldl (fun s i => giveRecord i s)
  (retireEmpty (claimed inp s))

theorem assigned_eq : assigned inp s = recountOutages (granted inp s) := rfl

@[simp] theorem claimed_frame : (claimed inp s).outages = s.outages ∧ (claimed inp s).clock = s.clock ∧
    (claimed inp s).notices = s.notices ∧ (claimed inp s).port = s.port := by
  simp [claimed, traced]

@[simp] theorem granted_clock : (granted inp s).clock = s.clock := by simp [granted]

theorem publish_names (n o : Nat) : (publish inp s).names n o ↔ (granted inp s).names n o :=
  names_congr (by simp [publish_segments, assigned_eq]) n o

theorem newOutage_retired : newOutage (retireEmpty (claimed inp s)) = newOutage s := by
  simp [newOutage, State.now]

end

section
variable {inp : PassInputs} {s : State} (hinp : inp.segments.Pairwise (· < ·)) (k : s.keysRise) (h : s.outagesLegal)
include hinp k h

/-! ## The islands with a record and those that wait for one -/

theorem retired_waiting : Waiting (retireEmpty (claimed inp s))
    (unclaimedIslands (lostIslands inp s) (traced inp s)) :=
  unclaimedIslands_waiting (traced_assigning hinp k h) (fun _ hi => (mem_writtenIslands hi).1) (lostIslands_apart hinp)

theorem granted_gives : Gives (unclaimedIslands (lostIslands inp s) (traced inp s)) (retireEmpty (claimed inp s))
    (granted inp s) := foldl_giveRecord_gives (retired_waiting hinp k h)

theorem granted_waiting : Waiting (granted inp s) [] := foldl_giveRecord_waiting (retired_waiting hinp k h)

theorem at?_publish_outages (o : Nat) : Table.at? (publish inp s).outages o =
    (Table.at? (granted inp s).outages o).map (recounted (granted inp s) o) := by
  rw [publish_outages, assigned_eq, at?_recountOutages (granted_waiting hinp k h).outages]

theorem has_publish_outages (o : Nat) :
    Table.has (publish inp s).outages o = Table.has (granted inp s).outages o := by
  simp [Table.has, at?_publish_outages hinp k h]

/-- The island of a segment that no record claims waits for one. -/
theorem homeless_iff {n : Nat} :
    homeless inp s n ↔ ∃ i ∈ unclaimedIslands (lostIslands inp s) (traced inp s), n ∈ i := by
  constructor
  · intro hn
    obtain ⟨i, hi, hni⟩ := mem_lostIslands_iff.2 hn.1
    exact ⟨i, mem_unclaimedIslands.2 ⟨hi, (claimant_none_iff hinp k h hi hni).2 hn⟩, hni⟩
  · rintro ⟨i, hi, hni⟩
    obtain ⟨hi, hnone⟩ := mem_unclaimedIslands.1 hi
    exact (claimant_none_iff hinp k h hi hni).1 hnone

theorem at?_granted_of_not_homeless {n : Nat} (hn : ¬ homeless inp s n) :
    Table.at? (granted inp s).segments n = Table.at? (claimed inp s).segments n := by
  have hothers := (granted_gives hinp k h).reassigns.others n fun i hi hni =>
    hn ((homeless_iff hinp k h).2 ⟨i, hi, hni⟩)
  simpa using hothers

omit k h in
/-- A segment without gas is in use and UNSUPPLIED after the pass. -/
theorem granted_in_use {n : Nat} (hn : losesGas inp s n) : ∃ g, Table.at? (granted inp s).segments n = some g ∧
    g.supply = .unsupplied := by
  obtain ⟨hw, hr⟩ := hn
  obtain ⟨g, hg⟩ := (Table.has_iff ..).1 hw.2.2
  obtain ⟨o, ho⟩ := at?_assigned_of_lost hinp hg (mem_writtenSegments.2 hw) hr
  exact ⟨{ publishedSegment false g with outage := o }, by simpa [assigned_eq] using ho, (publishedSegment_lost g).1⟩

/-- An island that records claim keeps the lowest of them (R73). -/
theorem granted_names_claimant {n o : Nat} (hn : losesGas inp s n) (ho : claimsHome inp s o n)
    (hle : ∀ j, claimsHome inp s j n → o ≤ j) : (granted inp s).names n o := by
  obtain ⟨i, hi, hni⟩ := mem_lostIslands_iff.2 hn
  obtain ⟨g, hg, -⟩ := granted_in_use hinp hn
  refine ⟨g, hg, ?_⟩
  rw [at?_granted_of_not_homeless hinp k h fun hnone => hnone.2 o ho] at hg
  rw [outage_assignClaims (lostIslands_apart hinp) hi hni hg]
  exact (claimant_some_iff hinp k h hi hni).2 ⟨ho, hle⟩

theorem exists_least_claim {n : Nat} (hn : losesGas inp s n) (hnot : ¬ homeless inp s n) :
    ∃ o, claimsHome inp s o n ∧ ∀ j, claimsHome inp s j n → o ≤ j := by
  obtain ⟨i, hi, hni⟩ := mem_lostIslands_iff.2 hn
  obtain ⟨o, ho⟩ := Option.ne_none_iff_exists'.1 (mt (claimant_none_iff hinp k h hi hni).1 hnot)
  exact ⟨o, (claimant_some_iff hinp k h hi hni).1 ho⟩

omit hinp k h in
/-- A record that claims the island of a segment claims it for every segment that chains join to that one. -/
theorem claimsHome_of_chained {n m : Nat} (hn : losesGas inp s n) (hc : Chained inp n m) {o : Nat} :
    claimsHome inp s o n ↔ claimsHome inp s o m := by
  have hback := hc.symm (unreached_of_losesGas hn)
  constructor <;> rintro ⟨x, hx, hle, hlost, hx'⟩
  · exact ⟨x, hx, hle, hlost, hback.trans hx'⟩
  · exact ⟨x, hx, hle, hlost, hc.trans hx'⟩

/-- The segments of an island name the same record, where one of them names any. -/
theorem granted_names_of_chained {n m o : Nat} (hn : losesGas inp s n) (hm : losesGas inp s m) (hc : Chained inp n m)
    (ho : (granted inp s).names n o) : (granted inp s).names m o := by
  by_cases hnone : homeless inp s n
  · obtain ⟨i, hi, hni⟩ := (homeless_iff hinp k h).1 hnone
    obtain ⟨-, -, -, -, hnames⟩ := (granted_gives hinp k h).made i hi n hni o ho
    exact (hnames m).2 ((mem_lostIsland (mem_unclaimedIslands.1 hi).1 hni).2 ⟨hm, hc⟩)
  · obtain ⟨c, hclaims, hle⟩ := exists_least_claim hinp k h hn hnone
    obtain ⟨g, hg, hgc⟩ := granted_names_claimant hinp k h hn hclaims hle
    obtain ⟨g', hg', hgo⟩ := ho
    obtain rfl : g = g' := by simpa [hg] using hg'
    obtain rfl : c = o := by simpa [hgc] using hgo
    exact granted_names_claimant hinp k h hm ((claimsHome_of_chained hn hc).1 hclaims)
      fun j hj => hle j ((claimsHome_of_chained hn hc).2 hj)

/-! ## The new records (R75) -/

/-- A new record, in `u`, of the island of segment `n`. -/
theorem granted_newRecord {n o : Nat} (hn : homeless inp s n) (ho : (granted inp s).names n o) :
    o < 128 ∧ Table.at? (retireEmpty (claimed inp s)).outages o = none ∧
      Table.at? (granted inp s).outages o = some (newOutage s) ∧
      (∀ j < o, Table.has (granted inp s).outages j = true) ∧
      ∀ m, (granted inp s).names m o → losesGas inp s m ∧ Chained inp n m := by
  obtain ⟨i, hi, hni⟩ := (homeless_iff hinp k h).1 hn
  obtain ⟨hlt, hfree, hnew, hlow, hnames⟩ := (granted_gives hinp k h).made i hi n hni o ho
  exact ⟨hlt, hfree, newOutage_retired inp s ▸ hnew, hlow,
    fun m hm => (mem_lostIsland (mem_unclaimedIslands.1 hi).1 hni).1 ((hnames m).1 hm)⟩

/-- An island waits in vain only where every slot is in use. -/
theorem granted_full {n : Nat} (hn : homeless inp s n) (hnone : ∀ o, ¬ (granted inp s).names n o) {o : Nat}
    (ho : o < 128) : Table.has (granted inp s).outages o = true := by
  obtain ⟨i, hi, hni⟩ := (homeless_iff hinp k h).1 hn
  exact (granted_gives hinp k h).without i hi n hni hnone o ho

/-- A record in a slot that was free is that of an island that no record claimed. -/
theorem homeless_of_new {o : Nat} (hfree : Table.has (retireEmpty (claimed inp s)).outages o = false)
    (ho : Table.has (granted inp s).outages o = true) : ∃ n, homeless inp s n ∧ (granted inp s).names n o := by
  obtain ⟨n, hn⟩ := (granted_waiting hinp k h).used o ho
  refine ⟨n, ?_, hn⟩
  by_contra hnot
  obtain ⟨g, hg, hgo⟩ := hn
  rw [at?_granted_of_not_homeless hinp k h hnot] at hg
  have := (retired_waiting hinp k h).named n g o (by simpa using hg) hgo
  simp [hfree] at this

/-- The new record of an island, as the publication leaves it (R71, R75). -/
theorem publish_newRecord {n o : Nat} (hn : homeless inp s n) (ho : (granted inp s).names n o) :
    ∃ r, Table.at? (publish inp s).outages o = some r ∧ r.state = .active ∧ r.start = s.clock.second ∧
      r.restoring = none := by
  obtain ⟨-, -, hnew, -⟩ := granted_newRecord hinp k h hn ho
  have hw := granted_waiting hinp k h
  obtain ⟨g, hg, hsup⟩ := granted_in_use hinp hn.1
  obtain ⟨-, -, -, -, -, hactive, -⟩ := recounted_legal hw.segments hw.sound ⟨n, ho⟩ (newOutage s)
  obtain ⟨hstart, hrestoring⟩ := recounted_seconds (granted inp s) o (newOutage s)
  have hgo : g.outage = some o := by
    obtain ⟨g', hg', hgo⟩ := ho
    obtain rfl : g = g' := by simpa [hg] using hg'
    exact hgo
  have hstate := hactive.2 ⟨(n, g), (mem_members hw.segments).2 ⟨hg, hgo⟩, hsup⟩
  refine ⟨_, by rw [at?_publish_outages hinp k h, hnew]; rfl, hstate, hstart, ?_⟩
  rw [hrestoring, if_pos hstate]
  rfl

/-! ## The order of the new records (R75) -/

omit hinp k h in
theorem lowestOfIsland_unique {n x a : Nat} (hx : lowestOfIsland inp n x) (ha : a ∈ unreached inp)
    (hle : ∀ y, Chained inp a y → a ≤ y) (hn : Chained inp a n) : x = a :=
  le_antisymm (hx.2 a (hn.symm ha)) (hle x (hn.trans hx.1))

omit k h in
/-- The islands stand in the order of their lowest segments (R67). -/
theorem lostIslands_ascending : (lostIslands inp s).Pairwise fun i j => ∀ n ∈ i, ∀ m ∈ j, ∀ x y,
    lowestOfIsland inp n x → lowestOfIsland inp m y → x < y := by
  have hu : (unreached inp).Pairwise (· < ·) := hinp.sublist List.filter_sublist
  refine List.Pairwise.sublist List.filter_sublist (List.pairwise_map.2 (List.pairwise_map.2 ?_))
  refine List.Pairwise.imp_of_mem (fun {a b} ha hb hlt n hn m hm x y hx hy => ?_) (hu.sublist List.filter_sublist)
  have hleast (c : Nat) (hc : c ∈ (unreached inp).filter
      (fun x => (islandOf inp (unreached inp) x).all (fun y => x ≤ y))) (n x : Nat)
      (hn : n ∈ (islandOf inp (unreached inp) c).filter (writtenSegments s inp).contains)
      (hx : lowestOfIsland inp n x) : x = c := by
    obtain ⟨hcu, hall⟩ := List.mem_filter.1 hc
    have hchain := (mem_islandOf hcu).1 (List.mem_of_mem_filter hn)
    exact lowestOfIsland_unique hx hcu
      (fun y hy => of_decide_eq_true (List.all_eq_true.1 hall y ((mem_islandOf hcu).2 hy))) hchain
  rwa [hleast a ha n x hn hx, hleast b hb m y hm hy]

/-- Of two islands that no record claims, that with the lower lowest segment has the lower record. -/
theorem granted_order {n m x y o : Nat} (hn : homeless inp s n) (hm : homeless inp s m)
    (hx : lowestOfIsland inp n x) (hy : lowestOfIsland inp m y) (hlt : x < y) (ho : (granted inp s).names m o) :
    ∃ j < o, (granted inp s).names n j := by
  obtain ⟨i, hi, hni⟩ := (homeless_iff hinp k h).1 hn
  obtain ⟨j, hj, hmj⟩ := (homeless_iff hinp k h).1 hm
  have hascending := (lostIslands_ascending hinp (s := s)).sublist
    (l₁ := unclaimedIslands (lostIslands inp s) (traced inp s)) List.filter_sublist
  have hboth := hascending.and (granted_gives hinp k h).order
  rcases eq_or_related_of_pairwise hboth hi hj with rfl | ⟨-, horder⟩ | ⟨hasc, -⟩
  · have hc : Chained inp n m := ((mem_lostIsland (mem_unclaimedIslands.1 hi).1 hni).1 hmj).2
    have hxy : x ≤ y := hx.2 y (hc.trans hy.1)
    have hyx : y ≤ x := hy.2 x ((hc.symm (unreached_of_losesGas hn.1)).trans hx.1)
    omega
  · exact horder n hni m hmj o ho
  · have hgt := hasc m hmj n hni y x hy hx
    omega

/-! ## The records that stay -/

theorem publish_keeps {n o : Nat} {r r' : Outage} (hr : Table.at? s.outages o = some r)
    (hr' : Table.at? (publish inp s).outages o = some r') (hno : (granted inp s).names n o) (hn : ¬ homeless inp s n) :
    r'.start = r.start ∧
      r'.restoring = (if r'.state = .active then r.restoring else some (r.restoring.getD s.clock.second)) := by
  obtain ⟨g, hg, hgo⟩ := hno
  rw [at?_granted_of_not_homeless hinp k h hn] at hg
  have hused : Table.has (retireEmpty (claimed inp s)).outages o = true :=
    (retired_waiting hinp k h).named n g o (by simpa using hg) hgo
  have hretired : Table.at? (retireEmpty (claimed inp s)).outages o = some r := by
    rw [at?_retireEmpty]
    split
    · rename_i hnone
      simp [Table.has, at?_retireEmpty, hnone] at hused
    · simpa using hr
  rw [at?_publish_outages hinp k h, (granted_gives hinp k h).kept o r hretired] at hr'
  obtain rfl : recounted (granted inp s) o r = r' := by simpa using hr'
  simpa using recounted_seconds (granted inp s) o r

end

end Sys2Proof.Machine
end

section
/-! SUPPORT. What a publication flags, raises and regrades (R78, R79), and O37. -/

namespace Sys2Proof.Machine

/-! ## The flags of the outage records (R78) -/

theorem flagsIf_foldl_retireOutage (l : List Nat) (m : Nat) (s : State) :
    flagsIf .outage m (decide (m ∈ l)) s (l.foldl (fun s n => retireOutage n s) s) := by
  induction l generalizing s with
  | nil => simpa using flagsIf_of_same rfl rfl
  | cons n l ih => simpa using flagsIf_trans (flagsIf_retireOutage n m s) (ih (retireOutage n s))

theorem flagsIf_retireEmpty (m : Nat) (s : State) :
    flagsIf .outage m (Table.has s.outages m && !Table.has (retireEmpty s).outages m) s (retireEmpty s) := by
  have hb : (Table.has s.outages m && !Table.has (retireEmpty s).outages m) =
      decide (m ∈ (Table.keys s.outages).filter (fun n => members s n = [])) := by
    rw [Bool.eq_iff_iff]
    by_cases hm : members s m = [] <;> simp [Table.mem_keys, Table.has, at?_retireEmpty, hm, Option.isSome_iff_ne_none]
  rw [hb]
  exact flagsIf_foldl_retireOutage _ m s

theorem retireEmpty_among (s : State) : indicatesAmong [] [.outage] s (retireEmpty s) :=
  .foldl (fun s n => retireOutage_among n s) _ s

section
variable (inp : PassInputs) (s : State)

theorem assigned_among : indicatesAmong [] [.outage] s (assigned inp s) := by
  have hclaimed : indicatesAmong [] [.outage] s (claimed inp s) := .of_same (by simp) (by simp)
  have hgiven (l : List (List Nat)) (t : State) :
      indicatesAmong [] [.outage] t (l.foldl (fun s i => giveRecord i s) t) :=
    .foldl (fun s i => giveRecord_among i s) l t
  exact ((hclaimed.trans (retireEmpty_among _)).trans (hgiven _ _)).trans (recountOutages_among _)

theorem told_among : indicatesAmong [.outage] [.segment] (assigned inp s) (told inp s) := by
  have hflags : indicatesAmong [.outage] [.segment] (assigned inp s)
      (flagAll .segment (changedSegments inp s) (assigned inp s)) :=
    ⟨_, _, (Indicates.refl _).flagAll .segment _, by simp, by simp⟩
  exact .ite (hflags.trans ((indicatesAmong_raise .outage _).mono (by simp) (by simp))) hflags

theorem publish_among_told : indicatesAmong [.incident] [.incident] (told inp s) (publish inp s) := by
  rw [publish_eq]
  have hend : indicatesAmong [.incident] [.incident] (told inp s)
      (endPass (unassignedSegments inp s).length (told inp s)) := .of_same (by simp) (by simp)
  exact hend.trans (.foldl (fun s n => regradeSegment_among n s) _ _)

/-- A publication retires the record of slot `o`, makes it, or counts it to be another (R78). -/
def touchesRecord (o : Nat) : Bool :=
  (Table.has s.outages o && !Table.has (retireEmpty (claimed inp s)).outages o) ||
    (!Table.has (retireEmpty (claimed inp s)).outages o && Table.has (granted inp s).outages o) ||
    miscounted (granted inp s) o

/-! ## The flags of the segments and the notice (R78) -/

theorem flagsIf_publish_segment (n : Nat) :
    flagsIf .segment n (decide (n ∈ changedSegments inp s)) s (publish inp s) := by
  have hall := (Indicates.refl (assigned inp s)).flagAll .segment (changedSegments inp s)
  have htold : flagsIf .segment n (decide (n ∈ changedSegments inp s)) (assigned inp s) (told inp s) := by
    unfold told
    split
    · simpa using (hall.raise .outage).flags .segment n
    · simpa using hall.flags .segment n
  have hbefore := (assigned_among inp s).other_flags (k := .segment) (by simp) n
  have hafter := (publish_among_told inp s).other_flags (k := .segment) (by simp) n
  simpa using flagsIf_trans (flagsIf_trans hbefore htold) hafter

theorem raisesIf_publish_outage : raisesIf .outage (tellsOutage inp s) s (publish inp s) := by
  have hall := (Indicates.refl (assigned inp s)).flagAll .segment (changedSegments inp s)
  have htold : raisesIf .outage (tellsOutage inp s) (assigned inp s) (told inp s) := by
    obtain ⟨⟨-, -, -, hraised⟩, -⟩ := hall.raise .outage
    obtain ⟨⟨-, -, -, hquiet⟩, -⟩ := hall
    unfold told
    cases tellsOutage inp s
    · simpa using hquiet .outage
    · simpa using hraised .outage
  have hbefore := (assigned_among inp s).other_raises (v := .outage) (by simp)
  have hafter := (publish_among_told inp s).other_raises (v := .outage) (by simp)
  simpa using raisesIf_trans (raisesIf_trans hbefore htold) hafter

end

section
variable {inp : PassInputs} {s : State} (hinp : inp.segments.Pairwise (· < ·)) (k : s.keysRise) (h : s.outagesLegal)
include hinp k h

/-- A publication flags the records that it touches. -/
theorem flagsIf_publish_outage (o : Nat) : flagsIf .outage o (touchesRecord inp s o) s (publish inp s) := by
  have hclaimed : flagsIf .outage o false s (claimed inp s) := flagsIf_of_same (by simp) (by simp)
  have hretired := flagsIf_retireEmpty o (claimed inp s)
  have hgranted := (granted_gives hinp k h).flags o
  have hcounted := flagsIf_recountOutages (granted_waiting hinp k h).outages o
  have htold := (told_among inp s).other_flags (k := .outage) (by simp) o
  have hafter := (publish_among_told inp s).other_flags (k := .outage) (by simp) o
  simpa [touchesRecord, assigned_eq] using flagsIf_trans (flagsIf_trans (flagsIf_trans (flagsIf_trans
    (flagsIf_trans hclaimed hretired) hgranted) hcounted) htold) hafter

theorem miscounted_granted_iff (o : Nat) : miscounted (granted inp s) o = true ↔
    Table.at? (publish inp s).outages o ≠ Table.at? (granted inp s).outages o := by
  rw [miscounted_iff (granted_waiting hinp k h).outages, publish_outages, assigned_eq]

/-- A record that is neither retired nor made stands in its slot until it is counted. -/
theorem at?_granted_outages {o : Nat} (hretired : Table.has s.outages o = true →
      Table.has (retireEmpty (claimed inp s)).outages o = true)
    (hnew : Table.has (granted inp s).outages o = true → Table.has (retireEmpty (claimed inp s)).outages o = true) :
    Table.at? (granted inp s).outages o = Table.at? s.outages o := by
  have hat : Table.has (retireEmpty (claimed inp s)).outages o = true →
      Table.at? (retireEmpty (claimed inp s)).outages o = Table.at? s.outages o := by
    rw [Table.has, at?_retireEmpty]
    split <;> simp
  by_cases hr : Table.has (retireEmpty (claimed inp s)).outages o = true
  · obtain ⟨x, hx⟩ := (Table.has_iff ..).1 hr
    rw [(granted_gives hinp k h).kept o x hx, ← hx, hat hr]
  · have hs := (Table.at?_none_iff ..).2 (Bool.not_eq_true _ ▸ mt hretired hr)
    have hg := (Table.at?_none_iff ..).2 (Bool.not_eq_true _ ▸ mt hnew hr)
    rw [hs, hg]

/-- A record that a publication changes is touched. -/
theorem touchesRecord_of_changed {o : Nat} (hne : Table.at? (publish inp s).outages o ≠ Table.at? s.outages o) :
    touchesRecord inp s o = true := by
  by_contra hnot
  simp only [touchesRecord, Bool.or_eq_true, Bool.and_eq_true, Bool.not_eq_true', not_or, not_and,
    Bool.not_eq_false] at hnot
  obtain ⟨⟨hretired, hnew⟩, hcounted⟩ := hnot
  refine hne ?_
  rw [← at?_granted_outages hinp k h hretired fun hg => by_contra fun hr => hnew (Bool.not_eq_true _ ▸ hr) hg]
  exact not_not.1 (mt (miscounted_granted_iff hinp k h o).2 hcounted)

/-- A record that a publication touches is changed, or is a new one. -/
theorem changed_of_touchesRecord {o : Nat} (ht : touchesRecord inp s o = true) :
    Table.at? (publish inp s).outages o ≠ Table.at? s.outages o ∨
      ∃ n, homeless inp s n ∧ (publish inp s).names n o := by
  by_contra hnot
  simp only [publish_names, not_or, not_not] at hnot
  obtain ⟨hsame, hold⟩ := hnot
  have hnew : Table.has (granted inp s).outages o = true →
      Table.has (retireEmpty (claimed inp s)).outages o = true := fun hg => by_contra fun hr =>
    hold (homeless_of_new hinp k h (Bool.not_eq_true _ ▸ hr) hg)
  have hused : Table.has (granted inp s).outages o = Table.has s.outages o := by
    rw [← has_publish_outages hinp k h, Table.has, hsame, Table.has]
  have hgranted := at?_granted_outages hinp k h (fun hs => hnew (hused ▸ hs)) hnew
  have hcounted := mt (miscounted_granted_iff hinp k h o).1 (not_not.2 (hsame.trans hgranted.symm))
  rw [touchesRecord, ← hused, Bool.eq_false_iff.2 hcounted] at ht
  revert hnew ht
  cases Table.has (granted inp s).outages o <;> simp

end

/-! ## The segments that a publication changes -/

section
variable {inp : PassInputs} {s : State} (hinp : inp.segments.Pairwise (· < ·)) {n : Nat}
include hinp

theorem at?_publish_of_unwritten (hw : n ∉ writtenSegments s inp) :
    Table.at? (publish inp s).segments n = Table.at? s.segments n := by
  rw [publish_segments, at?_assigned_of_unwritten hinp hw]

theorem at?_publish_none (hn : Table.at? s.segments n = none) : Table.at? (publish inp s).segments n = none := by
  rw [at?_publish_of_unwritten hinp, hn]
  simp [mem_writtenSegments, Table.has, hn]

/-- A publication writes the supply fields of a segment alone. -/
theorem publish_segment_eq {g g' : Segment} (hg : Table.at? s.segments n = some g)
    (hg' : Table.at? (publish inp s).segments n = some g') :
    g' = { g with supply := g'.supply, outage := g'.outage, relit := g'.relit } := by
  by_cases hw : n ∈ writtenSegments s inp
  · obtain ⟨x, hx, hfields, -⟩ := publish_writes hinp hg hw
    obtain rfl : x = g' := by simpa [hx] using hg'
    exact hfields
  · rw [at?_publish_of_unwritten hinp hw, hg] at hg'
    obtain rfl : g = g' := by simpa using hg'
    rfl

omit hinp in
/-- Two readings of a segment in use, before a publication and after it. -/
theorem changedSegment_iff {d : Segment → Segment → Bool} : changedSegment s (assigned inp s) d n = true ↔
    ∃ g g', Table.at? s.segments n = some g ∧ Table.at? (publish inp s).segments n = some g' ∧ d g g' = true := by
  rw [publish_segments]
  unfold changedSegment
  cases Table.at? s.segments n <;> cases Table.at? (assigned inp s).segments n <;> simp

theorem mem_changedSegments : n ∈ changedSegments inp s ↔
    Table.at? (publish inp s).segments n ≠ Table.at? s.segments n := by
  rw [changedSegments, List.mem_filter, changedSegment_iff]
  constructor
  · rintro ⟨-, g, g', hg, hg', hd⟩ e
    obtain rfl : g' = g := by simpa [hg, hg'] using e
    simp [supplyFieldsDiffer] at hd
  · intro hne
    have hw : n ∈ writtenSegments s inp := by_contra fun hw => hne (at?_publish_of_unwritten hinp hw)
    obtain ⟨-, -, hhas⟩ := mem_writtenSegments.1 hw
    obtain ⟨g, hg⟩ := (Table.has_iff ..).1 hhas
    obtain ⟨g', hg', hfields, -⟩ := publish_writes hinp hg hw
    refine ⟨hw, g, g', hg, hg', by_contra fun hd => hne ?_⟩
    simp only [supplyFieldsDiffer, Bool.or_eq_true, bne_iff_ne, ne_eq, not_or, not_not] at hd
    obtain ⟨⟨hsup, hout⟩, hrelit⟩ := hd
    rw [hg', hg, hfields, ← hsup, ← hout, ← hrelit]

theorem mem_movedSegments : n ∈ movedSegments inp s ↔ Table.test s.segments n (fun g =>
    decide (0 < g.openIncidents) && Table.test (publish inp s).segments n (fun g' => decide (g'.supply ≠ g.supply)))
      = true := by
  rw [movedSegments, List.mem_filter, Bool.and_eq_true, changedSegment_iff, ← publish_segments]
  constructor
  · rintro ⟨-, ⟨g, g', hg, hg', hd⟩, hopen⟩
    rw [Table.test_some hg', publish_segment_eq hinp hg hg'] at hopen
    have hopen' : 0 < g.openIncidents := by simpa using hopen
    simpa [Table.test_some hg, Table.test_some hg', ne_comm] using And.intro hopen' hd
  · intro htest
    cases hg : Table.at? s.segments n with
    | none => simp [Table.test, hg] at htest
    | some g =>
      cases hg' : Table.at? (publish inp s).segments n with
      | none => simp [Table.test, hg'] at htest
      | some g' =>
        simp only [Table.test_some hg, Table.test_some hg', Bool.and_eq_true, decide_eq_true_eq] at htest
        obtain ⟨hopen, hsup⟩ := htest
        refine ⟨by_contra fun hw => hsup ?_, ⟨g, g', rfl, rfl, by simpa using hsup.symm⟩, ?_⟩
        · rw [at?_publish_of_unwritten hinp hw, hg] at hg'
          rw [Option.some.inj hg']
        · rw [Table.test_some hg', publish_segment_eq hinp hg hg']
          simpa using hopen

end

/-! ## The notice and the counts of a publication (R75, R78, R79) -/

section
variable {inp : PassInputs} {s : State} (hinp : inp.segments.Pairwise (· < ·))
include hinp

theorem publish_segments_ne (k : s.keysRise) :
    (publish inp s).segments ≠ s.segments ↔ ∃ n, n ∈ changedSegments inp s := by
  have hrise := (publish_network inp s).keysRise k
  simp only [mem_changedSegments hinp]
  rw [← not_iff_not, not_not, not_exists]
  simp only [not_not]
  exact ⟨fun e n => by rw [e], Table.ext hrise.segments k.segments⟩

theorem tellsOutage_eq (k : s.keysRise) : tellsOutage inp s = decide ((publish inp s).segments ≠ s.segments ∨
    (publish inp s).outages ≠ s.outages ∨ 0 < (publish inp s).tracer.unassigned) := by
  have hchanged : (∃ n ∈ writtenSegments s inp, changedSegment s (assigned inp s) supplyFieldsDiffer n = true) ↔
      (publish inp s).segments ≠ s.segments := by
    rw [publish_segments_ne hinp k]
    simp [changedSegments]
  rw [Bool.eq_iff_iff, decide_eq_true_iff, ← hchanged, publish_tracer, publish_outages]
  simp [tellsOutage, or_assoc]

theorem publish_unassigned : (publish inp s).tracer.unassigned = (inp.segments.filter (fun n =>
    decide (n ∉ inp.freed) && Table.test (publish inp s).segments n
      (fun g => decide (g.supply = .unsupplied) && decide (g.outage = none)))).length := by
  rw [publish_tracer]
  dsimp only
  rw [unassignedSegments, ← publish_segments, writtenSegments, List.filter_filter]
  refine congrArg List.length (List.filter_congr fun n _ => ?_)
  cases hn : Table.at? s.segments n with
  | none => simp [Table.test, at?_publish_none hinp hn]
  | some g => simp [Table.has_some hn, Bool.and_comm]

end

/-! ## The regrades (R79) -/

section
variable {s : State} {l : List Nat}

theorem foldl_regradeSegment_grading (l : List Nat) (t : State) :
    SameGrading t (l.foldl (fun s n => regradeSegment n s) t) := ⟨by simp, by simp, by simp, by simp, by simp⟩

/-- Regrade requests for distinct segments regrade each incident of one of them once. -/
theorem at?_foldl_regradeSegment (hl : l.Nodup) (k : s.keysRise) (m : Nat) :
    Table.at? (l.foldl (fun s n => regradeSegment n s) s).incidents m =
      (Table.at? s.incidents m).map (fun i => if i.segment ∈ l then regraded s i else i) := by
  induction l generalizing s with
  | nil => simp
  | cons n l ih =>
    obtain ⟨hn, hl'⟩ := List.nodup_cons.1 hl
    have hstands : Stands s (regradeSegment n s) := regradeSegment_stands (.refl s)
    have hgrade : regraded (regradeSegment n s) = regraded s := regraded_congr (foldl_regradeSegment_grading [n] s)
    rw [List.foldl_cons, ih hl' ((hstands.sameNetwork k).keysRise k), at?_regradeSegment n s k.incidents,
      Option.map_map, hgrade]
    refine congrArg (Option.map · _) (funext fun i => ?_)
    have hseg : (regraded s i).segment = i.segment := rfl
    by_cases e : i.segment = n
    · simp [e, hseg, hn]
    · simp [e]

end

theorem at?_publish_incidents {inp : PassInputs} {s : State} (hinp : inp.segments.Pairwise (· < ·)) (k : s.keysRise)
    (m : Nat) : Table.at? (publish inp s).incidents m = (Table.at? s.incidents m).map (fun i =>
      if i.segment ∈ movedSegments inp s then regraded (publish inp s) i else i) := by
  have hmoved : (movedSegments inp s).Nodup := (nodup_writtenSegments hinp).sublist List.filter_sublist
  have hafter := (publish_network inp s).keysRise k
  have hrise : (endPass (unassignedSegments inp s).length (told inp s)).keysRise :=
    ⟨by simpa [publish_segments] using hafter.segments, by simpa using k.valves,
      by simpa using k.points, by simpa using k.incidents, by simpa [publish_outages] using hafter.outages⟩
  rw [publish_eq, at?_foldl_regradeSegment hmoved hrise, regraded_congr (foldl_regradeSegment_grading _ _)]
  simp

/-! ## The publication of a pass (O37) -/

section
variable {inp : PassInputs} {s : State} (hinp : inp.segments.Pairwise (· < ·)) (k : s.keysRise) (h : s.outagesLegal)
include hinp

/-- A segment without gas is in use after the publication. -/
theorem publish_in_use {n : Nat} (hn : losesGas inp s n) : ∃ g, Table.at? (publish inp s).segments n = some g := by
  obtain ⟨g, hg, -⟩ := granted_in_use hinp hn
  exact ⟨g, by simpa [publish_segments, assigned_eq] using hg⟩

include k h

/-- The segments of an island name the same record, or none. -/
theorem publish_outage_of_chained {n m : Nat} (hn : losesGas inp s n) (hm : losesGas inp s m) (hc : Chained inp n m)
    {g g' : Segment} (hg : Table.at? (publish inp s).segments n = some g)
    (hg' : Table.at? (publish inp s).segments m = some g') : g.outage = g'.outage := by
  have hnames {x o : Nat} {a : Segment} (ha : Table.at? (publish inp s).segments x = some a) :
      a.outage = some o ↔ (granted inp s).names x o := by
    rw [← publish_names, State.names, ha]
    simp
  refine Option.ext fun o => ?_
  rw [hnames hg, hnames hg']
  exact ⟨granted_names_of_chained hinp k h hn hm hc,
    granted_names_of_chained hinp k h hm hn (hc.symm (unreached_of_losesGas hn))⟩

/-- An island that no record claims is given the lowest free slot, or none is free (R75). -/
theorem publish_gives {n : Nat} (hn : homeless inp s n) :
    ((∃ g, Table.at? (publish inp s).segments n = some g ∧ g.outage = none) ∧
      ∀ o < 128, Table.has (publish inp s).outages o = true) ∨
    ∃ o r, (publish inp s).names n o ∧ Table.at? (publish inp s).outages o = some r ∧ r.state = .active ∧
      r.start = s.clock.second ∧ r.restoring = none ∧ flagsIf .outage o true s (publish inp s) ∧
      (∀ j < o, Table.has (publish inp s).outages j = true) ∧
      ∀ m, (publish inp s).names m o → losesGas inp s m ∧ Chained inp n m := by
  simp only [publish_names, has_publish_outages hinp k h]
  by_cases hany : ∃ o, (granted inp s).names n o
  · obtain ⟨o, ho⟩ := hany
    obtain ⟨r, hr, hactive, hstart, hrestoring⟩ := publish_newRecord hinp k h hn ho
    obtain ⟨-, hfree, hnew, hlow, hmem⟩ := granted_newRecord hinp k h hn ho
    have htouched : touchesRecord inp s o = true := by simp [touchesRecord, Table.has, hfree, hnew]
    exact .inr ⟨o, r, ho, hr, hactive, hstart, hrestoring, htouched ▸ flagsIf_publish_outage hinp k h o, hlow, hmem⟩
  · obtain ⟨g, hg⟩ := publish_in_use hinp hn.1
    refine .inl ⟨⟨g, hg, Option.eq_none_iff_forall_ne_some.2 fun o hgo => hany ⟨o, ?_⟩⟩, fun o ho =>
      granted_full hinp k h hn (not_exists.1 hany) ho⟩
    exact (publish_names inp s n o).1 ⟨g, hg, hgo⟩

end

/-- Settles O37: the claims, the new records and the counting in turn, and what the changes flag, raise and regrade. -/
theorem publicationAssignsOutages : Obligations.PublicationAssignsOutages := by
  unfold Obligations.PublicationAssignsOutages
  intro s inp hheld htables htracer h hrun written lost left claims unclaimed lowest
  have k := htables.keysRise
  obtain ⟨-, -, -, -, hpass⟩ := htracer
  have hinp := hpass inp hrun
  have hexec : exec .publication s = .next (publication s) := unheld_partStep hheld publication
  rw [publication_running hrun] at hexec
  refine ⟨publish inp s, hexec, ?_⟩
  intro names
  have hnames (n o : Nat) : names n (some o) ↔ (granted inp s).names n o := publish_names inp s n o
  have hlegal := publish_legal hinp k h
  obtain ⟨-, hnamed, hrecords⟩ := outagesLegal_iff.1 hlegal
  have hrise := (publish_network inp s).keysRise k
  refine ⟨fun n o hn ho hle => (hnames n o).2 (granted_names_claimant hinp k h hn ho hle),
    fun n m hn hm hc o hno => ?_, fun n hn => publish_gives hinp k h hn,
    fun n m x y o hn hm hx hy hlt ho => ?_, fun o => ⟨fun ho => ?_, ?_⟩, hrecords,
    fun o r r' n hr hr' hno hn => publish_keeps hinp k h hr hr' ((hnames n o).1 hno) hn, publish_unassigned hinp, ?_,
    fun n => ?_, fun o => ⟨fun hne => ?_, fun hf => ?_⟩, ?_, fun m => ?_⟩
  · obtain ⟨g, hg, rfl⟩ := hno
    obtain ⟨g', hg'⟩ := publish_in_use hinp hm
    exact ⟨g', hg', (publish_outage_of_chained hinp k h hn hm hc hg hg').symm⟩
  · obtain ⟨j, hj, hno⟩ := granted_order hinp k h hn hm hx hy hlt ((hnames m o).1 ho)
    exact ⟨j, hj, (hnames n j).2 hno⟩
  · obtain ⟨r, hr⟩ := (Table.has_iff ..).1 ho
    obtain ⟨hne, -⟩ := hrecords o r hr
    exact (members_ne_nil hrise.segments).1 hne
  · rintro ⟨n, g, hg, hgo⟩
    exact hnamed n g o hg hgo
  · rw [publish_tracer]
  · have hb : decide (Table.at? (publish inp s).segments n ≠ Table.at? s.segments n) =
        decide (n ∈ changedSegments inp s) := decide_eq_decide.2 (mem_changedSegments hinp).symm
    rw [hb]
    exact flagsIf_publish_segment inp s n
  · rw [← touchesRecord_of_changed hinp k h hne]
    exact flagsIf_publish_outage hinp k h o
  · obtain ⟨hflagged, -⟩ := flagsIf_publish_outage hinp k h o
    rw [hflagged, Bool.or_eq_true] at hf
    exact hf.imp_right (changed_of_touchesRecord hinp k h)
  · rw [← tellsOutage_eq hinp k]
    exact raisesIf_publish_outage inp s
  · rw [at?_publish_incidents hinp k]
    refine congrArg (Option.map · _) (funext fun i => ?_)
    simp only [mem_movedSegments hinp]

end Sys2Proof.Machine
end

section
/-! SUPPORT. A request that is refused (00 §1.6, R94, R189): what each of the 52 answers leaves of the state where it is not
DONE, and O3. -/

namespace Sys2Proof.Machine

/-! ## An answer other than DONE -/

/-- Where the answer is not DONE it carries no CLAMPED, and the state is the one that the request found. -/
def refusesCleanly (s : State) (out : State × Reply) : Prop :=
  out.2.result ≠ .done → out.2.clamped = false ∧ out.1 = s

section
variable {s u : State} {l : List (Bool × Result)} {f : State → State × Reply} {r : Reply}

theorem refusesCleanly.of_done (h : r.result = .done) : refusesCleanly s (u, r) := fun hne => absurd h hne

theorem refusesCleanly.of_same (h : r.clamped = false) : refusesCleanly s (s, r) := fun _ => ⟨h, rfl⟩

theorem refuse_refusesCleanly (x : Result) : refusesCleanly s (refuse x s) := .of_same rfl

/-- The failed tests refuse cleanly, so the action on the tests passed is what counts. -/
theorem tested_refusesCleanly (hf : refusesCleanly s (f s)) : refusesCleanly s (tested l f s) := by
  unfold tested
  split
  · exact refuse_refusesCleanly _
  · exact hf

end

/-! ## The requests -/

section
variable (h : Header) (s : State)

theorem openModel_refusesCleanly : refusesCleanly s (openModel h s) := by
  refine tested_refusesCleanly ?_
  split
  · exact .of_same rfl
  · exact .of_done rfl

theorem splitSegment_refusesCleanly (n : Nat) (vs ps : List Nat) (customers : Nat) :
    refusesCleanly s (splitSegment h n vs ps customers s) := by
  refine tested_refusesCleanly ?_
  split
  · exact .of_done rfl
  · exact refuse_refusesCleanly _

theorem mergeAtStop_refusesCleanly (v : Nat) : refusesCleanly s (mergeAtStop h v s) := by
  refine tested_refusesCleanly ?_
  split
  · refine tested_refusesCleanly ?_
    split
    · exact .of_done rfl
    · exact refuse_refusesCleanly _
  · exact refuse_refusesCleanly _

theorem readSegment_refusesCleanly (n : Nat) : refusesCleanly s (readSegment n s) := by
  refine tested_refusesCleanly ?_
  split <;> exact .of_same rfl

theorem readValve_refusesCleanly (n : Nat) : refusesCleanly s (readValve n s) := by
  refine tested_refusesCleanly ?_
  split <;> exact .of_same rfl

theorem alterPoint_refusesCleanly (n : Nat) (z g group k hyst stale : Option Nat) :
    refusesCleanly s (alterPoint h n z g group k hyst stale s) := by
  unfold alterPoint
  split
  · exact tested_refusesCleanly (.of_done rfl)
  · exact tested_refusesCleanly (.of_done rfl)

theorem readOutage_refusesCleanly (n start : Nat) : refusesCleanly s (readOutage n start s) := by
  refine tested_refusesCleanly ?_
  split <;> exact .of_same rfl

theorem reportRelit_refusesCleanly (n count : Nat) : refusesCleanly s (reportRelit h n count s) := by
  refine tested_refusesCleanly ?_
  split
  · exact refuse_refusesCleanly _
  · exact .of_done rfl

theorem reportCall_refusesCleanly (ref seg : Nat) (indoor damage newInc : Bool) (mergeInto : Option Nat) :
    refusesCleanly s (reportCall h ref seg indoor damage newInc mergeInto s) := by
  refine tested_refusesCleanly ?_
  dsimp only
  split
  · exact .of_done rfl
  · split
    · exact refuse_refusesCleanly _
    · exact .of_done rfl

theorem closeIncident_refusesCleanly (n : Nat) : refusesCleanly s (closeIncident h n s) := by
  refine tested_refusesCleanly ?_
  split
  · exact refuse_refusesCleanly _
  · exact .of_done rfl

theorem offerNext_refusesCleanly (v m : Nat) : refusesCleanly s (offerNext h v m s) := by
  refine tested_refusesCleanly ?_
  dsimp only
  split <;> exact .of_done rfl

theorem createPlan_refusesCleanly (i t : Option Nat) (m : Nat) (w a k : Option Nat) :
    refusesCleanly s (createPlan h i t m w a k s) := by
  refine tested_refusesCleanly ?_
  split
  · exact .of_done rfl
  · exact refuse_refusesCleanly _

theorem deletePlan_refusesCleanly (p : Nat) : refusesCleanly s (deletePlan h p s) := by
  refine tested_refusesCleanly ?_
  split
  · exact refuse_refusesCleanly _
  · exact .of_done rfl

theorem readPlan_refusesCleanly (p : Nat) : refusesCleanly s (readPlan p s) := by
  refine tested_refusesCleanly ?_
  split <;> exact .of_same rfl

theorem fetchOrder_refusesCleanly : refusesCleanly s (fetchOrder h s) := by
  refine tested_refusesCleanly ?_
  split <;> exact .of_done rfl

theorem withdrawOrder_refusesCleanly (n : Nat) : refusesCleanly s (withdrawOrder h n s) := by
  refine tested_refusesCleanly ?_
  split
  · exact refuse_refusesCleanly _
  · exact .of_done rfl

/-- READ INCIDENT notes what its answer clears before it looks for the record (R94). -/
theorem readIncident_refuses (n : Nat) (hr : (readIncident n s).2.result ≠ .done) :
    (readIncident n s).2.clamped = false ∧ ((readIncident n s).1 = s ∨ (readIncident n s).2.result = .noRecord ∧
      (readIncident n s).1 = clearOnPlace (fun p => { p with incidentFull := true }) s) := by
  unfold readIncident tested at hr ⊢
  split
  · exact ⟨rfl, .inl rfl⟩
  · rename_i hnone
    rw [hnone] at hr
    cases hi : Table.at? s.incidents n with
    | none => simp [hi, Reply.refusalWith]
    | some i => simp [hi, Reply.done] at hr

end

/-- Every request but READ INCIDENT refuses cleanly. -/
theorem exec_refusesCleanly {c : Instr} {h : Header} (hc : requestHeader c = some h)
    (hread : ∀ n, c ≠ .readIncident h n) : ∃ owed act,
      (∀ s, exec c s = request c h owed act s) ∧ ∀ s, refusesCleanly s (act s) := by
  cases c with
  | readIncident h' n =>
    obtain rfl : h' = h := Option.some.inj hc
    exact absurd rfl (hread n)
  | openModel => cases hc; exact ⟨_, _, fun _ => rfl, fun s => openModel_refusesCleanly h s⟩
  | splitSegment _ n vs ps c => cases hc; exact ⟨_, _, fun _ => rfl, fun s => splitSegment_refusesCleanly h s n vs ps c⟩
  | mergeAtStop _ v => cases hc; exact ⟨_, _, fun _ => rfl, fun s => mergeAtStop_refusesCleanly h s v⟩
  | readSegment _ n => cases hc; exact ⟨_, _, fun _ => rfl, fun s => readSegment_refusesCleanly s n⟩
  | readValve _ n => cases hc; exact ⟨_, _, fun _ => rfl, fun s => readValve_refusesCleanly s n⟩
  | alterPoint _ n z g group k hyst stale =>
    cases hc; exact ⟨_, _, fun _ => rfl, fun s => alterPoint_refusesCleanly h s n z g group k hyst stale⟩
  | readOutage _ n start => cases hc; exact ⟨_, _, fun _ => rfl, fun s => readOutage_refusesCleanly s n start⟩
  | reportRelit _ n count => cases hc; exact ⟨_, _, fun _ => rfl, fun s => reportRelit_refusesCleanly h s n count⟩
  | reportCall _ ref seg indoor damage new merge =>
    cases hc; exact ⟨_, _, fun _ => rfl, fun s => reportCall_refusesCleanly h s ref seg indoor damage new merge⟩
  | closeIncident _ n => cases hc; exact ⟨_, _, fun _ => rfl, fun s => closeIncident_refusesCleanly h s n⟩
  | offerNext _ v m => cases hc; exact ⟨_, _, fun _ => rfl, fun s => offerNext_refusesCleanly h s v m⟩
  | createPlan _ i t m w a k => cases hc; exact ⟨_, _, fun _ => rfl, fun s => createPlan_refusesCleanly h s i t m w a k⟩
  | deletePlan _ p => cases hc; exact ⟨_, _, fun _ => rfl, fun s => deletePlan_refusesCleanly h s p⟩
  | readPlan _ p => cases hc; exact ⟨_, _, fun _ => rfl, fun s => readPlan_refusesCleanly s p⟩
  | fetchOrder => cases hc; exact ⟨_, _, fun _ => rfl, fun s => fetchOrder_refusesCleanly h s⟩
  | withdrawOrder _ n => cases hc; exact ⟨_, _, fun _ => rfl, fun s => withdrawOrder_refusesCleanly h s n⟩
  -- These answer DONE whatever they find.
  | readStrays | readTrace | getNotices | peekNotices => cases hc; exact ⟨_, _, fun _ => rfl, fun _ => .of_done rfl⟩
  -- And these once their tests are passed.
  | defineSegment | defineValve | alterSegment | linkReset | definePoint | setProfile | regrade | setAllowances |
    declareControlled | acceptOffer | declineOffer | dispatchDirect | reportAttended | setOfferTime | lockDraft |
    addValve | removeValve | commitDraft | unlockDraft | releasePlan | reportValve | reissueValve | declareInoperable |
    restoreOperable | setOrderTimes | readOrders | setClock | setDayClass | setNoticeEnables | listChanged | setDeskArea =>
    cases hc; exact ⟨_, _, fun _ => rfl, fun _ => tested_refusesCleanly (.of_done rfl)⟩
  | malformedRequestFrame | requestDiscarded | answerPlaced | readTransaction | telemetryByte | readingItem | holdItem |
    positionItem | linkUpItem | linkDownItem | badItem | publication | secondEvent | pointStale | incidentOverdue |
    offerExpiry | orderTimeout | windowEnd | coldReset => cases hc

/-! ## The reply that is to be placed -/

/-- A request taken at once answers with what its action answers, or BAD FIELD where no frame spells it (log 7). -/
theorem request_answers {c : Instr} {h : Header} {owed : List TimedWork} {act : State → State × Reply} {s t : State}
    (hs : s.ready) (ht : request c h owed act s = .next t) :
    t = acting h.tag (.refusal .badField) s ∨ t = acting h.tag (act s).2 (act s).1 := by
  cases hw : wellFormed c with
  | true => exact .inr (Host.Outcome.next.inj ((request_ready hs hw h owed act).symm.trans ht)).symm
  | false =>
    obtain ⟨⟨hidle, hheld, hskip⟩, -⟩ := hs
    obtain rfl := Host.Outcome.next.inj ht
    exact .inl (by simp [frameTest, hw, atPort, hidle, hheld, hskip])

theorem replying_acting {tag tag' : Nat} {r r' : Reply} {s : State} (h : (acting tag' r' s).replying tag r) :
    tag = tag' ∧ r = r' := by
  obtain ⟨h1, h2⟩ := PortState.acting.inj (show PortState.acting tag' r' = .acting tag r from h)
  exact ⟨h1.symm, h2.symm⟩

/-- Settles O3: each request refuses without a change, and READ INCIDENT with the note of R94 alone. -/
theorem refusedRequestChangesNothing : Obligations.RefusedRequestChangesNothing := by
  unfold Obligations.RefusedRequestChangesNothing
  intro c h s t tag r hc hs hexec hreply hr
  by_cases hread : ∃ n, c = .readIncident h n
  · obtain ⟨n, rfl⟩ := hread
    rcases request_answers hs hexec with rfl | rfl <;> obtain ⟨rfl, rfl⟩ := replying_acting hreply
    · exact ⟨rfl, rfl, .inl rfl⟩
    · obtain ⟨hclamped, hsame | ⟨hnone, hnoted⟩⟩ := readIncident_refuses s n hr
      · exact ⟨rfl, hclamped, .inl (by rw [hsame])⟩
      · exact ⟨rfl, hclamped, .inr ⟨n, rfl, hnone, by rw [hnoted]⟩⟩
  · obtain ⟨owed, act, hact, hclean⟩ := exec_refusesCleanly hc fun n hn => hread ⟨n, hn⟩
    rcases request_answers hs ((hact s).symm.trans hexec) with rfl | rfl <;> obtain ⟨rfl, rfl⟩ := replying_acting hreply
    · exact ⟨rfl, rfl, .inl rfl⟩
    · obtain ⟨hclamped, hsame⟩ := hclean s hr
      exact ⟨rfl, hclamped, .inl (by rw [hsame])⟩

end Sys2Proof.Machine
end

section
/-! SUPPORT. The open incident count taken again and the closing of an incident (R87, R104, R105), and O41. -/

namespace Sys2Proof.Machine

/-! ## The open incident count -/

theorem at?_recountIncidents (m k : Nat) (s : State) : Table.at? (recountIncidents m s).segments k =
    (Table.at? s.segments k).map (fun g => if k = m
      then { g with openIncidents := min 255 (openIncidents s m).length } else g) := by
  by_cases hk : k = m
  · subst hk
    unfold recountIncidents
    dsimp only
    cases hg : Table.at? s.segments k with
    | none => simp [Table.test, hg]
    | some g =>
      by_cases hsame : g.openIncidents = min 255 (openIncidents s k).length
      · rw [← hsame]
        simp [Table.test, hg]
      · simp [Table.test, hg, hsame, Table.at?_upd]
  · rw [recountIncidents_at?_ne hk]
    simp [hk]

/-! ## The links that a closing ends (R105 steps 1 and 2) -/

section
variable (s : State)

theorem at?_unlinkPlan (a : Option Nat) (p : Nat) : Table.at? (unlinkPlan a s).plans p =
    (Table.at? s.plans p).map (fun q => if a = some p then { q with incident := none } else q) := by
  cases a with
  | none => simp [unlinkPlan]
  | some b =>
    simp only [unlinkPlan, markPlan_frame, updPlan_frame, Table.at?_upd, Option.some.injEq, eq_comm (a := b)]
    split <;> simp [*]

theorem unlinkPlan_among (a : Option Nat) : indicatesAmong [.plan] [.plan] s (unlinkPlan a s) := by
  cases a with
  | none => exact .refl s
  | some b => exact (indicatesAmong_mark .plan b .plan _).after (by simp) (by simp)

theorem unlinkPlan_raises {a : Option Nat} (ha : a ≠ none) : raisesIf .plan true s (unlinkPlan a s) := by
  obtain ⟨b, rfl⟩ := Option.ne_none_iff_exists'.1 ha
  have hsame : indicatesAmong [] [] s (s.updPlan b (fun q => { q with incident := none })) := .of_same (by simp) (by simp)
  exact (hsame.mark .plan b .plan).2

theorem at?_unlinkOffer (i : Incident) (d : Nat) : Table.at? (unlinkOffer i s).dispatch.offers d =
    if i.attendance = .offered ∧ i.offerDesk = some d then none else Table.at? s.dispatch.offers d := by
  unfold unlinkOffer
  split
  · rename_i e ha hd
    simp [clearOffer, Table.at?_del, ha, hd, eq_comm]
  · rename_i hnot
    rw [if_neg]
    rintro ⟨ha, hd⟩
    exact hnot d ha hd

end

/-! ## CLOSE INCIDENT -/

section
variable (n : Nat) (i : Incident) (s : State)

/-- The state with the slot freed and its links ended, before the count is taken again. -/
def unlinked : State :=
  (unlinkOffer i (unlinkPlan i.plan s)).setIncidents (Table.del s.incidents n)

theorem retireIncident_eq : retireIncident n i s = markIncident n (recountIncidents i.segment (unlinked n i s)) := by
  simp [retireIncident, unlinked]

theorem changesOnly_retireIncident :
    changesOnly [.incidents, .segments, .plans, .dispatch, .notices, .onPlace] s (retireIncident n i s) := by
  intro p hp
  cases p with
  | incidents | segments | plans | dispatch | notices | onPlace => simp at hp
  | port => exact same_port (by simp)
  | _ => simp [State.same]

/-- Before its own mark a closing raises PLAN, and flags no incident. -/
theorem retireIncident_among : indicatesAmong [.plan] [.plan, .segment] s (recountIncidents i.segment (unlinked n i s)) := by
  have hunlinked : indicatesAmong [.plan] [.plan] s (unlinked n i s) :=
    (unlinkPlan_among s i.plan).trans (.of_same (by simp [unlinked]) (by simp [unlinked]))
  exact (hunlinked.mono (by simp) (by simp)).trans ((recountIncidents_among i.segment _).mono (by simp) (by simp))

theorem retireIncident_raises_plan (hplan : i.plan ≠ none) : raisesIf .plan true s (retireIncident n i s) := by
  have hafter : indicatesAmong [.incident] [.segment, .incident] (unlinkPlan i.plan s) (retireIncident n i s) := by
    rw [retireIncident_eq]
    have hcount : indicatesAmong [.incident] [.segment, .incident] (unlinked n i s) _ :=
      (recountIncidents_among i.segment _).mono (by simp) (by simp)
    exact (hcount.trans ((indicatesAmong_mark .incident n .incident _).mono (by simp) (by simp))).after
      (by simp [unlinked]) (by simp [unlinked])
  exact hafter.keeps_raise (unlinkPlan_raises s hplan)

variable {n i s}

/-- An admitted CLOSE INCIDENT passes the tests of R104. -/
theorem closeIncident_admitted {h : Header} (hm : s.model = .running) (hn : n < 512)
    (hi : Table.at? s.incidents n = some i) (hw : inWindow s h.desk i.segment = true)
    (hidle : ∀ p, i.plan = some p → ∃ q, Table.at? s.plans p = some q ∧ q.activeState = .idle) :
    ∃ r, closeIncident h n s = (retireIncident n i s, r) ∧ r.result = .done := by
  have hplan : planIdle s i = true := by
    unfold planIdle
    cases hp : i.plan with
    | none => rfl
    | some p =>
      obtain ⟨q, hq, hstate⟩ := hidle p hp
      simp [Table.test_some hq, hstate]
  unfold closeIncident
  rw [tested_passed]
  · simp only [hi]
    exact ⟨_, rfl, rfl⟩
  · simp [incidentTests, running_iff.2 hm, hn, Table.has_some hi, Table.test_some hi, hw, hplan, Config.incidentSlots]

end

/-- Settles O41: by the steps of R105. -/
theorem closeIncidentRetires : Obligations.CloseIncidentRetires := by
  unfold Obligations.CloseIncidentRetires
  intro h n s i hready hwell hm hn hi hw hidle
  obtain ⟨r, hclose, hdone⟩ := closeIncident_admitted hm hn hi hw hidle
  have hexec : exec (.closeIncident h n) s = _ := request_ready hready hwell h [.overdue, .expiry] (closeIncident h n)
  rw [hclose] at hexec
  have hamong := retireIncident_among n i s
  have hmark := hamong.mark .incident n .incident
  refine ⟨r, retireIncident n i s, hexec, hdone, changesOnly_retireIncident n i s, fun m => ?_, fun p => ?_, ?_,
    fun d => ?_, fun m => ?_, ?_, fun m hne => ?_, ?_, retireIncident_raises_plan n i s⟩
  · simp [retireIncident_eq, unlinked, Table.at?_del]
  · simp [retireIncident_eq, unlinked, at?_unlinkPlan]
  · simp [retireIncident_eq, unlinked]
  · simp [retireIncident_eq, unlinked, at?_unlinkOffer]
  · have hcount : openIncidents (retireIncident n i s) i.segment = openIncidents (unlinked n i s) i.segment := by
      simp [retireIncident_eq, openIncidents]
    rw [hcount]
    simp [retireIncident_eq, at?_recountIncidents, unlinked]
  · rw [retireIncident_eq]; exact hmark.1
  · rw [retireIncident_eq, markIncident]
    have hother := flagsIf_trans (hamong.other_flags (k := .incident) (by simp) m)
      (((Indicates.refl _).mark .incident n .incident).flags .incident m)
    simpa [hne] using hother
  · rw [retireIncident_eq]; exact hmark.2

end Sys2Proof.Machine
end

section
/-! SUPPORT. What a regrade and a change of safety indicate, the score with its factors spelled out (R95), and O40. -/

namespace Sys2Proof.Machine

/-! ## What a change of one incident indicates -/

section
variable {n : Nat} {s : State} {i : Incident}

/-- A regrade flags the incident and raises INCIDENT exactly where it changes the record (R98). -/
theorem regradeIncident_indicates (hi : Table.at? s.incidents n = some i) :
    Indicates (if regraded s i = i then [] else [.incident]) (if regraded s i = i then [] else [(.incident, n)]) s
      (regradeIncident n s) := by
  unfold regradeIncident
  simp only [hi]
  split
  · exact .refl s
  · exact (Indicates.of_same (by simp) (by simp)).mark .incident n .incident

theorem setSafety_indicates (hi : Table.at? s.incidents n = some i) (f : Safety → Safety) :
    Indicates (if { i with safety := f i.safety } = i then [] else [.incident])
      (if { i with safety := f i.safety } = i then [] else [(.incident, n)]) s (setSafety n f s) := by
  have hsame : { i with safety := f i.safety } = i ↔ f i.safety = i.safety :=
    ⟨fun h => congrArg Incident.safety h, fun h => by rw [h]⟩
  unfold setSafety
  simp only [hi, hsame]
  split
  · exact .refl s
  · exact (Indicates.of_same (by simp) (by simp)).mark .incident n .incident

end

theorem setSafety_changes (n : Nat) (f : Safety → Safety) (s : State) :
    changesOnly [.incidents, .notices, .onPlace] s (setSafety n f s) := by
  intro p hp
  cases p with
  | incidents | notices | onPlace => simp at hp
  | port => exact same_port (by simp)
  | _ => simp [State.same]

/-! ## The score (R95, R96) -/

/-- The score is the sum of the factors, taken at the nearest of 0 and 255. -/
theorem score_eq {s : State} {i : Incident} {g : Segment} (hg : Table.at? s.segments i.segment = some g) :
    let base : Int := match g.tier with
      | .lp => 10
      | .mp => 30
      | .ip => 50
    let sum : Int := base + 12 * min i.callCount 5 + (if i.indoor then 40 else 0) +
      (if g.supply = .supplied ∧ hasBand s g [.low, .lowLow] = true then 25 else 0) +
      (if i.kind = .pressure ∧ hasBand s g [.lowLow, .highHigh] = true then 50 else 0) +
      (if (i.plan.any (fun p => Table.test s.plans p (fun q => q.verdict = .passing))) = true then 40 else 0) +
      (if i.damage then 20 else 0) + i.adjustment
    score s i = if sum < 0 then 0 else if 255 < sum then 255 else sum.toNat := by
  intro base sum
  have hbase : base = (g.tier.base : Int) := by cases h : g.tier <;> simp [base, h, Tier.base]
  have hsum : scoreSum s i = sum := by
    simp only [scoreSum, hg, sum, hbase, Option.map_some, Option.getD_some, Option.any_some, Bool.and_eq_true,
      decide_eq_true_eq]
    push_cast
    rfl
  unfold score
  rw [hsum]
  split
  · omega
  · split <;> omega

/-! ## REGRADE (R100) -/

section
variable {n : Nat} {s : State} {i : Incident} (b : Int)

/-- The record with its adjustment replaced. -/
def Incident.adjusted (i : Incident) : Incident := { i with adjustment := b }

theorem updIncident_sameGrading (f : Incident → Incident) : SameGrading s (s.updIncident n f) :=
  ⟨by simp, by simp, by simp, by simp, by simp⟩

theorem regraded_updIncident (f : Incident → Incident) : regraded (s.updIncident n f) = regraded s :=
  regraded_congr (updIncident_sameGrading f)

theorem adjustIncident_eq (hi : Table.at? s.incidents n = some i) :
    adjustIncident n b s =
      if i.adjustment = b then regradeIncident n (s.updIncident n (Incident.adjusted b))
      else markIncident n (regradeIncident n (s.updIncident n (Incident.adjusted b))) := by
  unfold adjustIncident
  by_cases h : i.adjustment = b <;> simp [Table.test_some hi, h] <;> rfl

theorem adjustIncident_becomes (hi : Table.at? s.incidents n = some i) :
    incidentBecomes n (fun i => regraded s (i.adjusted b)) s (adjustIncident n b s) := by
  have hregrade : incidentBecomes n (fun i => regraded s (i.adjusted b)) s
      (regradeIncident n (s.updIncident n (Incident.adjusted b))) := by
    have hupd : incidentBecomes n (Incident.adjusted b) s (s.updIncident n (Incident.adjusted b)) :=
      Table.becomes_upd n _ _
    have := hupd.trans (regradeIncident_becomes n (s.updIncident n (Incident.adjusted b)))
    rwa [regraded_updIncident] at this
  rw [adjustIncident_eq b hi]
  split
  · exact hregrade
  · exact hregrade.same (by simp)

/-- Flag and notice follow exactly where adjustment or regrade changes the record. -/
theorem adjustIncident_indicates (hi : Table.at? s.incidents n = some i) :
    Indicates (if regraded s (i.adjusted b) = i then [] else [.incident])
      (if regraded s (i.adjusted b) = i then [] else [(.incident, n)]) s (adjustIncident n b s) := by
  have hupd : Table.at? (s.updIncident n (Incident.adjusted b)).incidents n = some (i.adjusted b) := by
    simp [Table.at?_upd, hi]
  have hregrade := regradeIncident_indicates hupd
  rw [regraded_updIncident] at hregrade
  replace hregrade := (Indicates.of_same (s := s) (by simp) (by simp)).trans hregrade
  rw [adjustIncident_eq b hi]
  by_cases h : i.adjustment = b
  · have hsame : i.adjusted b = i := by rw [← h]; rfl
    rw [hsame] at hregrade ⊢
    rw [if_pos h]
    simpa using hregrade
  · have hne : regraded s (i.adjusted b) ≠ i := fun heq => h (congrArg Incident.adjustment heq).symm
    rw [if_neg h, if_neg hne, if_neg hne]
    refine (hregrade.mark .incident n .incident).congr (fun v => ?_) (fun x => ?_) <;> split <;> simp

theorem adjustIncident_changes : changesOnly [.incidents, .notices, .onPlace] s (adjustIncident n b s) := by
  intro p hp
  cases p with
  | incidents | notices | onPlace => simp at hp
  | port => exact same_port (by simp)
  | _ => simp [State.same]

/-- An admitted request on one incident passes the tests of R100 and R103. -/
theorem incidentTests_passed {h : Header} (hm : s.model = .running) (hn : n < 512)
    (hi : Table.at? s.incidents n = some i) (hw : inWindow s h.desk i.segment = true) :
    ∀ x ∈ incidentTests h n s, x.1 = true := by
  simp [incidentTests, running_iff.2 hm, hn, Table.has_some hi, Table.test_some hi, hw, Config.incidentSlots]

end

theorem clampInt_eq (lo hi z : Int) (h : lo ≤ hi) : clampInt lo hi z = max lo (min hi z) := by
  unfold clampInt
  split
  · omega
  · split <;> omega

/-- Settles O40: by what the two operations make of the record and what they indicate. -/
theorem regradeAndDeclareControlled : Obligations.RegradeAndDeclareControlled := by
  unfold Obligations.RegradeAndDeclareControlled
  intro h n s i g hready hm hn hi hg hw becomes
  have htests := incidentTests_passed hm hn hi hw
  constructor
  · intro a hwell b base sum sc gr dl
    have hexec : exec (.regrade h n a) s = _ := request_ready hready hwell h [.overdue] (regrade h n a)
    have hb : clampInt (-64) 63 a = b := clampInt_eq _ _ _ (by decide)
    have hclamped : (a != b) = decide (a < -64 ∨ 63 < a) := by
      rw [Bool.eq_iff_iff, bne_iff_ne, decide_eq_true_iff]
      omega
    have hscore : score s (i.adjusted b) = sc := score_eq (i := i.adjusted b) hg
    have hrecord : regraded s (i.adjusted b) = { i with
        adjustment := b, score := sc, grade := gr, deadline := dl
        overdue := i.overdue || (decide (dl ≤ s.clock.second) && decide (i.attendance ≠ .attended)) } := by
      have hatt : (i.attendance != .attended) = decide (i.attendance ≠ .attended) := by cases i.attendance <;> rfl
      simp only [regraded, hscore]
      simp only [Incident.gradedBy, Incident.adjusted, hatt]
      rfl
    rw [regrade, tested_passed htests] at hexec
    simp only [hb, hclamped] at hexec
    obtain ⟨hraises, hflags⟩ := adjustIncident_indicates b hi
    rw [hrecord] at hraises hflags
    refine ⟨_, adjustIncident n b s, hexec, adjustIncident_changes b, fun m => ?_, hraises, hflags⟩
    rw [adjustIncident_becomes b hi m]
    split
    · subst_vars; rw [hi, ← hrecord]; rfl
    · rfl
  · intro hwell
    have hexec : exec (.declareControlled h n) s = _ := request_ready hready hwell h [.overdue] (declareControlled h n)
    rw [declareControlled, tested_passed htests] at hexec
    obtain ⟨hraises, hflags⟩ := setSafety_indicates hi (fun _ => .controlled)
    refine ⟨_, setSafety n (fun _ => .controlled) s, hexec, setSafety_changes n _ s, fun m => ?_, hraises, hflags⟩
    rw [setSafety_becomes n s _ m]
    split
    · subst_vars; rw [hi]; rfl
    · rfl

end Sys2Proof.Machine
end

section
/-! SUPPORT. The incident that a call joins, the joining and the making (R88 to R91), and O39. -/

namespace Sys2Proof.Machine

/-! ## The first of a list -/

section
variable {α : Type} {lt : α → α → Bool} {l : List α} {a : α}

/-- An element that comes before every other of the list is the first by `lt`. -/
theorem leastBy_eq_some (ha : a ∈ l) (hmin : ∀ b ∈ l, b = a ∨ (lt a b = true ∧ lt b a = false)) :
    leastBy lt l = some a := by
  induction l with
  | nil => cases ha
  | cons c t ih =>
    have hminTail : ∀ b ∈ t, b = a ∨ (lt a b = true ∧ lt b a = false) := fun b hb => hmin b (List.mem_cons_of_mem c hb)
    unfold leastBy
    by_cases hat : a ∈ t
    · rw [ih hat hminTail]
      rcases hmin c List.mem_cons_self with rfl | ⟨hlt, -⟩
      · simp
      · simp [hlt]
    · obtain rfl : a = c := by simpa [hat] using ha
      cases ht : leastBy lt t with
      | none => rfl
      | some b =>
        have hb := mem_of_leastBy ht
        rcases hminTail b hb with rfl | ⟨-, hnot⟩
        · exact absurd hb hat
        · simp [hnot]

end

/-! ## The incident that a call joins (R89) -/

section
variable {s : State} {seg n : Nat} {i : Incident}

theorem callTarget_oldest (hs : Table.rises s.incidents) (hi : Table.at? s.incidents n = some i) (hseg : i.segment = seg)
    (hmin : ∀ m j, Table.at? s.incidents m = some j → j.segment = seg →
      i.firstReport < j.firstReport ∨ (i.firstReport = j.firstReport ∧ n ≤ m)) :
    callTarget seg false none s = some n := by
  have hleast : leastBy olderIncident (s.incidents.filter (fun r => r.2.segment = seg)) = some (n, i) := by
    refine leastBy_eq_some (by simpa [Table.mem_iff_at? hs] using ⟨hi, hseg⟩) fun x hx => ?_
    obtain ⟨m, j⟩ := x
    obtain ⟨hmem, hj⟩ := List.mem_filter.1 hx
    replace hmem := (Table.mem_iff_at? hs).1 hmem
    by_cases hm : m = n
    · subst hm
      obtain rfl : i = j := Option.some.inj (hi.symm.trans hmem)
      exact .inl rfl
    · refine .inr ⟨?_, Bool.eq_false_iff.2 ?_⟩
      · rw [olderIncident, earlier_iff]
        have := hmin m j hmem (by simpa using hj)
        dsimp only
        omega
      · rw [olderIncident, Ne, earlier_iff]
        have := hmin m j hmem (by simpa using hj)
        dsimp only
        omega
  simp [callTarget, hleast]

theorem callTarget_none {newInc : Bool} (hs : Table.rises s.incidents)
    (h : newInc = true ∨ ∀ m j, Table.at? s.incidents m = some j → j.segment ≠ seg) :
    callTarget seg newInc none s = none := by
  unfold callTarget
  dsimp only
  split
  · rfl
  · rename_i hnew
    have hnone : s.incidents.filter (fun r => r.2.segment = seg) = [] := by
      rw [List.filter_eq_nil_iff]
      rintro ⟨m, j⟩ hmem
      simpa using h.resolve_left hnew m j ((Table.mem_iff_at? hs).1 hmem)
    simp [hnone, leastBy]

end

/-! ## The tests of a call (R88) -/

section
variable {s : State} {h : Header} {ref seg : Nat} {indoor damage newInc : Bool} {merge : Option Nat} {g : Segment}

/-- An admitted call that joins incident `n`. -/
theorem reportCall_joins {n : Nat} {i : Incident} (hm : s.model = .running) (hseg : seg < 4096)
    (hmerge : ∀ m, merge = some m → m < 512 ∧ newInc = false) (hw : inWindow s h.desk seg = true)
    (hg : Table.at? s.segments seg = some g) (hi : Table.at? s.incidents n = some i)
    (htarget : callTarget seg newInc merge s = some n) (hnamed : ∀ m, merge = some m → m = n)
    (hwi : merge.isSome → inWindow s h.desk i.segment = true) (href : ∀ x ∈ i.entries, x.ref ≠ ref) :
    ∃ r, reportCall h ref seg indoor damage newInc merge s =
      (joinIncident n { ref := ref, second := s.clock.second, indoor := indoor, damage := damage } s, r) ∧
      r.result = .done := by
  have htests : ∀ x ∈ callTests h ref seg newInc merge s, x.1 = true := by
    cases merge with
    | none => simpa [callTests, htarget, running_iff.2 hm, hseg, hw, Table.has_some hg, Table.test_some hi,
        Config.segmentSlots] using href
    | some m =>
      obtain ⟨hlt, rfl⟩ := hmerge m rfl
      obtain rfl := hnamed m rfl
      simpa [callTests, htarget, running_iff.2 hm, hseg, hw, Table.has_some hg, Table.test_some hi, Table.has_some hi,
        hwi rfl, hlt, Config.segmentSlots, Config.incidentSlots] using href
  unfold reportCall
  rw [tested_passed htests]
  simp only [htarget]
  exact ⟨_, rfl, rfl⟩

/-- An admitted call that makes an incident in slot `n`. -/
theorem reportCall_makes {n : Nat} (hm : s.model = .running) (hseg : seg < 4096)
    (hw : inWindow s h.desk seg = true) (hg : Table.at? s.segments seg = some g)
    (htarget : callTarget seg newInc none s = none) (hfree : Table.lowestFree s.incidents 512 = some n) :
    ∃ r, reportCall h ref seg indoor damage newInc none s = (makeIncident n (calledIncident seg
      { ref := ref, second := s.clock.second, indoor := indoor, damage := damage } s) s, r) ∧ r.result = .done := by
  have htests : ∀ x ∈ callTests h ref seg newInc none s, x.1 = true := by
    simp [callTests, htarget, running_iff.2 hm, hseg, hw, Table.has_some hg, hfree, Config.segmentSlots,
      Config.incidentSlots]
  unfold reportCall
  rw [tested_passed htests]
  simp only [htarget, show Table.lowestFree s.incidents Config.incidentSlots = some n from hfree]
  exact ⟨_, rfl, rfl⟩

end

/-! ## The joining and the making (R90, R91) -/

section
variable (n : Nat) (s : State)

theorem joinIncident_becomes (e : CallEntry) :
    incidentBecomes n (fun i => regraded s (joined e i)) s (joinIncident n e s) := by
  have hupd : incidentBecomes n (joined e) s (s.updIncident n (joined e)) := Table.becomes_upd n _ _
  have hregrade := hupd.trans (regradeIncident_becomes n (s.updIncident n (joined e)))
  rw [regraded_updIncident] at hregrade
  exact hregrade.same (by simp [joinIncident])

theorem joinIncident_marks (e : CallEntry) : flagsIf .incident n true s (joinIncident n e s) ∧
    raisesIf .incident true s (joinIncident n e s) := by
  have hregrade : indicatesAmong [.incident] [.incident] s (regradeIncident n (s.updIncident n (joined e))) :=
    (regradeIncident_among n _).after (by simp) (by simp)
  exact hregrade.mark .incident n .incident

theorem changesOnly_joinIncident (e : CallEntry) :
    changesOnly [.incidents, .segments, .notices, .onPlace] s (joinIncident n e s) := by
  intro p hp
  cases p with
  | incidents | segments | notices | onPlace => simp at hp
  | port => exact same_port (by simp)
  | _ => simp [State.same]

theorem changesOnly_makeIncident (i : Incident) :
    changesOnly [.incidents, .segments, .notices, .onPlace] s (makeIncident n i s) := by
  intro p hp
  cases p with
  | incidents | segments | notices | onPlace => simp at hp
  | port => exact same_port (by simp)
  | _ => simp [State.same]

/-- A making counts the open incidents of its segment again. -/
theorem makeIncident_counts (i : Incident) (m : Nat) : Table.at? (makeIncident n i s).segments m =
    (Table.at? s.segments m).map (fun g => if m = i.segment
      then { g with openIncidents := min 255 (openIncidents (makeIncident n i s) i.segment).length } else g) := by
  have hopen : openIncidents (makeIncident n i s) i.segment = openIncidents (s.putIncident n (graded s i)) i.segment := by
    simp [makeIncident, openIncidents]
  rw [hopen]
  simp [makeIncident, at?_recountIncidents]

/-- The incident that a call makes (R86, R90, R98). -/
theorem graded_calledIncident (seg : Nat) (e : CallEntry) :
    let i := graded s (calledIncident seg e s)
    i = { kind := if e.damage then .damage else .escape, segment := seg, firstReport := s.clock.second,
          deadline := i.deadline, score := score s i, grade := gradeOf (score s i),
          overdue := decide (i.deadline ≤ s.clock.second),
          indoor := e.indoor, damage := e.damage, callCount := 1, entries := [e], attendance := .unassigned,
          offerDesk := none, offerExpiry := none, safety := .opened, plan := none, adjustment := 0 } := by
  intro i
  have hscore : score s i = score s (calledIncident seg e s) := rfl
  have hover : i.overdue = decide (i.deadline ≤ s.clock.second) := by
    have hmade : i.overdue = (decide (i.deadline ≤ s.clock.second) && (Attendance.unassigned != Attendance.attended)) :=
      rfl
    rw [hmade, show (Attendance.unassigned != Attendance.attended) = true from rfl, Bool.and_true]
  rw [hscore, ← hover]
  rfl

end

/-- Settles O39: by what the joining and the making write. -/
theorem reportCallJoinsOrMakes : Obligations.ReportCallJoinsOrMakes := by
  unfold Obligations.ReportCallJoinsOrMakes
  intro h ref seg indoor damage newInc merge s g hready htables hwell hm hseg hmerge hw hg e kept
  have hs := htables.keysRise.incidents
  have hexec : exec (.reportCall h ref seg indoor damage newInc merge) s = _ :=
    request_ready hready hwell h [.overdue] (reportCall h ref seg indoor damage newInc merge)
  refine ⟨fun n i hi hcase hwi href => ?_, fun n hnone hcase hfree => ?_⟩
  · have htarget : callTarget seg newInc merge s = some n := by
      rcases hcase with rfl | ⟨rfl, rfl, hsegment, hmin⟩
      · rfl
      · exact callTarget_oldest hs hi hsegment hmin
    have hnamed : ∀ m, merge = some m → m = n := by
      rintro m rfl
      exact Option.some.inj htarget
    obtain ⟨r, hcall, hdone⟩ := reportCall_joins (indoor := indoor) (damage := damage) hm hseg hmerge hw hg hi htarget
      hnamed hwi href
    rw [hcall] at hexec
    have hjoin := joinIncident_becomes n s e
    obtain ⟨hflag, hraise⟩ := joinIncident_marks n s e
    refine ⟨r, joinIncident n e s, hexec, hdone, ⟨changesOnly_joinIncident n s e, hflag, hraise, fun m hne => hjoin.other hne⟩,
      by simp [joinIncident], hjoin.self hi⟩
  · subst hnone
    obtain ⟨r, hcall, hdone⟩ := reportCall_makes (ref := ref) (indoor := indoor) (damage := damage) hm hseg hw hg
      (callTarget_none hs hcase) hfree
    rw [hcall] at hexec
    obtain ⟨hflag, hraise⟩ := makeIncident_marks n s (calledIncident seg e s)
    refine ⟨r, makeIncident n (calledIncident seg e s) s, graded s (calledIncident seg e s), hexec, hdone,
      ⟨changesOnly_makeIncident n s _, hflag, hraise, fun m hne => ?_⟩, ?_, graded_calledIncident s seg e, rfl,
      makeIncident_counts n s _⟩
    · rw [makeIncident_incidents, Table.at?_put_ne _ _ hne]
    · rw [makeIncident_incidents, Table.at?_put_self]

end Sys2Proof.Machine
end

section
/-! SUPPORT. The incidents that stay in their slots (R86, R91, R98, R101): what each operation that writes one leaves of it,
and O5. -/

namespace Sys2Proof.Machine

/-! ## The ageing of an incident -/

/-- From `i` to `j` kind and first report stay, the deadline is no later, and overdue, indoor and damage stay yes. -/
structure Incident.ages (i j : Incident) : Prop where
  kind : j.kind = i.kind
  firstReport : j.firstReport = i.firstReport
  deadline : j.deadline ≤ i.deadline
  overdue : i.overdue = true → j.overdue = true
  indoor : i.indoor = true → j.indoor = true
  damage : i.damage = true → j.damage = true

@[refl] theorem Incident.ages.refl (i : Incident) : i.ages i := ⟨rfl, rfl, le_rfl, id, id, id⟩

theorem Incident.ages.trans {i j k : Incident} (h : i.ages j) (h' : j.ages k) : i.ages k :=
  ⟨h'.kind.trans h.kind, h'.firstReport.trans h.firstReport, h'.deadline.trans h.deadline, h'.overdue ∘ h.overdue,
    h'.indoor ∘ h.indoor, h'.damage ∘ h.damage⟩

theorem regraded_ages (s : State) (i : Incident) : i.ages (regraded s i) :=
  ⟨rfl, rfl, min_le_left _ _, fun h => by simp [regraded, Incident.gradedBy, h], id, id⟩

theorem joined_ages (e : CallEntry) (i : Incident) : i.ages (joined e i) :=
  ⟨rfl, rfl, le_rfl, id, fun h => by simp [joined, h], fun h => by simp [joined, h]⟩

/-- From `s` to `u` every incident stays in its slot, and ages. -/
structure Ages (s u : State) : Prop where
  stays : ∀ n i, Table.at? s.incidents n = some i → ∃ j, Table.at? u.incidents n = some j ∧ i.ages j

theorem Ages.of_incidents {s u : State} (h : u.incidents = s.incidents) : Ages s u := ⟨fun _ i hi => ⟨i, h ▸ hi, .refl i⟩⟩

@[refl] theorem Ages.refl (s : State) : Ages s s := .of_incidents rfl

theorem Ages.trans {s t u : State} (h : Ages s t) (h' : Ages t u) : Ages s u := by
  refine ⟨fun n i hi => ?_⟩
  obtain ⟨j, hj, hij⟩ := h.stays n i hi
  obtain ⟨k, hk, hjk⟩ := h'.stays n j hj
  exact ⟨k, hk, hij.trans hjk⟩

theorem Ages.of_becomes {s u : State} {n : Nat} {g : Incident → Incident} (h : incidentBecomes n g s u)
    (hg : ∀ i : Incident, i.ages (g i)) : Ages s u := by
  refine ⟨fun m i hi => ?_⟩
  by_cases hm : m = n
  · subst hm
    exact ⟨g i, h.self hi, hg i⟩
  · exact ⟨i, (h.other hm).trans hi, .refl i⟩

section
variable {s t : State}

/-- The incidents stay through an operation that leaves the table. -/
theorem Ages.frame {u : State} (h : Ages s t) (hu : u.incidents = t.incidents) : Ages s u := h.trans (.of_incidents hu)

theorem Ages.ite {c : Prop} [Decidable c] {a b : State} (ha : Ages s a) (hb : Ages s b) : Ages s (if c then a else b) := by
  split
  · exact ha
  · exact hb

theorem Ages.foldl {α : Type} {f : State → α → State} (hf : ∀ {t : State}, Ages s t → ∀ {a}, Ages s (f t a))
    {l : List α} (h : Ages s t) : Ages s (l.foldl f t) := by
  induction l generalizing t with
  | nil => exact h
  | cons a l ih => exact ih (hf h)

theorem Ages.updIncident (h : Ages s t) {n : Nat} {f : Incident → Incident} (hf : ∀ i : Incident, i.ages (f i)) :
    Ages s (t.updIncident n f) :=
  h.trans (.of_becomes (n := n) (g := f) (Table.becomes_upd n f _) hf)

/-! ## Incident Register -/

theorem regradeIncident_ages (h : Ages s t) {n : Nat} : Ages s (regradeIncident n t) :=
  h.trans (.of_becomes (regradeIncident_becomes n t) (regraded_ages t))

theorem regradeSegment_ages (h : Ages s t) {x : Nat} : Ages s (regradeSegment x t) :=
  .foldl (fun h => regradeIncident_ages h) h

theorem regradePlanIncident_ages (h : Ages s t) {i : Option Nat} : Ages s (regradePlanIncident i t) := by
  cases i with
  | none => exact h
  | some n => exact regradeIncident_ages h

theorem setSafety_ages (h : Ages s t) {n : Nat} {f : Safety → Safety} : Ages s (setSafety n f t) :=
  h.trans (.of_becomes (setSafety_becomes n t f) fun _ => ⟨rfl, rfl, le_rfl, id, id, id⟩)

theorem planEvent_ages (h : Ages s t) {e : PlanEvent} {i : Option Nat} : Ages s (planEvent e i t) := by
  cases i with
  | none => exact h
  | some n => exact setSafety_ages h

/-- A making takes a slot that is free. -/
theorem makeIncident_ages (h : Ages s t) {n : Nat} (hn : Table.at? t.incidents n = none) {i : Incident} :
    Ages s (makeIncident n i t) := by
  refine h.trans ⟨fun m j hj => ⟨j, ?_, .refl j⟩⟩
  have hne : m ≠ n := fun heq => by simp [← heq, hj] at hn
  rw [makeIncident_incidents, Table.at?_put_ne _ _ hne, hj]

theorem pressureRequest_ages (h : Ages s t) {x : Nat} : Ages s (pressureRequest x t) := by
  unfold pressureRequest
  refine .ite (regradeSegment_ages h) ?_
  split
  · rename_i n hn
    obtain ⟨-, hfree, -⟩ := Table.lowestFree_some hn
    exact makeIncident_ages h hfree
  · exact h.frame (by simp)

theorem regradeRequest_ages (h : Ages s t) {x : Nat} : Ages s (regradeRequest x t) := .ite (regradeSegment_ages h) h

theorem bandHandOff_ages (h : Ages s t) {x : Nat} {b : Band} : Ages s (bandHandOff x b t) :=
  .ite (pressureRequest_ages h) (regradeRequest_ages h)

theorem markOverdue_ages (h : Ages s t) {n : Nat} : Ages s (markOverdue n t) := by
  have h1 : Ages s (t.updIncident n (fun i => { i with overdue := true })) :=
    h.updIncident (by exact fun _ => ⟨rfl, rfl, le_rfl, fun _ => rfl, id, id⟩)
  exact h1.frame (by simp [markOverdue])

theorem overdueIncidents_ages (h : Ages s t) : Ages s (overdueIncidents t) := .foldl (fun h => markOverdue_ages h) h

theorem joinIncident_ages (h : Ages s t) {n : Nat} {e : CallEntry} : Ages s (joinIncident n e t) := by
  have h1 : Ages s (regradeIncident n (t.updIncident n (joined e))) :=
    regradeIncident_ages (h.updIncident (joined_ages e))
  exact h1.frame (by simp [joinIncident])

theorem adjustIncident_ages (h : Ages s t) {n : Nat} {a : Int} : Ages s (adjustIncident n a t) := by
  have h1 : Ages s (regradeIncident n (t.updIncident n (fun i => { i with adjustment := a }))) :=
    regradeIncident_ages (h.updIncident (by exact fun _ => ⟨rfl, rfl, le_rfl, id, id, id⟩))
  exact .ite (h1.frame (by simp)) h1

/-! ## Verification Unit -/

theorem setVerdict_ages (h : Ages s t) {p : Nat} {v : Verdict} : Ages s (setVerdict p v t) := by
  unfold setVerdict
  split
  · exact h
  · refine .ite h ?_
    cases v with
    | none => exact h
    | untested => exact h.frame (by simp)
    | tight => exact planEvent_ages (h.frame (by simp))
    | passing => exact regradePlanIncident_ages (planEvent_ages (h.frame (by simp)))

theorem startTest_ages (h : Ages s t) {p : Nat} : Ages s (startTest p t) := by
  unfold startTest
  split
  · exact h
  · exact .ite (setVerdict_ages (h.frame (by simp))) (h.frame (by simp))

theorem dropEntry_ages (h : Ages s t) {n p : Nat} : Ages s (dropEntry n p t) := by
  unfold dropEntry
  split
  · exact h
  · split
    · exact .ite (h.frame (by simp)) (setVerdict_ages (h.frame (by simp)))
    · exact h

theorem testReading_ages (h : Ages s t) {n x : Nat} {c : Condition} {p : Nat} : Ages s (testReading n x c p t) := by
  unfold testReading
  split
  · exact h
  · split
    · exact .ite (dropEntry_ages h) (.ite (setVerdict_ages (h.frame (by simp))) (h.frame (by simp)))
    · exact h

theorem testReadings_ages (h : Ages s t) {n x : Nat} {c : Condition} : Ages s (testReadings n x c t) :=
  .foldl (fun h => testReading_ages h) h

theorem endWindow_ages (h : Ages s t) {p : Nat} : Ages s (endWindow p t) := by
  unfold endWindow
  split
  · exact h
  · split
    · exact .ite (setVerdict_ages (h.frame (by simp))) h
    · exact h

theorem endWindows_ages (h : Ages s t) : Ages s (endWindows t) := .foldl (fun h => endWindow_ages h) h

/-! ## Plan Engine -/

theorem transferCore_ages (h : Ages s t) {p : Nat} : Ages s (transferCore p t).1 := by
  unfold transferCore
  split
  · exact h
  · extract_lets raised lowered s1 q1 s2 s3 s4 s5 s6 s7 s8
    have h2 : Ages s s2 := h.frame (by simp [s2, s1])
    have h3 : Ages s s3 := .ite (startTest_ages h2) h2
    have h5 : Ages s s5 := h3.frame (by simp [s5, s4])
    have h6 : Ages s s6 := .ite (planEvent_ages h5) h5
    have h7 : Ages s s7 := .ite (planEvent_ages h6) h6
    exact .ite (regradePlanIncident_ages h7) h7

theorem testRelease_ages (h : Ages s t) {k p : Nat} : Ages s (testRelease k p t) := by
  induction k generalizing p t with
  | zero => exact h
  | succ k ih =>
    unfold testRelease
    split
    · exact h
    · have h1 : Ages s (completeRelease p t) := h.frame (by simp)
      exact .ite (.ite (.foldl (fun h => ih h) (transferCore_ages h1)) h1) h

theorem testPlan_ages (h : Ages s t) {p : Nat} : Ages s (testPlan p t) := testRelease_ages h

theorem transfer_ages (h : Ages s t) {p : Nat} : Ages s (transfer p t) :=
  .foldl (fun h => testPlan_ages h) (transferCore_ages h)

theorem becomeSecured_ages (h : Ages s t) {p : Nat} : Ages s (becomeSecured p t) := by
  have h1 : Ages s (markPlan p (t.updPlan p (fun q => { q with activeState := .secured }))) := h.frame (by simp)
  exact .ite (transfer_ages h1) (startTest_ages h1)

theorem returnToIssuing_ages (h : Ages s t) {p : Nat} {q : Plan} : Ages s (returnToIssuing p q t) := by
  unfold returnToIssuing
  extract_lets s1 s2
  have h1 : Ages s s1 := h.frame (by simp [s1])
  have h2 : Ages s s2 := .ite (planEvent_ages h1) h1
  exact .ite (regradePlanIncident_ages h2) h2

theorem reevaluate_ages (h : Ages s t) {v p : Nat} : Ages s (reevaluate v p t) := by
  unfold reevaluate
  split
  · exact h
  · refine .ite h ?_
    split
    · exact h
    · exact .ite (becomeSecured_ages h) h
    · exact .ite (returnToIssuing_ages h) h
    · exact .ite (returnToIssuing_ages h) h
    · exact .ite (returnToIssuing_ages h) h
    · exact testPlan_ages h

theorem positionChanged_ages (h : Ages s t) {v : Nat} : Ages s (positionChanged v t) :=
  .foldl (fun h => reevaluate_ages h) h

theorem operabilityChanged_ages (h : Ages s t) {v : Nat} : Ages s (operabilityChanged v t) :=
  .foldl (fun h => testPlan_ages h) h

theorem release_ages (h : Ages s t) {p : Nat} : Ages s (release p t) := by
  unfold release
  split
  · exact h
  · extract_lets s1 s2 s3 s4 s5
    have h3 : Ages s s3 := h.frame (by simp [s3, s2, s1])
    have h4 : Ages s s4 := .foldl (fun h => testPlan_ages h) h3
    have h5 : Ages s s5 := .ite (regradePlanIncident_ages h4) h4
    exact testPlan_ages h5

theorem linkIncident_ages (h : Ages s t) {i p : Option Nat} : Ages s (linkIncident i p t) := by
  cases i with
  | none => exact h
  | some n =>
    have h1 : Ages s (t.updIncident n (fun r => { r with plan := p })) :=
      h.updIncident (by exact fun _ => ⟨rfl, rfl, le_rfl, id, id, id⟩)
    exact h1.frame (by simp [linkIncident])

theorem discardPlan_ages (h : Ages s t) {p : Nat} {q : Plan} : Ages s (discardPlan p q t) :=
  (linkIncident_ages h (i := q.incident) (p := none)).frame (by simp [discardPlan])

/-! ## Order Unit -/

theorem positionReport_ages (h : Ages s t) {v : Nat} {r : Reported} : Ages s (positionReport v r t) := by
  unfold positionReport
  split
  · exact h
  · extract_lets s1 s2
    have h1 : Ages s s1 := h.frame (by simp [s1])
    have h2 : Ages s s2 := .ite (positionChanged_ages h1) h1
    exact .ite (h2.frame (by simp)) h2

theorem declare_ages (h : Ages s t) {v : Nat} : Ages s (declare v t) := by
  unfold declare
  split
  · exact h
  · refine .ite h ?_
    extract_lets s1 s2
    have h2 : Ages s s2 := operabilityChanged_ages (h.frame (by simp [s1]))
    exact .ite (h2.frame (by simp)) h2

theorem restore_ages (h : Ages s t) {v : Nat} : Ages s (restore v t) := by
  unfold restore
  split
  · exact h
  · refine .ite h ?_
    extract_lets s1 s2
    have h2 : Ages s s2 := operabilityChanged_ages (h.frame (by simp [s1]))
    exact .ite (h2.frame (by simp)) h2

/-! ## Pressure Supervisor -/

theorem setCondition_ages (h : Ages s t) {n : Nat} {c : Condition} : Ages s (setCondition n c t) :=
  h.frame (setCondition_does n t c).1

theorem applySelection_ages (h : Ages s t) {n : Nat} {c : Option Nat} : Ages s (applySelection n c t) := by
  unfold applySelection
  split
  · exact h
  · exact setCondition_ages (h.frame (by simp))

theorem reselectPoint_ages (h : Ages s t) {r : Option Nat} {n : Nat} : Ages s (reselectPoint r n t) := by
  unfold reselectPoint
  split
  · exact h
  · exact .ite h (applySelection_ages h)

theorem reselect_ages (h : Ages s t) {r : Option Nat} {w : Point → Bool} : Ages s (reselect r w t) :=
  .foldl (fun h => reselectPoint_ages h) h

theorem periodChanged_ages (h : Ages s t) {c : Clock} : Ages s (periodChanged c t) := .ite (reselect_ages h) h

theorem firstSelection_ages (h : Ages s t) {n : Nat} : Ages s (firstSelection n t) := by
  unfold firstSelection
  split
  · exact h
  · exact applySelection_ages (h.frame (by simp))

theorem evaluateBand_ages (h : Ages s t) {n : Nat} {e : Profile} {p m : Nat} : Ages s (evaluateBand n e p m t) := by
  unfold evaluateBand
  split
  · exact h
  · dsimp only
    split
    · exact .ite (bandHandOff_ages (h.frame (by simp))) (h.frame (by simp))
    · exact h.frame (by simp)

theorem applyPressure_ages (h : Ages s t) {n : Nat} {c : Nat × Bool} {m : Nat} : Ages s (applyPressure n c m t) := by
  unfold applyPressure
  split
  · exact h
  · dsimp only
    refine testReadings_ages ?_
    split
    · exact evaluateBand_ages (setCondition_ages (h.frame (by simp)))
    · exact setCondition_ages (h.frame (by simp))

theorem reading_ages (h : Ages s t) {n r : Nat} : Ages s (reading n r t) := by
  unfold reading
  split
  · exact h
  · exact .ite (setCondition_ages (h.frame (by simp))) (applyPressure_ages (h.frame (by simp)))

theorem holdReading_ages (h : Ages s t) {n k : Nat} : Ages s (holdReading n k t) := by
  unfold holdReading
  split
  · exact h
  · split
    · exact .ite (.ite (setCondition_ages (h.frame (by simp))) (h.frame (by simp)))
        (applyPressure_ages (h.frame (by simp)))
    · exact h

theorem recalibrate_ages (h : Ages s t) {n : Nat} {z g : Option Nat} : Ages s (recalibrate n z g t) := by
  unfold recalibrate
  extract_lets s1
  have h1 : Ages s s1 := h.frame (by simp [s1])
  exact .ite (setCondition_ages h1) h1

theorem regroup_ages (h : Ages s t) {n g : Nat} : Ages s (regroup n g t) := by
  unfold regroup
  extract_lets differs s1
  have h1 : Ages s s1 := h.frame (by simp [s1])
  exact .ite (reselectPoint_ages h1) h1

theorem alterFields_ages (h : Ages s t) {n : Nat} {z g group k hyst stale : Option Nat} :
    Ages s (alterFields n z g group k hyst stale t) := by
  unfold alterFields
  extract_lets s1 s2
  have h1 : Ages s s1 := .ite (recalibrate_ages h) h
  have h2 : Ages s s2 := by
    cases group with
    | none => exact h1
    | some x => exact regroup_ages h1
  exact h2.frame (by simp)

theorem writeProfile_ages (h : Ages s t) {n : Nat} {e : Profile} : Ages s (writeProfile n e t) := by
  have h1 : Ages s (t.setProfiles (Table.put t.profiles n e)) := h.frame (by simp)
  exact .ite (reselect_ages h1) h1

theorem stalePoints_ages (h : Ages s t) : Ages s (stalePoints t) := .foldl (fun h => setCondition_ages h) h

theorem linkDown_ages (h : Ages s t) {n : Nat} : Ages s (linkDown n t) :=
  .foldl (fun h => h.frame (by simp)) (.foldl (fun h => setCondition_ages h) (h.frame (by simp)))

/-! ## Dispatch Selector -/

theorem attend_ages (h : Ages s t) {a : Attendance} {n : Nat} : Ages s (attend a n t) :=
  (h.updIncident (n := n) (f := fun i => { i with attendance := a, offerDesk := none, offerExpiry := none })
    (by exact fun _ => ⟨rfl, rfl, le_rfl, id, id, id⟩)).frame (by simp [attend])

theorem expireOffer_ages (h : Ages s t) {d : Nat} : Ages s (expireOffer d t) := by
  unfold expireOffer
  split
  · exact h
  · exact .ite (attend_ages (h.frame (by simp))) h

theorem expireOffers_ages (h : Ages s t) : Ages s (expireOffers t) := .foldl (fun h => expireOffer_ages h) h

theorem withdrawOffer_ages (h : Ages s t) {d : Nat} : Ages s (withdrawOffer d t) := by
  unfold withdrawOffer
  split
  · exact h
  · exact attend_ages (h.frame (by simp))

theorem makeOffer_ages (h : Ages s t) {d n : Nat} : Ages s (makeOffer d n t) :=
  (h.updIncident (n := n) (f := fun i => i.offeredTo d (addSeconds t.now t.dispatch.offerTime))
    (by exact fun _ => ⟨rfl, rfl, le_rfl, id, id, id⟩)).frame (by simp [makeOffer])

theorem sendCrew_ages (h : Ages s t) {d n : Nat} : Ages s (sendCrew d n t) := by
  unfold sendCrew
  split
  · exact attend_ages h
  · exact attend_ages (h.frame (by simp))
  · exact h

theorem crewOnSite_ages (h : Ages s t) {n : Nat} : Ages s (crewOnSite n t) := by
  unfold crewOnSite
  split
  · exact h
  · exact .ite h (attend_ages (h.frame (by simp)))

/-! ## Timed work -/

theorem workOf_ages (h : Ages s t) {w : TimedWork} : Ages s (workOf w t) := by
  cases w with
  | staleness => exact stalePoints_ages h
  | overdue => exact overdueIncidents_ages h
  | expiry => exact expireOffers_ages h
  | timeout => exact h.frame (by simp [workOf])
  | windowEnd => exact endWindows_ages h

theorem doWork_ages (h : Ages s t) {w : TimedWork} : Ages s (doWork w t) := .ite (workOf_ages (h.frame (by simp))) h

theorem settle_ages (h : Ages s t) {l : List TimedWork} : Ages s (settle l t) := .foldl (fun h => doWork_ages h) h

theorem secondEvent_ages (h : Ages s t) : Ages s (secondEvent t) :=
  periodChanged_ages ((settle_ages h (l := allWork)).frame (by simp))

/-! ## Network Model and Supply Tracer -/

theorem opening_ages (h : Ages s t) : Ages s (opening t) := by
  unfold opening
  extract_lets s1 s2
  have h2 : Ages s s2 := h.frame (by simp [s2, s1])
  have h3 : Ages s ((Table.keys s2.points).foldl (fun s n => firstSelection n s) s2) :=
    .foldl (fun h => firstSelection_ages h) h2
  exact h3.frame (by simp)

theorem renameSegment_ages (h : Ages s t) {n a : Nat} :
    Ages s (flag .incident n (t.updIncident n (fun i => { i with segment := a }))) := by
  have h1 : Ages s (t.updIncident n (fun i => { i with segment := a })) :=
    h.updIncident (by exact fun _ => ⟨rfl, rfl, le_rfl, id, id, id⟩)
  exact h1.frame (by simp)

theorem mergeOthers_ages (h : Ages s t) {v a b : Nat} : Ages s (mergeOthers v a b t) := by
  unfold mergeOthers
  extract_lets s1 s2
  have h1 : Ages s s1 := .foldl (fun h => renameSegment_ages h) h
  have h2 : Ages s s2 := .foldl (fun h => h.frame (by simp)) h1
  exact .foldl (fun h => h.frame (by simp)) h2

theorem merge_ages (h : Ages s t) {v a b : Nat} {ga gb : Segment} : Ages s (merge v a b ga gb t) := by
  unfold merge
  extract_lets vs s1 s2 s3 s4 s5 s6 s7
  have h2 : Ages s s2 := .foldl (fun h => h.frame (by simp)) (h.frame (u := s1) (by simp [s1]))
  have h3 : Ages s s3 := .foldl (fun h => h.frame (by simp)) h2
  have h5 : Ages s s5 := mergeOthers_ages (h3.frame (u := s4) (by simp [s4]))
  exact h5.frame (by simp [s7, s6])

theorem countRelit_ages (h : Ages s t) {n count : Nat} {g : Segment} : Ages s (countRelit n count g t) := by
  unfold countRelit relightSegment
  refine .ite h (.ite ?_ (h.frame (by simp)))
  exact .ite (regradeSegment_ages (h.frame (by simp))) (h.frame (by simp))

theorem publication_ages (h : Ages s t) : Ages s (publication t) := by
  unfold publication
  split
  · exact h
  · rw [publish_eq]
    exact .foldl (fun h => regradeSegment_ages h) (h.frame (by simp))

end

/-! ## Actions whose incidents age -/

section
variable {l : List (Bool × Result)} {f : State → State × Reply} {s : State}

theorem tested_ages (hf : Ages s (f s).1) : Ages s (tested l f s).1 := tested_induct (.refl s) fun _ => hf

/-- A request that leaves the incidents, whatever it answers. -/
theorem tested_leaves_incidents (hf : (f s).1.incidents = s.incidents) : Ages s (tested l f s).1 :=
  tested_ages (.of_incidents hf)

end

section
variable (h : Header) (s : State)

theorem openModel_ages : Ages s (openModel h s).1 := by
  refine tested_ages ?_
  split
  · exact .refl s
  · exact opening_ages (.refl s)

theorem mergeAtStop_ages (v : Nat) : Ages s (mergeAtStop h v s).1 := by
  refine tested_ages ?_
  split
  · refine tested_ages ?_
    split
    · exact merge_ages (.refl s)
    · exact .refl s
  · exact .refl s

theorem alterPoint_ages (n : Nat) (z g group k hyst stale : Option Nat) :
    Ages s (alterPoint h n z g group k hyst stale s).1 := by
  unfold alterPoint
  split
  · exact tested_leaves_incidents rfl
  · exact tested_ages (alterFields_ages (.refl s))

theorem reportRelit_ages (n count : Nat) : Ages s (reportRelit h n count s).1 := by
  refine tested_ages ?_
  split
  · exact .refl s
  · exact countRelit_ages (.refl s)

theorem reportCall_ages (ref seg : Nat) (indoor damage newInc : Bool) (mergeInto : Option Nat) :
    Ages s (reportCall h ref seg indoor damage newInc mergeInto s).1 := by
  refine tested_ages ?_
  dsimp only
  split
  · exact joinIncident_ages (.refl s)
  · split
    · exact .refl s
    · rename_i n hn
      obtain ⟨-, hfree, -⟩ := Table.lowestFree_some hn
      exact makeIncident_ages (.refl s) hfree

theorem offerNext_ages (v m : Nat) : Ages s (offerNext h v m s).1 := by
  refine tested_ages ?_
  have hw : Ages s (withdrawOffer h.desk s) := withdrawOffer_ages (.refl s)
  dsimp only
  split
  · exact hw
  · exact makeOffer_ages hw

theorem createPlan_ages (i t : Option Nat) (m : Nat) (w a k : Option Nat) : Ages s (createPlan h i t m w a k s).1 := by
  refine tested_ages ?_
  split
  · exact linkIncident_ages (.of_incidents (by simp))
  · exact .refl s

theorem deletePlan_ages (p : Nat) : Ages s (deletePlan h p s).1 := by
  refine tested_ages ?_
  split
  · exact .refl s
  · exact discardPlan_ages (.refl s)

theorem commitDraft_ages (p : Nat) : Ages s (commitDraft h p s).1 := by
  have hc : Ages s (commitPlan p s) := .of_incidents (by simp)
  exact tested_ages (.ite (transfer_ages hc) hc)

theorem fetchOrder_incidents : (fetchOrder h s).1.incidents = s.incidents := by
  refine tested_induct (P := fun u => u.incidents = s.incidents) rfl fun _ => ?_
  split
  · rfl
  · simp

theorem withdrawOrder_incidents (n : Nat) : (withdrawOrder h n s).1.incidents = s.incidents := by
  refine tested_induct (P := fun u => u.incidents = s.incidents) rfl fun _ => ?_
  split
  · rfl
  · simp

theorem splitSegment_incidents (n : Nat) (vs ps : List Nat) (customers : Nat) :
    (splitSegment h n vs ps customers s).1.incidents = s.incidents := by
  refine tested_induct (P := fun u => u.incidents = s.incidents) rfl fun _ => ?_
  split
  · simp
  · rfl

end

/-! ## Every command -/

/-- An incident in the same slot before and after has aged. -/
def agesInSlot (s t : State) : Prop :=
  ∀ n i j, Table.at? s.incidents n = some i → Table.at? t.incidents n = some j → i.ages j

section
variable {s t u : State}

theorem Ages.inSlot (h : Ages s t) : agesInSlot s t := by
  intro n i j hi hj
  obtain ⟨k, hk, hik⟩ := h.stays n i hi
  obtain rfl : j = k := Option.some.inj (hj.symm.trans hk)
  exact hik

theorem agesInSlot.after (h : Ages s t) (h' : agesInSlot t u) : agesInSlot s u := by
  intro n i j hi hj
  obtain ⟨k, hk, hik⟩ := h.stays n i hi
  exact hik.trans (h' n k j hk hj)

/-- A closing takes its incident out of its slot, and leaves the others. -/
theorem closeIncident_inSlot (h : Header) (n : Nat) (s : State) : agesInSlot s (closeIncident h n s).1 := by
  refine tested_induct (P := agesInSlot s) (Ages.refl s).inSlot fun _ => ?_
  split
  · exact (Ages.refl s).inSlot
  · intro m i j hi hj
    rw [retireIncident_eq] at hj
    simp only [unlinked, markIncident_frame, recountIncidents_frame, State.incidents_setIncidents, Table.at?_del] at hj
    by_cases hm : m = n
    · simp [hm] at hj
    · rw [if_neg hm, hi] at hj
      obtain rfl := Option.some.inj hj
      exact .refl i

/-- A request's incidents age as its action's do, once its blocks did the work they owed. -/
theorem request_inSlot {c : Instr} {h : Header} {owed : List TimedWork} {act : State → State × Reply}
    (hact : ∀ s, agesInSlot s (act s).1) (ht : request c h owed act s = .next t) : agesInSlot s t := by
  rcases request_cases ht with ⟨x, rfl⟩ | ⟨x, rfl⟩
  · exact (Ages.of_incidents (by simp)).inSlot
  · have hsettled := agesInSlot.after (settle_ages (.refl s) (l := owed)) (hact (settle owed s))
    simpa [agesInSlot] using hsettled

theorem request_ages {c : Instr} {h : Header} {owed : List TimedWork} {act : State → State × Reply}
    (hact : ∀ s, Ages s (act s).1) (ht : request c h owed act s = .next t) : agesInSlot s t :=
  request_inSlot (fun s => (hact s).inSlot) ht

end

theorem exec_request_inSlot {c : Instr} (hc : isRequest c = true) {s t : State} (ht : exec c s = .next t) :
    agesInSlot s t := by
  cases c with
  | openModel h => exact request_ages (openModel_ages h) ht
  | splitSegment h n vs ps customers =>
    exact request_ages (fun s => .of_incidents (splitSegment_incidents h s n vs ps customers)) ht
  | mergeAtStop h v => exact request_ages (fun s => mergeAtStop_ages h s v) ht
  | alterPoint h n z g group k hyst stale =>
    exact request_ages (fun s => alterPoint_ages h s n z g group k hyst stale) ht
  | setProfile h n group pv pm ll l hi hh enabled =>
    exact request_ages (fun s => tested_ages (writeProfile_ages (.refl s))) ht
  | reportRelit h n count => exact request_ages (fun s => reportRelit_ages h s n count) ht
  | reportCall h ref seg indoor damage newInc mergeInto =>
    exact request_ages (fun s => reportCall_ages h s ref seg indoor damage newInc mergeInto) ht
  | regrade h n a => exact request_ages (fun s => tested_ages (adjustIncident_ages (.refl s))) ht
  | declareControlled h n =>
    exact request_ages (fun s => tested_ages (setSafety_ages (n := n) (f := fun _ => .controlled) (.refl s))) ht
  | closeIncident h n => exact request_inSlot (closeIncident_inSlot h n) ht
  | offerNext h v m => exact request_ages (fun s => offerNext_ages h s v m) ht
  | acceptOffer h n | declineOffer h n =>
    exact request_ages (fun s => tested_ages (attend_ages (.of_incidents (by simp)))) ht
  | dispatchDirect h n => exact request_ages (fun s => tested_ages (sendCrew_ages (.refl s))) ht
  | reportAttended h n => exact request_ages (fun s => tested_ages (crewOnSite_ages (.refl s))) ht
  | createPlan h i t m w a k => exact request_ages (fun s => createPlan_ages h s i t m w a k) ht
  | deletePlan h p => exact request_ages (fun s => deletePlan_ages h s p) ht
  | commitDraft h p => exact request_ages (fun s => commitDraft_ages h s p) ht
  | releasePlan h p => exact request_ages (fun s => tested_ages (release_ages (.refl s))) ht
  | reportValve h v position => exact request_ages (fun s => tested_ages (positionReport_ages (.refl s))) ht
  | fetchOrder h => exact request_ages (fun s => .of_incidents (fetchOrder_incidents h s)) ht
  | withdrawOrder h n => exact request_ages (fun s => .of_incidents (withdrawOrder_incidents h s n)) ht
  | declareInoperable h v => exact request_ages (fun s => tested_ages (declare_ages (.refl s))) ht
  | restoreOperable h v => exact request_ages (fun s => tested_ages (restore_ages (.refl s))) ht
  | setClock h n | setDayClass h d =>
    exact request_ages (fun s => tested_ages (periodChanged_ages (.of_incidents (by simp)))) ht
  | readSegment | readValve | readOutage | readPlan =>
    exact request_ages (fun s => tested_leaves_incidents (by split <;> rfl)) ht
  | readStrays h c => exact request_ages (fun s => .of_incidents (by simp [readStrays])) ht
  | readTrace | peekNotices => exact request_ages (fun s => .refl s) ht
  | getNotices => exact request_ages (fun s => .of_incidents (by simp [getNotices])) ht
  | alterSegment h n zone customers =>
    exact request_ages (fun s => tested_leaves_incidents (by dsimp only; split <;> simp)) ht
  | malformedRequestFrame | requestDiscarded | answerPlaced | readTransaction | telemetryByte | readingItem | holdItem |
    positionItem | linkUpItem | linkDownItem | badItem | publication | secondEvent | pointStale | incidentOverdue |
    offerExpiry | orderTimeout | windowEnd | coldReset => simp [isRequest, requestHeader] at hc
  | _ => exact request_ages (fun s => tested_leaves_incidents (by simp)) ht

/-! ## Items, the port and time -/

section
variable (s : State)

theorem toPoint_ages {x : Tag} {act : Nat → State → State} (h : ∀ n, Ages s (act n s)) : Ages s (toPoint x act s) := by
  unfold toPoint
  split
  · exact h _
  · exact .ite (.of_incidents (by simp)) (.of_incidents (by simp))

theorem toValve_ages {x : Tag} {act : Nat → State → State} (h : ∀ v, Ages s (act v s)) : Ages s (toValve x act s) := by
  unfold toValve
  split
  · exact .of_incidents (by simp)
  · split
    · exact h _
    · exact .of_incidents (by simp)

theorem takeItem_ages {k : ItemKind} {owed : List TimedWork} {act : Item → State → State}
    (hact : ∀ i u, Ages u (act i u)) : Ages s (takeItem k owed act s) := by
  unfold takeItem
  split
  · exact .refl s
  · split
    · have h1 := settle_ages (.refl s) (l := owed)
      exact (h1.frame (by simp)).trans (hact _ _)
    · exact .refl s

theorem placeAnswer_incidents : (placeAnswer s).incidents = s.incidents := by
  unfold placeAnswer
  split
  · have hrecords : (clearPlaced s.port.onPlace s).records = s.records := by simp [clearPlaced]
    exact congrArg (fun x => x.2.2.2.2.2.2.2.1) hrecords
  · rfl
  · rfl

theorem readPort_incidents (n : Nat) : (readPort n s).incidents = s.incidents := by
  unfold readPort readAnswer
  split
  · rfl
  · split
    · rfl
    · split
      · dsimp only
        split <;> rfl
      · rfl
      · rfl

theorem frameDiscarded_incidents : (frameDiscarded s).incidents = s.incidents := by
  unfold frameDiscarded
  split
  · rfl
  · split
    · rfl
    · split <;> rfl

theorem emptyTransaction_incidents : (emptyTransaction s).incidents = s.incidents := by
  unfold emptyTransaction
  split
  · rfl
  · split <;> rfl

end

section
variable {s t : State}

theorem partStep_ages {act : State → State} (h : Ages s (act s)) (ht : partStep act s = .next t) : agesInSlot s t := by
  obtain rfl := Host.Outcome.next.inj ht
  split
  · exact (Ages.refl s).inSlot
  · exact h.inSlot

theorem malformedRequestFrame_inSlot {l : List Byte} (ht : exec (.malformedRequestFrame l) s = .next t) :
    agesInSlot s t := by
  change execMalformedRequestFrame l s = _ at ht
  unfold execMalformedRequestFrame at ht
  split at ht
  · obtain rfl := Host.Outcome.next.inj ht
    exact (Ages.of_incidents (emptyTransaction_incidents s)).inSlot
  · split at ht
    · obtain rfl := Host.Outcome.next.inj ht
      exact (Ages.of_incidents (readPort_incidents s _)).inSlot
    · split at ht
      · obtain rfl := Host.Outcome.next.inj ht
        unfold atPort
        split
        · exact (Ages.refl s).inSlot
        · split
          · exact (Ages.of_incidents rfl).inSlot
          · split <;> exact (Ages.of_incidents rfl).inSlot
      · rename_i c hp
        obtain ⟨h, owed, act, hexec, hframe⟩ := exec_request (isRequest_of_parseFrame hp)
        exact exec_request_inSlot (isRequest_of_parseFrame hp) ((hexec s).trans ((hframe s).symm.trans ht))

theorem exec_inSlot {c : Instr} (ht : exec c s = .next t) : agesInSlot s t := by
  cases c with
  | malformedRequestFrame l => exact malformedRequestFrame_inSlot ht
  | requestDiscarded => exact Host.Outcome.next.inj ht ▸ (Ages.of_incidents (frameDiscarded_incidents s)).inSlot
  | answerPlaced => exact partStep_ages (.of_incidents (placeAnswer_incidents s)) ht
  | readTransaction n => exact Host.Outcome.next.inj ht ▸ (Ages.of_incidents (readPort_incidents s n)).inSlot
  | telemetryByte l =>
    refine partStep_ages (.of_incidents ?_) ht
    split
    · simp
    · rfl
  | readingItem => exact partStep_ages (takeItem_ages s fun _ u => toPoint_ages u fun _ => reading_ages (.refl u)) ht
  | holdItem => exact partStep_ages (takeItem_ages s fun _ u => toPoint_ages u fun _ => holdReading_ages (.refl u)) ht
  | positionItem =>
    exact partStep_ages (takeItem_ages s fun _ u => toValve_ages u fun _ => positionReport_ages (.refl u)) ht
  | linkUpItem => exact partStep_ages (takeItem_ages s fun _ u => .of_incidents (by simp)) ht
  | linkDownItem => exact partStep_ages (takeItem_ages s fun _ u => linkDown_ages (.refl u)) ht
  | badItem => exact partStep_ages (takeItem_ages s fun _ u => .of_incidents (by simp)) ht
  | publication => exact partStep_ages (publication_ages (.refl s)) ht
  | secondEvent => exact partStep_ages (secondEvent_ages (.refl s)) ht
  | pointStale | incidentOverdue | offerExpiry | orderTimeout | windowEnd =>
    exact partStep_ages (doWork_ages (.refl s)) ht
  | coldReset e =>
    obtain rfl := Host.Outcome.next.inj ht
    intro n i j _ hj
    cases e <;> simp [resetEdge, resetBlocks, State.reset, Table.at?] at hj
  | _ => exact exec_request_inSlot rfl ht

end

/-- Settles O5: by what each command leaves of an incident that stays in its slot. -/
theorem incidentsKeepTheirDeadlines : Obligations.IncidentsKeepTheirDeadlines := by
  unfold Obligations.IncidentsKeepTheirDeadlines
  intro c s t n i j ht hi hj
  obtain ⟨hkind, hfirst, hdeadline, hover, hindoor, hdamage⟩ := exec_inSlot ht n i j hi hj
  exact ⟨hkind, hfirst, hdeadline, hover, hindoor, hdamage⟩

end Sys2Proof.Machine
end

section
/-! SUPPORT. The window end of a decay test: what it makes of a plan and of the incident that the plan names (R102, R135,
R167, R168), and O51. -/

namespace Sys2Proof.Machine

/-! ## The verdict of a window end (R135, R167) -/

/-- Every entry still TESTING is at its keep threshold or below (R167). -/
def TestData.holds (d : TestData) (keep : Nat) : Bool :=
  d.entries.all (fun e => decide (e.state = .dropped) || decide (e.latest ≤ e.p0 * keep / 256))

theorem windowVerdict_eq (d : TestData) (keep : Nat) :
    windowVerdict d keep = if d.holds keep then .tight else .passing := rfl

/-- A plan found TIGHT by the Verification Unit (R135). -/
def Plan.foundTight (q : Plan) : Plan :=
  if q.activeState = .secured then { q with verdict := .tight, activeState := .tight } else q

/-- A plan as the second event `now` leaves it, where its test has reached its window end (R167). -/
def Plan.windowEnded (now : Nat) (q : Plan) : Plan :=
  match q.test with
  | .running d =>
    if d.windowEnd ≤ now then
      if d.holds q.keep then Plan.foundTight { q with test := .ended d } else Plan.foundPassing { q with test := .ended d }
    else q
  | _ => q

section
variable {q : Plan} {d : TestData} {now : Nat}

theorem windowEnded_reached (ht : q.test = .running d) (hd : d.windowEnd ≤ now) : q.windowEnded now =
    if q.activeState = .secured then
      { q with test := .ended d, verdict := if d.holds q.keep then .tight else .passing,
               activeState := if d.holds q.keep then .tight else .passing }
    else { q with test := .ended d } := by
  rw [Plan.windowEnded, ht]
  simp only [if_pos hd, Plan.foundTight, Plan.foundPassing]
  split <;> split <;> rfl

theorem windowEnded_early (ht : q.test = .running d) (hd : now < d.windowEnd) : q.windowEnded now = q := by
  rw [Plan.windowEnded, ht]
  exact if_neg (not_le.2 hd)

theorem windowEnded_not_running (ht : ∀ d, q.test ≠ .running d) : q.windowEnded now = q := by
  unfold Plan.windowEnded
  split
  · rename_i d hd
    exact absurd hd (ht d)
  · rfl

theorem windowEnded_incident (q : Plan) (now : Nat) : (q.windowEnded now).incident = q.incident := by
  unfold Plan.windowEnded Plan.foundTight Plan.foundPassing
  split
  · split
    · split <;> split <;> rfl
    · rfl
  · rfl

end

/-! ## A plan found TIGHT -/

/-- The event of a plan found TIGHT makes the incident it names CONTROLLED (R102). -/
theorem tightEvent_becomes {i : Option Nat} {k : Nat} (h : i = some k) (s : State) :
    incidentBecomes k (fun i => { i with safety := .controlled }) s (planEvent .becomesTight i s) := by
  subst h
  have hset : incidentBecomes k (fun i => { i with safety := safetyAfter .becomesTight i.safety }) s
      (planEvent .becomesTight (some k) s) := setSafety_becomes k s _
  refine hset.congr fun i _ => ?_
  cases i.safety <;> rfl

section
variable {p : Nat} {s : State} {q : Plan} (hq : Table.at? s.plans p = some q)
include hq

theorem setVerdict_tight_secured (h : q.activeState = .secured) : setVerdict p .tight s =
    planEvent .becomesTight q.incident (markPlan p (s.putPlan p { q with verdict := .tight, activeState := .tight })) := by
  rw [setVerdict, hq]
  exact if_neg (by simpa using h)

theorem setVerdict_tight_linked (h : q.activeState = .secured) {k : Nat} (hk : q.incident = some k) :
    incidentBecomes k (fun i => { i with safety := .controlled }) s (setVerdict p .tight s) := by
  rw [setVerdict_tight_secured hq h]
  have hkept : (markPlan p (s.putPlan p { q with verdict := .tight, activeState := .tight })).incidents = s.incidents := by
    simp
  exact (Table.becomes.of_eq hkept).trans (tightEvent_becomes hk _)

theorem setVerdict_tight_unlinked (h : q.activeState = .secured) (hi : q.incident = none) :
    (setVerdict p .tight s).incidents = s.incidents := by
  rw [setVerdict_tight_secured hq h, hi]
  simp [planEvent]

end

theorem setVerdict_tight_becomes (p : Nat) (s : State) : planBecomes p Plan.foundTight s (setVerdict p .tight s) := by
  cases hq : Table.at? s.plans p with
  | none => rw [setVerdict_free p s hq]; exact .free hq _
  | some q =>
    by_cases h : q.activeState = .secured
    · rw [setVerdict_tight_secured hq h]
      have hput : planBecomes p Plan.foundTight s (s.putPlan p q.foundTight) := Table.becomes_put hq _
      rw [Plan.foundTight, if_pos h] at hput
      exact hput.same (by simp)
    · rw [setVerdict_unsecured hq h]
      refine (Table.becomes.of_eq rfl).congr fun x hx => ?_
      obtain rfl : q = x := Option.some.inj (hq.symm.trans hx)
      exact (if_neg h).symm

/-! ## The window end of one plan's test -/

section
variable {p : Nat} {s : State} {q : Plan} {d : TestData} (hq : Table.at? s.plans p = some q)
include hq

theorem endWindow_reached (ht : q.test = .running d) (hd : d.windowEnd ≤ s.clock.second) : endWindow p s =
    if d.holds q.keep then setVerdict p .tight (setTest p (.ended d) s)
    else setVerdict p .passing (setTest p (.ended d) s) := by
  rw [endWindow, hq]
  simp only [ht]
  rw [if_pos (show d.windowEnd ≤ s.now from hd), windowVerdict_eq]
  split <;> rfl

theorem endWindow_early (ht : q.test = .running d) (hd : s.clock.second < d.windowEnd) : endWindow p s = s := by
  rw [endWindow, hq]
  simp only [ht]
  exact if_neg (not_le.2 hd)

theorem endWindow_not_running (ht : ∀ d, q.test ≠ .running d) : endWindow p s = s := by
  rw [endWindow, hq]
  dsimp only
  split
  · rename_i d hd
    exact absurd hd (ht d)
  · rfl

end

theorem endWindow_free {p : Nat} {s : State} (hq : Table.at? s.plans p = none) : endWindow p s = s := by
  rw [endWindow, hq]

theorem at?_setTest_self {p : Nat} {s : State} {q : Plan} (hq : Table.at? s.plans p = some q) (t : DecayTest) :
    Table.at? (setTest p t s).plans p = some { q with test := t } := (setTest_becomes p s t).self hq

theorem endWindow_becomes (p : Nat) (s : State) :
    planBecomes p (Plan.windowEnded s.clock.second) s (endWindow p s) := by
  cases hq : Table.at? s.plans p with
  | none => rw [endWindow_free hq]; exact .free hq _
  | some q =>
    have hself {g : Plan → Plan} (h : g q = q.windowEnded s.clock.second) (y : Plan)
        (hy : Table.at? s.plans p = some y) : g y = y.windowEnded s.clock.second := by
      obtain rfl : q = y := Option.some.inj (hq.symm.trans hy)
      exact h
    by_cases ht : ∃ d, q.test = .running d
    · obtain ⟨d, ht⟩ := ht
      by_cases hd : d.windowEnd ≤ s.clock.second
      · rw [endWindow_reached hq ht hd]
        have hset := setTest_becomes p s (.ended d)
        split
        · rename_i h
          refine (hset.trans (setVerdict_tight_becomes p _)).congr (hself ?_)
          rw [Plan.windowEnded, ht]
          simp only [if_pos hd, if_pos h]
        · rename_i h
          refine (hset.trans (setVerdict_passing_becomes p _)).congr (hself ?_)
          rw [Plan.windowEnded, ht]
          simp only [if_pos hd, if_neg h]
      · rw [endWindow_early hq ht (not_le.1 hd)]
        exact (Table.becomes.of_eq rfl).congr (hself (windowEnded_early ht (not_le.1 hd)).symm)
    · rw [not_exists] at ht
      rw [endWindow_not_running hq ht]
      exact (Table.becomes.of_eq rfl).congr (hself (windowEnded_not_running ht).symm)

/-! ## The incidents -/

/-- The incident of a plan whose window end has given the verdict, as the state `u` grades it (R102). -/
def Incident.judged (u : State) (tight : Bool) (i : Incident) : Incident :=
  if tight then { i with safety := .controlled } else i.passing u

section
variable {p k : Nat} {s : State} {q : Plan} {d : TestData}

/-- A window end reaches no incident but the one that the plan names. -/
theorem endWindow_other (h : ∀ r, Table.at? s.plans p = some r → r.incident ≠ some k) :
    Table.at? (endWindow p s).incidents k = Table.at? s.incidents k := by
  cases hq : Table.at? s.plans p with
  | none => rw [endWindow_free hq]
  | some q =>
    by_cases ht : ∃ d, q.test = .running d
    · obtain ⟨d, ht⟩ := ht
      by_cases hd : d.windowEnd ≤ s.clock.second
      · have hended := at?_setTest_self hq (.ended d)
        have hkept : (setTest p (.ended d) s).incidents = s.incidents := by simp
        rw [endWindow_reached hq ht hd]
        by_cases hsec : q.activeState = .secured
        · cases hi : q.incident with
          | none =>
            split
            · rw [setVerdict_tight_unlinked hended hsec hi, hkept]
            · rw [setVerdict_passing_unlinked hended hsec hi, hkept]
          | some m =>
            have hne : k ≠ m := by rintro rfl; exact h q hq hi
            split
            · rw [(setVerdict_tight_linked hended hsec hi).other hne, hkept]
            · rw [(setVerdict_passing_linked hended hsec hi).other hne, hkept]
        · split <;> rw [setVerdict_unsecured hended hsec, hkept]
      · rw [endWindow_early hq ht (not_le.1 hd)]
    · rw [not_exists] at ht
      rw [endWindow_not_running hq ht]

theorem endWindow_judges (hq : Table.at? s.plans p = some q) (ht : q.test = .running d)
    (hd : d.windowEnd ≤ s.clock.second) (hsec : q.activeState = .secured) (hk : q.incident = some k) :
    incidentBecomes k (Incident.judged (endWindow p s) (d.holds q.keep)) s (endWindow p s) := by
  have hended := at?_setTest_self hq (.ended d)
  have hkept : (setTest p (.ended d) s).incidents = s.incidents := by simp
  have hjudged : Incident.judged (endWindow p s) (d.holds q.keep) =
      if d.holds q.keep then (fun i => { i with safety := .controlled }) else Incident.passing (endWindow p s) := by
    unfold Incident.judged
    split <;> rfl
  rw [hjudged, endWindow_reached hq ht hd]
  split
  · exact (Table.becomes.of_eq hkept).trans (setVerdict_tight_linked hended hsec hk)
  · exact (Table.becomes.of_eq hkept).trans (setVerdict_passing_linked hended hsec hk)

end

/-! ## Every test -/

section
variable {s : State} {l : List Nat}

theorem at?_foldl_endWindow (hl : l.Nodup) (a : Nat) :
    Table.at? (l.foldl (fun s p => endWindow p s) s).plans a =
      if a ∈ l then (Table.at? s.plans a).map (Plan.windowEnded s.clock.second) else Table.at? s.plans a :=
  at?_foldl_once (field := State.plans) (P := fun t => t.clock = s.clock) (fun t p ht => by simpa using ht)
    (fun t p ht => ht ▸ endWindow_becomes p t) hl rfl a

/-- A window end leaves the incident that a plan names. -/
theorem foldl_endWindow_names (hl : l.Nodup) {m : Nat} {r : Plan}
    (hr : Table.at? (l.foldl (fun s p => endWindow p s) s).plans m = some r) :
    ∃ r', Table.at? s.plans m = some r' ∧ r'.incident = r.incident := by
  rw [at?_foldl_endWindow hl] at hr
  split at hr
  · obtain ⟨r', hr', rfl⟩ := Option.map_eq_some_iff.1 hr
    exact ⟨r', hr', (windowEnded_incident r' _).symm⟩
  · exact ⟨r, hr, rfl⟩

/-- A run of window ends of plans that do not name an incident leaves it. -/
theorem foldl_endWindow_other {k : Nat} (h : ∀ p ∈ l, ∀ r, Table.at? s.plans p = some r → r.incident ≠ some k) :
    Table.at? (l.foldl (fun s p => endWindow p s) s).incidents k = Table.at? s.incidents k := by
  induction l generalizing s with
  | nil => rfl
  | cons p l ih =>
    rw [List.foldl_cons, ih, endWindow_other (h p List.mem_cons_self)]
    intro m hm r hr
    rw [endWindow_becomes p s m] at hr
    split at hr
    · obtain ⟨r', hr', rfl⟩ := Option.map_eq_some_iff.1 hr
      rw [windowEnded_incident]
      exact h m (List.mem_cons_of_mem p hm) r' hr'
    · exact h m (List.mem_cons_of_mem p hm) r hr

theorem at?_endWindows (hs : Table.rises s.plans) (a : Nat) : Table.at? (endWindows s).plans a =
    (Table.at? s.plans a).map (Plan.windowEnded s.clock.second) := by
  rw [endWindows, at?_foldl_endWindow (nodup_of_rising hs)]
  split
  · rfl
  · rename_i hmem
    rw [(Table.at?_none_iff _ _).2 (by rwa [← Bool.not_eq_true, ← Table.mem_keys])]
    rfl

/-- A regrade reads of the plans only the one that the incident names. -/
theorem regraded_of_plan {s t : State} {i : Incident} {p : Nat} (hi : i.plan = some p)
    (hplan : Table.at? t.plans p = Table.at? s.plans p) (h : t.segments = s.segments) (hp : t.points = s.points)
    (hr : t.register = s.register) (hc : t.clock = s.clock) : regraded t i = regraded s i := by
  have hscore : score t i = score s i := score_congr hp (by rw [h]) fun a ha => by
    obtain rfl : p = a := Option.some.inj (hi.symm.trans ha)
    exact hplan
  unfold regraded
  rw [hscore]
  simp [candidateDeadline, allowance, hr, State.now, hc]

theorem changesOnly_endWindows : changesOnly [.plans, .incidents, .notices, .onPlace] s (endWindows s) := by
  intro p hp
  cases p with
  | plans | incidents | notices | onPlace => simp at hp
  | port => exact same_port (by simp)
  | _ => simp [State.same]

/-- The incident that one plan names takes that plan's verdict. -/
theorem endWindows_judges (hs : Table.rises s.plans) {p k : Nat} {q : Plan} {d : TestData} {i : Incident}
    (hq : Table.at? s.plans p = some q) (ht : q.test = .running d) (hd : d.windowEnd ≤ s.clock.second)
    (hsec : q.activeState = .secured) (hk : q.incident = some k) (hi : Table.at? s.incidents k = some i)
    (hlink : i.plan = some p) (honly : ∀ m r, Table.at? s.plans m = some r → r.incident = some k → m = p) :
    Table.at? (endWindows s).incidents k = some (i.judged (endWindows s) (d.holds q.keep)) := by
  obtain ⟨l1, l2, hkeys⟩ := List.append_of_mem (Table.mem_keys_of_at? hq)
  have hnodup := nodup_of_rising hs
  rw [hkeys] at hnodup
  obtain ⟨hnodup1, hnodup2, hapart⟩ := List.nodup_append.1 hnodup
  obtain ⟨hp2, hnodup2⟩ := List.nodup_cons.1 hnodup2
  have hp1 : p ∉ l1 := fun h => hapart p h p List.mem_cons_self rfl
  let t1 := l1.foldl (fun s p => endWindow p s) s
  let t2 := endWindow p t1
  have hu : endWindows s = l2.foldl (fun s p => endWindow p s) t2 := by
    rw [endWindows, hkeys, List.foldl_append, List.foldl_cons]
  have hq1 : Table.at? t1.plans p = some q := by rw [at?_foldl_endWindow hnodup1, if_neg hp1, hq]
  have hi1 : Table.at? t1.incidents k = some i := by
    rw [foldl_endWindow_other, hi]
    intro m hm r hr hrk
    exact hp1 (honly m r hr hrk ▸ hm)
  have hi2 : Table.at? t2.incidents k = some (i.judged t2 (d.holds q.keep)) :=
    (endWindow_judges hq1 ht (by simpa [t1] using hd) hsec hk).self hi1
  have hi3 : Table.at? (endWindows s).incidents k = Table.at? t2.incidents k := by
    rw [hu]
    refine foldl_endWindow_other fun m hm r hr hrk => ?_
    have hm' : m ≠ p := fun h => hp2 (h ▸ hm)
    rw [(endWindow_becomes p t1).other hm'] at hr
    obtain ⟨r', hr', hname⟩ := foldl_endWindow_names hnodup1 hr
    exact hm' (honly m r' hr' (hname.trans hrk))
  have hjudged : i.judged (endWindows s) (d.holds q.keep) = i.judged t2 (d.holds q.keep) := by
    have hplan : Table.at? (endWindows s).plans p = Table.at? t2.plans p := by
      rw [hu, at?_foldl_endWindow hnodup2, if_neg hp2]
    unfold Incident.judged
    unfold Incident.passing
    rw [regraded_of_plan (i := { i with safety := .makingSafe }) hlink hplan (by simp [t2, t1]) (by simp [t2, t1])
      (by simp [t2, t1]) (by simp [t2, t1])]
  rw [hi3, hi2, hjudged]

end

/-- Settles O51: the work of the block on the records as they stand. -/
theorem windowEndGivesTheVerdict : Obligations.WindowEndGivesTheVerdict := by
  unfold Obligations.WindowEndGivesTheVerdict
  intro s hheld htables
  obtain ⟨-, -, -, -, -, ⟨hrises, -⟩, -⟩ := htables
  have hs : Table.rises (s.relieved .windowEnd).plans := hrises
  have hexec : exec .windowEnd s = .next (doWork .windowEnd s) := unheld_partStep hheld _
  refine ⟨fun hnot => by rw [hexec, doWork_unowed hnot], fun howed => ?_⟩
  have hplan (p : Nat) := at?_endWindows hs p
  refine ⟨endWindows (s.relieved .windowEnd), by rw [hexec, doWork_owed howed]; rfl, ?_, by simp [State.relieved],
    fun p hp => by rw [hplan]; simp [State.relieved, hp], fun p q hq => ?_⟩
  · exact ((changesOnly_relieved (w := .windowEnd)).mono (by simp)).trans (changesOnly_endWindows.mono (by simp))
  have hq' : Table.at? (endWindows (s.relieved .windowEnd)).plans p = some (q.windowEnded s.clock.second) := by
    rw [hplan]
    exact congrArg (Option.map _) hq
  refine ⟨fun d ht hd => ?_, fun d ht hd => ?_, fun ht => ?_, fun d k i ht hd hsec hk hi hlink honly => ?_,
    fun k hnone => ?_⟩
  · rw [hq', windowEnded_reached ht hd]
    rfl
  · rw [hq', windowEnded_early ht hd]
  · rw [hq', windowEnded_not_running ht]
  · have htight : Table.test (endWindows (s.relieved .windowEnd)).plans p (fun r => r.activeState = .tight) =
        d.holds q.keep := by
      rw [Table.test_some hq', windowEnded_reached ht hd, if_pos hsec]
      cases d.holds q.keep <;> rfl
    rw [htight, endWindows_judges hs hq ht hd hsec hk hi hlink honly]
    rfl
  · exact foldl_endWindow_other fun p _ r hr => hnone p r hr

end Sys2Proof.Machine
end

section
/-! SUPPORT. What the plans' operations read of the Order Unit's (R119, R146, R147): the changes of orders leave every field
of a valve but those of its order; the change of holds; and the start of a decay test (R164). -/

namespace Sys2Proof.Machine

/-! ## Changes of orders -/

/-- A valve without the fields of its order. -/
def Valve.unordered (a : Valve) : Valve :=
  { a with orderState := .none, orderSerial := none, followUp := false, waitingSince := none }

/-- From `s` to `u` a valve changes in the fields of its order only, and only ORDER is raised and valves flagged. -/
structure OrdersOnly (s u : State) : Prop where
  valves : ∀ v, (Table.at? u.valves v).map Valve.unordered = (Table.at? s.valves v).map Valve.unordered
  indicates : indicatesAmong [.order] [.valve] s u

@[refl] theorem OrdersOnly.refl (s : State) : OrdersOnly s s := ⟨fun _ => rfl, .refl s⟩

theorem OrdersOnly.trans {s t u : State} (h : OrdersOnly s t) (h' : OrdersOnly t u) : OrdersOnly s u :=
  ⟨fun v => (h'.valves v).trans (h.valves v), h.indicates.trans h'.indicates⟩

section
variable {s t : State}

theorem OrdersOnly.ite {c : Prop} [Decidable c] {a b : State} (ha : OrdersOnly s a) (hb : OrdersOnly s b) :
    OrdersOnly s (if c then a else b) := by
  split
  · exact ha
  · exact hb

theorem OrdersOnly.foldl {α : Type} {f : State → α → State}
    (hf : ∀ {t : State}, OrdersOnly s t → ∀ {a}, OrdersOnly s (f t a)) {l : List α} (h : OrdersOnly s t) :
    OrdersOnly s (l.foldl f t) := by
  induction l generalizing t with
  | nil => exact h
  | cons a l ih => exact ih (hf h)

/-- An operation that leaves the valves and sets nothing. -/
theorem OrdersOnly.frame {u : State} (h : OrdersOnly s t)
    (hu : u.valves = t.valves ∧ u.notices = t.notices ∧ u.port.onPlace = t.port.onPlace) : OrdersOnly s u := by
  obtain ⟨hv, hn, hp⟩ := hu
  exact h.trans ⟨fun v => by rw [hv], .of_same hn hp⟩

theorem changeValve_ordersOnly (h : OrdersOnly s t) {v : Nat} {f : Valve → Valve}
    (hf : ∀ a : Valve, (f a).unordered = a.unordered) : OrdersOnly s (changeValve v f t) := by
  refine h.trans ⟨fun w => ?_, (indicatesAmong_mark .valve v .order _).after (by simp) (by simp)⟩
  simp only [changeValve, markValve_frame, updValve_frame, Table.at?_upd]
  split
  · rw [Option.map_map]
    exact Option.map_congr fun a _ => hf a
  · rfl

theorem queueOrder_ordersOnly (h : OrdersOnly s t) {v : Nat} : OrdersOnly s (queueOrder v t) := by
  unfold queueOrder
  split
  · exact h
  · exact .ite (changeValve_ordersOnly (h.frame (by simp)) (by exact fun _ => rfl))
      (changeValve_ordersOnly h (by exact fun _ => rfl))

theorem settleOrder_ordersOnly (h : OrdersOnly s t) {x : OrderStatus} {v : Nat} : OrdersOnly s (settleOrder x v t) :=
  changeValve_ordersOnly h (by exact fun _ => rfl)

theorem removeOrder_ordersOnly (h : OrdersOnly s t) {a : Valve} : OrdersOnly s (removeOrder a t) := by
  unfold removeOrder
  split
  · exact h
  · exact h.frame (by simp)

theorem queueIfOwed_ordersOnly (h : OrdersOnly s t) {v : Nat} : OrdersOnly s (queueIfOwed v t) :=
  .ite (queueOrder_ordersOnly h) (settleOrder_ordersOnly h)

theorem drawWaitingFrom_ordersOnly (h : OrdersOnly s t) {k : Nat} : OrdersOnly s (drawWaitingFrom k t) := by
  induction k generalizing t with
  | zero => exact h
  | succ k ih =>
    unfold drawWaitingFrom
    split
    · split
      · exact h
      · exact ih (queueIfOwed_ordersOnly (settleOrder_ordersOnly h))
    · exact h

theorem drawWaiting_ordersOnly (h : OrdersOnly s t) : OrdersOnly s (drawWaiting t) := drawWaitingFrom_ordersOnly h

theorem wantedChange_ordersOnly (h : OrdersOnly s t) {v : Nat} : OrdersOnly s (wantedChange v t) := by
  unfold wantedChange
  split
  · exact h
  · refine .ite (.ite h (changeValve_ordersOnly h (by exact fun _ => rfl))) (.ite h ?_)
    split
    · exact queueIfOwed_ordersOnly (settleOrder_ordersOnly (removeOrder_ordersOnly h))
    · exact h
    · exact .ite h (queueIfOwed_ordersOnly h)

theorem wantedChanges_ordersOnly (h : OrdersOnly s t) {l : List Nat} : OrdersOnly s (wantedChanges l t) := by
  have h1 : OrdersOnly s (l.foldl (fun s v => wantedChange v s) t) := .foldl (fun h => wantedChange_ordersOnly h) h
  exact .ite (drawWaiting_ordersOnly h1) h1

theorem completeOrder_ordersOnly (h : OrdersOnly s t) {v : Nat} {a : Valve} {o : Order} :
    OrdersOnly s (completeOrder v a o t) := by
  have h1 : OrdersOnly s (settleOrder .none v (removeOrder a t)) := settleOrder_ordersOnly (removeOrder_ordersOnly h)
  exact .ite (queueIfOwed_ordersOnly h1) h1

theorem orderSteps_ordersOnly (h : OrdersOnly s t) {v : Nat} {a : Valve} {r : Reported} :
    OrdersOnly s (orderSteps v a r t) := by
  unfold orderSteps
  split
  · exact drawWaiting_ordersOnly (completeOrder_ordersOnly h)
  · refine .ite ?_ h
    have h1 : OrdersOnly s ((queueOrder v t).setOrderUnit
        { (queueOrder v t).orderUnit with unplanned := { set := true, valve := some v } }) :=
      (queueOrder_ordersOnly h (v := v)).frame (by simp)
    exact h1.trans ⟨fun _ => by simp, (indicatesAmong_raise .order _).mono (by simp) (by simp)⟩

/-- What a valve's record says without its order's fields is the same after a change of orders. -/
theorem OrdersOnly.test {u : State} (h : OrdersOnly s u) {P : Valve → Bool} (hP : ∀ a : Valve, P a.unordered = P a)
    (v : Nat) : Table.test u.valves v P = Table.test s.valves v P := by
  have hv := congrArg (fun o : Option Valve => o.any P) (h.valves v)
  simp only [Option.any_map, hP] at hv
  exact hv

end

/-! ## Changes of holds (R119) -/

/-- The hold count of valve `v` once those raised and those lowered have changed. -/
def holdAfter (raised lowered : List Nat) (v n : Nat) : Nat :=
  if v ∈ lowered then (if v ∈ raised then n + 1 else n) - 1 else if v ∈ raised then n + 1 else n

section
variable (s : State)

theorem at?_foldl_changeHold (f : Nat → Nat) {l : List Nat} (hl : l.Nodup) (v : Nat) :
    Table.at? (l.foldl (changeHold f) s).valves v =
      if v ∈ l then (Table.at? s.valves v).map (fun a => { a with hold := f a.hold }) else Table.at? s.valves v := by
  refine at?_foldl_once (field := State.valves) (f := changeHold f) (P := fun _ => True) (fun _ _ _ => trivial)
    (fun t w _ => ?_) hl trivial v
  have hupd : Table.becomes w (fun a => { a with hold := f a.hold }) t.valves
      (t.updValve w (fun a => { a with hold := f a.hold })).valves := Table.becomes_upd w _ _
  exact hupd.same (by simp [changeHold])

theorem at?_changeHolds {raised lowered : List Nat} (hr : raised.Nodup) (hl : lowered.Nodup) (v : Nat) :
    Table.at? (changeHolds raised lowered s).valves v =
      (Table.at? s.valves v).map (fun a => { a with hold := holdAfter raised lowered v a.hold }) := by
  rw [changeHolds, at?_foldl_changeHold _ _ hl, at?_foldl_changeHold _ _ hr]
  unfold holdAfter
  by_cases hvl : v ∈ lowered <;> by_cases hvr : v ∈ raised <;>
    cases Table.at? s.valves v <;> simp [hvl, hvr]

theorem changeHolds_among (raised lowered : List Nat) : indicatesAmong [] [.valve] s (changeHolds raised lowered s) := by
  have hstep (f : Nat → Nat) (t : State) (v : Nat) : indicatesAmong [] [.valve] t (changeHold f t v) :=
    (indicatesAmong_flag .valve v _).after (by simp) (by simp)
  exact (indicatesAmong.foldl (hstep _) raised s).trans (.foldl (hstep _) lowered _)

/-- What a valve's record says without its hold count is the same after a change of holds. -/
theorem test_changeHolds {raised lowered : List Nat} (hr : raised.Nodup) (hl : lowered.Nodup) {P : Valve → Bool}
    (hP : ∀ (a : Valve) n, P { a with hold := n } = P a) (v : Nat) :
    Table.test (changeHolds raised lowered s).valves v P = Table.test s.valves v P := by
  unfold Table.test
  rw [at?_changeHolds s hr hl]
  cases Table.at? s.valves v <;> simp [hP]

end

theorem allClosed_congr {s u : State} (h : ∀ v, Table.test u.valves v (fun a => a.reported = .closed) =
    Table.test s.valves v (fun a => a.reported = .closed)) (l : List Nat) : allClosed u l = allClosed s l := by
  unfold allClosed
  simp only [h]

/-! ## The start of a decay test (R164) -/

/-- The test that starts for a plan. -/
def startData (s : State) (q : Plan) : TestData :=
  { t0 := s.clock.second, windowEnd := min 4294967295 (s.clock.second + q.window * 60),
    entries := startEntries s q.target }

/-- The plan as the start of its test leaves it: UNTESTED where its target has no point to measure. -/
def Plan.started (s : State) (q : Plan) : Plan :=
  if startEntries s q.target = [] then { q with test := .ended (startData s q), verdict := .untested }
  else { q with test := .running (startData s q) }

theorem Plan.started_eq (s : State) (q : Plan) :
    q.started s = { q with test := (q.started s).test, verdict := (q.started s).verdict } := by
  unfold Plan.started
  split <;> rfl

theorem startEntries_eq (s : State) (target : Nat) : startEntries s target =
    (((Table.at? s.segments target).map (fun g => g.pointList)).getD []).filterMap (fun n =>
      (Table.at? s.points n).bind (fun p => if p.condition = .ok ∧ p.valid = true
        then p.lastPressure.map (fun x => { point := n, p0 := x, latest := x, state := .testing }) else none)) := by
  unfold startEntries
  refine congrFun (congrArg List.filterMap (funext fun n => ?_)) _
  cases hp : Table.at? s.points n with
  | none => rfl
  | some p =>
    obtain ⟨-, -, -, -, -, -, -, -, -, lastPressure, valid, -, condition, -, -, -, -⟩ := p
    cases condition <;> cases valid <;> cases lastPressure <;> simp

theorem Plan.started_congr {s u : State} (hsegments : u.segments = s.segments) (hpoints : u.points = s.points)
    (hclock : u.clock = s.clock) (q : Plan) : q.started u = q.started s := by
  have hentries : startEntries u q.target = startEntries s q.target := by
    rw [startEntries_eq, startEntries_eq, hsegments, hpoints]
  unfold Plan.started startData
  rw [hentries, hclock]

theorem started_testStarted (s : State) (q : Plan) (hv : q.verdict = .none) :
    testStarted s q.target q.window (q.started s).test (q.started s).verdict := by
  unfold testStarted Plan.started startData
  rw [startEntries_eq]
  dsimp only
  refine ⟨fun hne => ?_, fun hnone => ?_⟩
  · rw [if_neg hne]
    exact ⟨rfl, hv⟩
  · rw [if_pos hnone]
    exact ⟨rfl, rfl⟩

section
variable {p : Nat} {s : State} {q : Plan} (hq : Table.at? s.plans p = some q)
include hq

theorem startTest_eq : startTest p s =
    if startEntries s q.target = [] then setVerdict p .untested (setTest p (.ended (startData s q)) s)
    else setTest p (.running (startData s q)) s := by
  rw [startTest, hq]
  rfl

theorem startTest_becomes (hsec : q.activeState = .secured) : planBecomes p (Plan.started s) s (startTest p s) := by
  rw [startTest_eq hq]
  split
  · rename_i h
    refine ((setTest_becomes p s _).trans (setVerdict_untested_becomes p _)).congr fun r hr => ?_
    obtain rfl : q = r := Option.some.inj (hq.symm.trans hr)
    simp only [Plan.started, Plan.foundUntested, if_pos h, if_pos hsec]
  · rename_i h
    refine (setTest_becomes p s _).congr fun r hr => ?_
    obtain rfl : q = r := Option.some.inj (hq.symm.trans hr)
    simp only [Plan.started, if_neg h]

end

/-- The start of a test reaches no incident: UNTESTED is no event of R102. -/
theorem startTest_incidents (p : Nat) (s : State) : (startTest p s).incidents = s.incidents := by
  have huntested (t : State) : (setVerdict p .untested t).incidents = t.incidents := by
    unfold setVerdict
    split
    · rfl
    · split <;> simp
  cases hq : Table.at? s.plans p with
  | none => rw [startTest, hq]
  | some q =>
    rw [startTest_eq hq]
    split
    · rw [huntested]
      simp
    · simp

theorem startTest_among (p : Nat) (s : State) : indicatesAmong [.plan] [.plan] s (startTest p s) := by
  have huntested (t : State) : indicatesAmong [.plan] [.plan] t (setVerdict p .untested t) := by
    unfold setVerdict
    split
    · exact .refl t
    · exact .ite (.refl t) ((indicatesAmong_mark .plan p .plan _).after (by simp) (by simp))
  cases hq : Table.at? s.plans p with
  | none => rw [startTest, hq]; exact .refl s
  | some q =>
    rw [startTest_eq hq]
    exact .ite ((huntested _).after (by simp) (by simp)) (.of_same (by simp) (by simp))

end Sys2Proof.Machine
end

section
/-! SUPPORT. What a transfer makes of the plan, of the valves of both lists and of the incident that the plan names (R102,
R131, R132, R139). -/

namespace Sys2Proof.Machine

/-! ## The incident of a transfer (R102) -/

/-- The safety that a transfer from `q` leaves, where `issuing` says that the plan becomes ISSUING. -/
def transferSafety (q : Plan) (issuing : Bool) (x : Safety) : Safety :=
  if q.activeState = .idle then (if x = .opened then .makingSafe else x)
  else if q.activeState = .tight ∧ issuing = true then .makingSafe else x

/-- The incident as a transfer from `q` leaves it, graded by the state `u`. -/
def Incident.transferred (q : Plan) (issuing : Bool) (u : State) (i : Incident) : Incident :=
  let i' := { i with safety := transferSafety q issuing i.safety }
  if q.verdict = .passing then regraded u i' else i'

theorem safetyAfter_leavesIdle (x : Safety) :
    safetyAfter .leavesIdle x = if x = .opened then .makingSafe else x := by cases x <;> rfl

theorem safetyAfter_tightToIssuing (x : Safety) : safetyAfter .tightToIssuing x = .makingSafe := by cases x <;> rfl

theorem regradePlanIncident_sameGrading (i : Option Nat) (s : State) : SameGrading s (regradePlanIncident i s) :=
  ⟨by simp, by simp, by simp, by simp, by simp⟩

/-- The events and the regrade that end a transfer. -/
def tellIncident (q : Plan) (issuing : Bool) (s : State) : State :=
  let s1 := if q.activeState = .idle then planEvent .leavesIdle q.incident s else s
  let s2 := if q.activeState = .tight && issuing then planEvent .tightToIssuing q.incident s1 else s1
  if q.verdict = .passing then regradePlanIncident q.incident s2 else s2

section
variable (q : Plan) (issuing : Bool) (s : State)

@[simp] theorem tellIncident_frame : (tellIncident q issuing s).valves = s.valves ∧
    (tellIncident q issuing s).plans = s.plans := by
  simp [tellIncident]

theorem tellIncident_sameGrading : SameGrading s (tellIncident q issuing s) :=
  ⟨by simp [tellIncident], by simp [tellIncident], by simp [tellIncident], by simp [tellIncident], by simp [tellIncident]⟩

theorem tellIncident_among : indicatesAmong [.incident] [.incident] s (tellIncident q issuing s) := by
  unfold tellIncident
  extract_lets s1 s2
  have h1 : indicatesAmong [.incident] [.incident] s s1 := .ite (planEvent_among _ _ _) (.refl s)
  have h2 : indicatesAmong [.incident] [.incident] s s2 := .ite (h1.trans (planEvent_among _ _ _)) h1
  exact .ite (h2.trans (regradePlanIncident_among _ _)) h2

variable {q}

theorem tellIncident_unlinked (h : q.incident = none) : (tellIncident q issuing s).incidents = s.incidents := by
  simp [tellIncident, h, planEvent, regradePlanIncident]

theorem planEvent_becomes {i : Option Nat} {k : Nat} (h : i = some k) (e : PlanEvent) (s : State) :
    incidentBecomes k (fun i => { i with safety := safetyAfter e i.safety }) s (planEvent e i s) := by
  subst h
  exact setSafety_becomes k s _

theorem regradePlanIncident_becomes {i : Option Nat} {k : Nat} (h : i = some k) (s : State) :
    incidentBecomes k (regraded (regradePlanIncident i s)) s (regradePlanIncident i s) := by
  rw [regraded_congr (regradePlanIncident_sameGrading i s)]
  subst h
  exact regradeIncident_becomes k s

theorem tellIncident_linked {k : Nat} (h : q.incident = some k) :
    incidentBecomes k (Incident.transferred q issuing (tellIncident q issuing s)) s (tellIncident q issuing s) := by
  have hgrading := regraded_congr (tellIncident_sameGrading q issuing s)
  have hsafety : incidentBecomes k (fun i => { i with safety := transferSafety q issuing i.safety }) s
      (if q.activeState = .tight && issuing
        then planEvent .tightToIssuing q.incident (if q.activeState = .idle then planEvent .leavesIdle q.incident s else s)
        else if q.activeState = .idle then planEvent .leavesIdle q.incident s else s) := by
    by_cases hidle : q.activeState = .idle
    · have hevent := planEvent_becomes h .leavesIdle s
      simp only [safetyAfter_leavesIdle] at hevent
      simpa [transferSafety, hidle] using hevent
    · by_cases htight : q.activeState = .tight ∧ issuing = true
      · have hevent := planEvent_becomes h .tightToIssuing s
        simp only [safetyAfter_tightToIssuing] at hevent
        simpa [transferSafety, htight] using hevent
      · refine (Table.becomes.of_eq (by simp [hidle, htight])).congr fun i _ => ?_
        simp [transferSafety, hidle, htight]
  have hfun : Incident.transferred q issuing (tellIncident q issuing s) = fun i =>
      if q.verdict = .passing then regraded s { i with safety := transferSafety q issuing i.safety }
      else { i with safety := transferSafety q issuing i.safety } := by
    funext i
    rw [Incident.transferred, hgrading]
  rw [hfun]
  by_cases hpass : q.verdict = .passing
  · have htell : tellIncident q issuing s = regradePlanIncident q.incident _ := if_pos hpass
    have hregrade := hsafety.trans (regradePlanIncident_becomes h _)
    rw [← htell, hgrading] at hregrade
    simpa [hpass] using hregrade
  · have htell : tellIncident q issuing s = _ := if_neg hpass
    rw [← htell] at hsafety
    simpa [hpass] using hsafety

end

/-! ## The transfer -/

/-- The valves that a transfer adds to the list, and those that it drops. -/
def Plan.addedValves (q : Plan) : List Nat := q.draft.filter (fun v => !q.active.contains v)

def Plan.droppedValves (q : Plan) : List Nat := q.active.filter (fun v => !q.draft.contains v)

/-- The plan as a transfer makes it, but for what the valves' orders say of ORDER FAILED. -/
def Plan.movedTo (s : State) (q : Plan) : Plan :=
  if (transferred s q).activeState = .secured then (transferred s q).started s else transferred s q

theorem transferred_congr {s t : State} (q : Plan)
    (hr : ∀ v, Table.test t.valves v (fun a => a.reported = .closed) =
      Table.test s.valves v (fun a => a.reported = .closed))
    (hi : ∀ v, Table.test t.valves v (fun a => a.inoperable) = Table.test s.valves v (fun a => a.inoperable)) :
    transferred t q = transferred s q := by
  unfold transferred
  rw [allClosed_congr hr]
  simp only [hi]

theorem movedTo_activeState (s : State) (q : Plan) :
    (q.movedTo s).activeState = if allClosed s q.draft then .secured else .issuing := by
  unfold Plan.movedTo
  split
  · rw [Plan.started_eq]
    rfl
  · rfl

/-- What a transfer of plan `p`, with record `q`, makes of the state. -/
structure TransferredTo (p : Nat) (q : Plan) (s u : State) : Prop where
  plans : planBecomes p (fun q => { q.movedTo s with orderFailed := q.orderFailed && q.draft.any (stalled u) }) s u
  valves : ∀ v, (Table.at? u.valves v).map Valve.unordered = (Table.at? s.valves v).map (fun a =>
    Valve.unordered { a with hold := holdAfter q.addedValves q.droppedValves v a.hold })
  linked : ∀ k, q.incident = some k → incidentBecomes k (Incident.transferred q (!allClosed s q.draft) u) s u
  unlinked : q.incident = none → u.incidents = s.incidents
  indicates : indicatesAmong [.plan, .order, .incident] [.plan, .valve, .incident] s u
  marks : flagsIf .plan p true s u ∧ raisesIf .plan true s u

theorem changesOnly_transferCore (p : Nat) (s : State) :
    changesOnly [.valves, .plans, .incidents, .orders, .orderUnit, .notices, .onPlace] s (transferCore p s).1 := by
  intro x hx
  cases x with
  | valves | plans | incidents | orders | orderUnit | notices | onPlace => simp at hx
  | port => exact same_port (by simp)
  | _ => simp [State.same]

section
variable {p : Nat} {s : State} {q : Plan} (hq : Table.at? s.plans p = some q)
include hq

theorem transferCore_moved : (transferCore p s).2 = q.addedValves ++ q.droppedValves := by
  rw [transferCore, hq]
  rfl

theorem transferCore_transfers (hdraft : q.draft.Nodup) (hactive : q.active.Nodup) :
    TransferredTo p q s (transferCore p s).1 := by
  unfold transferCore
  split
  · rename_i hnone
    rw [hq] at hnone
    cases hnone
  rename_i r hr
  obtain rfl : q = r := Option.some.inj (hq.symm.trans hr)
  extract_lets raised lowered s1 q1 s2 s3 s4 s5 s6 s7 s8
  have hraised : raised.Nodup := hdraft.filter _
  have hlowered : lowered.Nodup := hactive.filter _
  have hq1 : q1 = transferred s q := transferred_congr q (test_changeHolds s hraised hlowered (fun _ _ => rfl))
    (test_changeHolds s hraised hlowered (fun _ _ => rfl))
  have hq2 : Table.at? s2.plans p = some (transferred s q) := by simp [s2, s1, hq1]
  have hstate : q1.activeState = if allClosed s q.draft then .secured else .issuing := by rw [hq1]; rfl
  have hmoved : planBecomes p (fun _ => q.movedTo s) s s3 := by
    have hput : planBecomes p (fun _ => transferred s q) s s2 :=
      (Table.becomes.of_eq (by simp [s1])).trans ((Table.becomes_put (t := s1.plans) (by simpa [s1] using hq)
        (fun _ => transferred s q)).same (by simp [s2, hq1]))
    have hstarted : (transferred s q).started s2 = (transferred s q).started s :=
      Plan.started_congr (by simp [s2, s1]) (by simp [s2, s1]) (by simp [s2, s1]) _
    unfold Plan.movedTo
    by_cases hsec : (transferred s q).activeState = .secured
    · simp only [if_pos hsec]
      have hs3 : s3 = startTest p s2 := if_pos (hq1 ▸ hsec)
      rw [hs3, ← hstarted]
      exact hput.trans (startTest_becomes hq2 hsec)
    · simp only [if_neg hsec]
      have hs3 : s3 = s2 := if_neg (hq1 ▸ hsec)
      rw [hs3]
      exact hput
  have hincidents : s5.incidents = s.incidents := by
    have hs3 : s3.incidents = s2.incidents := by
      simp only [s3]
      split
      · exact startTest_incidents p s2
      · rfl
    simp [s5, s4, hs3, s2, s1]
  have htell : s8 = tellIncident q (!allClosed s q.draft) s5 := by
    have hissuing : decide (q1.activeState = .issuing) = !allClosed s q.draft := by
      rw [hstate]
      cases allClosed s q.draft <;> rfl
    rw [← hissuing]
    rfl
  have hvalves8 : s8.valves = s4.valves := by simp [htell, s5]
  have horders : OrdersOnly s3 s4 := wantedChanges_ordersOnly (.refl s3)
  have hheld : indicatesAmong [] [.valve] s s1 := changeHolds_among s raised lowered
  have hlater : indicatesAmong [.plan, .order, .incident] [.plan, .valve, .incident] s2 s8 := by
    have h3 : indicatesAmong [.plan] [.plan] s2 s3 := .ite (startTest_among p s2) (.refl s2)
    have h5 : indicatesAmong [.order] [.valve] s3 s5 := horders.indicates.trans (.of_same (by simp [s5]) (by simp [s5]))
    have h8 : indicatesAmong [.incident] [.incident] s5 s8 := htell ▸ tellIncident_among _ _ s5
    exact ((h3.mono (by simp) (by simp)).trans (h5.mono (by simp) (by simp))).trans (h8.mono (by simp) (by simp))
  have hput : indicatesAmong [] [.valve] s (s1.putPlan p q1) := hheld.trans (.of_same (by simp) (by simp))
  have hmark := hput.mark .plan p .plan
  refine ⟨?_, fun v => ?_, fun k hk => ?_, fun hnone => ?_, ?_, hlater.keeps_flag hmark.1, hlater.keeps_raise hmark.2⟩
  · have hstalled (v : Nat) : stalled s8 v = stalled s4 v := by unfold stalled; rw [hvalves8]
    have hfailed : planBecomes p _ s3 s8 := ((Table.becomes.of_eq (by simp [s4])).trans (Table.becomes_upd p
      (fun r => { r with orderFailed := r.orderFailed && r.active.any (stalled s4) }) s4.plans)).same
        (by simp [htell, s5])
    refine (hmoved.trans hfailed).congr fun r hr => ?_
    obtain rfl : q = r := Option.some.inj (hq.symm.trans hr)
    have hfields : (q.movedTo s).orderFailed = q.orderFailed ∧ (q.movedTo s).active = q.draft := by
      unfold Plan.movedTo
      split
      · rw [Plan.started_eq]; exact ⟨rfl, rfl⟩
      · exact ⟨rfl, rfl⟩
    simp only [id, hfields, funext hstalled]
  · rw [hvalves8, horders.valves v]
    have hs3 : s3.valves = s1.valves := by
      simp only [s3]
      split <;> simp [s2]
    rw [hs3, at?_changeHolds s hraised hlowered, Option.map_map]
    rfl
  · rw [htell]
    exact (Table.becomes.of_eq hincidents).trans (tellIncident_linked _ s5 hk)
  · rw [htell, tellIncident_unlinked _ s5 hnone, hincidents]
  · exact ((hput.mono (by simp) (by simp)).trans ((indicatesAmong_mark .plan p .plan _).mono (by simp) (by simp))).trans
      hlater

end

end Sys2Proof.Machine
end

section
/-! SUPPORT. The transfer of a committed draft with no other plan RELEASING (R130 to R132), and O48. -/

namespace Sys2Proof.Machine

/-! ## The plan, the valves and the incident of a transfer, field by field -/

/-- What a transfer makes of its plan, but for ORDER FAILED. -/
theorem movedTo_spec (s : State) (q : Plan) :
    q.movedTo s = { q with draftState := .empty, editor := none, draft := [], active := q.draft
                           activeState := if allClosed s q.draft then .secured else .issuing
                           verdict := (q.movedTo s).verdict, test := (q.movedTo s).test
                           needsRevision := q.draft.any (fun v => Table.test s.valves v (fun a => a.inoperable)) } ∧
    ((q.movedTo s).activeState = .issuing → (q.movedTo s).verdict = .none ∧ (q.movedTo s).test = .none) ∧
    ((q.movedTo s).activeState = .secured →
      testStarted s q.target q.window (q.movedTo s).test (q.movedTo s).verdict) := by
  by_cases hsec : (transferred s q).activeState = .secured
  · have hmoved : q.movedTo s = (transferred s q).started s := if_pos hsec
    have hstate : ((transferred s q).started s).activeState = .secured := by rw [Plan.started_eq]; exact hsec
    rw [hmoved]
    refine ⟨Plan.started_eq s _, fun hissuing => ?_, fun _ => started_testStarted s (transferred s q) rfl⟩
    rw [hstate] at hissuing
    cases hissuing
  · have hmoved : q.movedTo s = transferred s q := if_neg hsec
    rw [hmoved]
    exact ⟨rfl, fun _ => ⟨rfl, rfl⟩, fun h => absurd h hsec⟩

theorem Valve.fields_of_unordered {a b : Valve} (h : b.unordered = a.unordered) :
    b.hold = a.hold ∧ b.reported = a.reported ∧ b.unconfirmed = a.unconfirmed ∧ b.inoperable = a.inoperable ∧
      b.lastReport = a.lastReport ∧ b.kind = a.kind ∧ b.endA = a.endA ∧ b.endB = a.endB ∧ b.normal = a.normal ∧
      b.operation = a.operation ∧ b.tag = a.tag := by
  simp only [Valve.unordered, Valve.mk.injEq] at h
  obtain ⟨hkind, hendA, hendB, hnormal, hoperation, htag, hreported, hunconfirmed, hinoperable, -, -, -, -, hhold,
    hlast⟩ := h
  exact ⟨hhold, hreported, hunconfirmed, hinoperable, hlast, hkind, hendA, hendB, hnormal, hoperation, htag⟩

theorem holdAfter_eq (q : Plan) (v n : Nat) : holdAfter q.addedValves q.droppedValves v n =
    if v ∈ q.draft ∧ v ∉ q.active then n + 1 else if v ∈ q.active ∧ v ∉ q.draft then n - 1 else n := by
  unfold holdAfter Plan.addedValves Plan.droppedValves
  by_cases hd : v ∈ q.draft <;> by_cases ha : v ∈ q.active <;> simp [hd, ha]

section
variable {p : Nat} {q : Plan} {s u : State} (h : TransferredTo p q s u)
include h

/-- The valve as a transfer leaves it, but for its order. -/
theorem TransferredTo.valve {v : Nat} {a : Valve} (ha : Table.at? s.valves v = some a) :
    ∃ a', Table.at? u.valves v = some a' ∧
      a'.unordered = Valve.unordered { a with hold := holdAfter q.addedValves q.droppedValves v a.hold } := by
  have hv := h.valves v
  rw [ha, Option.map_some] at hv
  exact Option.map_eq_some_iff.1 hv

theorem TransferredTo.incidents (k : Nat) : Table.at? u.incidents k = (Table.at? s.incidents k).map (fun i =>
    if q.incident = some k then i.transferred q (!allClosed s q.draft) u else i) := by
  cases hi : q.incident with
  | none => simp [h.unlinked hi]
  | some n =>
    rw [h.linked n hi k]
    by_cases hk : k = n
    · subst hk; simp
    · simp [hk, Ne.symm hk]

end

theorem releasingOthers_eq_nil {s : State} {p : Nat}
    (h : ∀ m r, Table.at? s.plans m = some r → m ≠ p → r.activeState ≠ .releasing) (l : List Nat) :
    releasingOthers s p l = [] := by
  unfold releasingOthers
  rw [List.filter_eq_nil_iff]
  intro m hm
  obtain ⟨r, hr⟩ : ∃ r, Table.at? s.plans m = some r := by
    rw [Table.mem_keys] at hm
    exact Option.isSome_iff_exists.1 hm
  by_cases hmp : m = p
  · simp [hmp]
  · simp [Table.test_some hr, h m r hr hmp]

/-- With no other plan RELEASING a transfer is its own plan's part alone. -/
theorem transfer_alone {p : Nat} {s : State} {q : Plan} (hq : Table.at? s.plans p = some q) (hdraft : q.draft.Nodup)
    (hactive : q.active.Nodup)
    (hothers : ∀ m r, Table.at? s.plans m = some r → m ≠ p → r.activeState ≠ .releasing) :
    transfer p s = (transferCore p s).1 := by
  have hplans := (transferCore_transfers hq hdraft hactive).plans
  unfold transfer
  dsimp only
  rw [releasingOthers_eq_nil]
  · rfl
  · intro m r hr hm
    rw [hplans.other hm] at hr
    exact hothers m r hr hm

theorem testStarted_congr {s u : State} (hsegments : u.segments = s.segments) (hpoints : u.points = s.points)
    (hclock : u.clock = s.clock) {target window : Nat} {t : DecayTest} {v : Verdict}
    (h : testStarted u target window t v) : testStarted s target window t v := by
  unfold testStarted at h ⊢
  rwa [hsegments, hpoints, hclock] at h

/-! ## COMMIT DRAFT -/

/-- The plan with its draft committed (R127). -/
def Plan.committed (q : Plan) : Plan := { q with draftState := .committed, editor := none }

section
variable {p : Nat} {s : State} {q : Plan}

theorem commitPlan_becomes (p : Nat) (s : State) : planBecomes p Plan.committed s (commitPlan p s) := by
  have hupd : planBecomes p Plan.committed s (s.updPlan p Plan.committed) := Table.becomes_upd p _ _
  exact hupd.same (by simp [commitPlan]; rfl)

theorem commitPlan_indicates (p : Nat) (s : State) : Indicates [.plan] [(.plan, p)] s (commitPlan p s) :=
  (Indicates.of_same (by simp) (by simp)).mark .plan p .plan

/-- An admitted COMMIT DRAFT passes the tests of R127. -/
theorem commitDraft_admitted {h : Header} (hm : s.model = .running) (hp : p < 64) (hq : Table.at? s.plans p = some q)
    (hw : inWindow s h.desk q.target = true) (hedit : q.draftState = .edit) (heditor : q.editor = some h.desk)
    (hne : q.draft ≠ []) : ∃ r, commitDraft h p s =
      (if q.mode.accepts q.activeState then transfer p (commitPlan p s) else commitPlan p s, r) ∧ r.result = .done := by
  have hready : Table.test (commitPlan p s).plans p Plan.ready = q.mode.accepts q.activeState := by
    rw [Table.test_some ((commitPlan_becomes p s).self hq)]
    simp [Plan.ready, Plan.committed, hne]
  unfold commitDraft
  rw [tested_passed]
  · simp only [hready]
    exact ⟨_, rfl, rfl⟩
  · simp [planTests, running_iff.2 hm, hp, Table.has_some hq, Table.test_some hq, hw, Plan.editedBy, hedit, heditor, hne,
      Config.planSlots]

end

theorem changesOnly_commitPlan (p : Nat) (s : State) : changesOnly [.plans, .notices, .onPlace] s (commitPlan p s) := by
  intro x hx
  cases x with
  | plans | notices | onPlace => simp at hx
  | port => exact same_port (by simp)
  | _ => simp [State.same]

/-- Settles O48: by the committing alone, or by the transfer that follows it. -/
theorem commitDraftWaitsOrTransfers : Obligations.CommitDraftWaitsOrTransfers := by
  unfold Obligations.CommitDraftWaitsOrTransfers
  intro h p s q hready hwell hm hp hq hw hedit heditor hne
  obtain ⟨r, hcommit, hdone⟩ := commitDraft_admitted hm hp hq hw hedit heditor hne
  have hexec : exec (.commitDraft h p) s = _ :=
    request_ready hready hwell h [.overdue, .timeout, .windowEnd] (commitDraft h p)
  rw [hcommit] at hexec
  have hbecomes := commitPlan_becomes p s
  refine ⟨fun hwaits => ?_, fun haccepts hdraft hactive hothers => ?_⟩
  · rw [hwaits] at hexec
    obtain ⟨hraises, hflags⟩ := commitPlan_indicates p s
    refine ⟨r, commitPlan p s, hexec, hdone, changesOnly_commitPlan p s, fun m => ?_, hraises, hflags⟩
    rw [hbecomes m]
    split
    · subst_vars; rw [hq]; rfl
    · rfl
  rw [haccepts, if_pos rfl] at hexec
  have hq1 : Table.at? (commitPlan p s).plans p = some q.committed := hbecomes.self hq
  have halone : transfer p (commitPlan p s) = _ := transfer_alone hq1 hdraft hactive fun m x hx hmp =>
    hothers m x ((hbecomes.other hmp).symm.trans hx) hmp
  rw [halone] at hexec
  have hvalves : (commitPlan p s).valves = s.valves := by simp
  have hparts := changesOnly_transferCore p (commitPlan p s)
  have htransfer := transferCore_transfers hq1 hdraft hactive
  generalize (transferCore p (commitPlan p s)).1 = u at hexec hparts htransfer
  obtain ⟨hrecord, hissuing, hsecured⟩ := movedTo_spec (commitPlan p s) q.committed
  have hclosed : allClosed (commitPlan p s) q.draft = allClosed s q.draft := by unfold allClosed; rw [hvalves]
  have hplan := htransfer.plans.self hq1
  obtain ⟨hflag, hraise⟩ := htransfer.marks
  have hindicated := commitPlan_indicates p s
  generalize q.committed.movedTo (commitPlan p s) = m at hplan hrecord hissuing hsecured
  have hstate : m.activeState = if allClosed s q.draft then .secured else .issuing := by
    rw [hrecord]
    exact congrArg (fun b : Bool => if b then ActiveState.secured else .issuing) hclosed
  have hturns : (!allClosed (commitPlan p s) q.draft) = true ↔ m.activeState = .issuing := by
    rw [hstate, hclosed]
    cases allClosed s q.draft <;> simp
  refine ⟨r, u, _, hexec, hdone, ((changesOnly_commitPlan p s).mono (by simp)).trans hparts, hplan,
    by rw [hrecord]; rfl, by rw [hrecord], by rw [hrecord], by rw [hrecord], by rw [hrecord]; rfl, by rw [hrecord]; rfl,
    by rw [hrecord]; rfl, by rw [hrecord]; rfl, by rw [hrecord]; rfl, by rw [hrecord]; rfl, hstate, hissuing,
    fun hsec => ?_, ?_, rfl, fun k => ?_, fun n hn => ?_, fun v a ha => ?_, ?_, ?_⟩
  · exact testStarted_congr (by simp) (by simp) (by simp) (hsecured hsec)
  · rw [hrecord, hvalves]
    rfl
  · rw [htransfer.incidents k]
    have hkept : (commitPlan p s).incidents = s.incidents := by simp
    rw [hkept]
    refine congrArg (fun f => (Table.at? s.incidents k).map f) (funext fun i => ?_)
    by_cases hk : q.incident = some k
    · rw [if_pos hk, if_pos (show q.committed.incident = some k from hk)]
      simp only [Incident.transferred, transferSafety, show q.committed.draft = q.draft from rfl, hturns]
      rfl
    · rw [if_neg hk, if_neg (show ¬ q.committed.incident = some k from hk)]
  · rw [htransfer.plans.other hn, hbecomes.other hn]
  · obtain ⟨a', ha', hfields⟩ := htransfer.valve (hvalves ▸ ha)
    obtain ⟨hhold, hreported, hunconfirmed, hinoperable, hlast, hrest⟩ := Valve.fields_of_unordered hfields
    exact ⟨a', ha', hhold.trans (holdAfter_eq _ v _), hreported, hunconfirmed, hinoperable, hlast, hrest⟩
  · exact hindicated.then_flags hflag
  · exact hindicated.then_raises hraise

end Sys2Proof.Machine
end

section
/-! SUPPORT. A position report as the event it is (R148 to R151), by a request or an item, and what it writes of a valve. -/

namespace Sys2Proof.Machine

/-! ## The two forms of a report -/

section
variable {s : State} {v : Nat} {pos : Reported} {a : Valve}

theorem exec_reportValve {h : Header} {code : Nat} (hs : s.ready) (hwell : wellFormed (.reportValve h v code) = true)
    (hm : s.model = .running) (hv : v < 6144) (hcode : Reported.ofCode? code = some pos)
    (hw : h.desk = 0 ∨ a.inWindow s h.desk = true) (ha : Table.at? s.valves v = some a) :
    ∃ r, exec (.reportValve h v code) s = .next (acting h.tag r (positionReport v pos s)) ∧ r.result = .done := by
  have hexec : exec (.reportValve h v code) s = _ :=
    request_ready hs hwell h [.overdue, .timeout, .windowEnd] (reportValve h v code)
  have htests : ∀ x ∈ valveTests h v (Reported.ofCode? code).isSome s, x.1 = true := by
    simp [valveTests, running_iff.2 hm, hv, hcode, Table.has_some ha, Table.test_some ha, hw, Config.valveSlots]
  rw [reportValve, tested_passed htests] at hexec
  simp only [hcode, Option.getD_some] at hexec
  exact ⟨_, hexec, rfl⟩

theorem exec_positionItem {i : Item} {rest : List Item} (hs : s.awake) (hq : s.intake.queue = i :: rest)
    (hk : i.sort = .position) (hp : pointByTag s i.tag = none) (hv : valveByTag s i.tag = some v)
    (hpos : positionOfCode i.value = pos) : exec .positionItem s = .next (positionReport v pos (s.taken rest)) := by
  have hexec : exec .positionItem s = _ := partStep_takeItem hs hq hk [.overdue, .timeout, .windowEnd] _
  have hp' : pointByTag (s.taken rest) i.tag = none := hp
  have hv' : valveByTag (s.taken rest) i.tag = some v := hv
  rw [hexec, toValve, hp']
  simp only [hv', hpos]

end

/-! ## What a report writes of a valve -/

section
variable {s : State} {v : Nat} {pos : Reported} {a : Valve} (ha : Table.at? s.valves v = some a)
include ha

/-- The state in which the plans hear of a report. -/
def reportWritten (v : Nat) (a : Valve) (pos : Reported) (s : State) : State :=
  orderSteps v a pos (writeReport v a pos s)

omit ha in
@[simp] theorem reportWritten_frame : (reportWritten v a pos s).plans = s.plans ∧
    (reportWritten v a pos s).incidents = s.incidents ∧ (reportWritten v a pos s).segments = s.segments ∧
    (reportWritten v a pos s).points = s.points ∧ (reportWritten v a pos s).register = s.register ∧
    (reportWritten v a pos s).clock = s.clock := by
  simp [reportWritten]

omit ha in
theorem reportWritten_among : indicatesAmong [.order] [.valve] s (reportWritten v a pos s) := by
  have hwritten : indicatesAmong [.order] [.valve] s (writeReport v a pos s) :=
    .ite ((indicatesAmong_mark .valve v .order _).after (by simp) (by simp)) (.of_same (by simp) (by simp))
  exact hwritten.trans (orderSteps_ordersOnly (.refl _)).indicates

/-- A report changes of the valves the position, the last report and "unconfirmed" of one, and orders. -/
theorem reportWritten_valves (w : Nat) : (Table.at? (reportWritten v a pos s).valves w).map Valve.unordered =
    (Table.at? s.valves w).map (fun b => (if w = v then b.reportedAt pos s.clock.second else b).unordered) := by
  have hwritten : Table.at? (writeReport v a pos s).valves w =
      (Table.at? s.valves w).map (fun b => if w = v then b.reportedAt pos s.clock.second else b) := by
    have hput : (writeReport v a pos s).valves = Table.put s.valves v (a.reportedAt pos s.clock.second) := by
      unfold writeReport
      split <;> simp [State.now]
    rw [hput, Table.at?_put]
    by_cases hw : w = v
    · subst hw; simp [ha]
    · simp [hw]
  rw [reportWritten, (orderSteps_ordersOnly (.refl _)).valves w, hwritten, Option.map_map]
  rfl

theorem test_reportWritten {P : Valve → Bool} (hP : ∀ b : Valve, P b.unordered = P b) (w : Nat) :
    Table.test (reportWritten v a pos s).valves w P =
      Table.test s.valves w (fun b => P (if w = v then b.reportedAt pos s.clock.second else b)) := by
  have hv := congrArg (fun o : Option Valve => o.any P) (reportWritten_valves (pos := pos) ha w)
  simp only [Option.any_map, hP] at hv
  exact hv

theorem positionReport_eq (hne : pos ≠ a.reported) : positionReport v pos s =
    if a.reported.passesGas != pos.passesGas then trigger (positionChanged v (reportWritten v a pos s))
    else positionChanged v (reportWritten v a pos s) := by
  rw [positionReport, ha]
  dsimp only
  rw [if_pos (show (a.reported != pos) = true by simpa using hne.symm)]
  rfl

end

end Sys2Proof.Machine
end

section
/-! SUPPORT. A change of a reported position as one plan hears of it, with no draft waiting (R102, R134, R136, R164, R169),
and O53. -/

namespace Sys2Proof.Machine

/-! ## One plan -/

/-- The plan's valves are all reported CLOSED, as far as its active state says (R134). -/
def Plan.secure (q : Plan) : Prop :=
  q.activeState = .secured ∨ q.activeState = .tight ∨ q.activeState = .passing

/-- Valve `v` is reported in another position than CLOSED. -/
def leftClosed (t : State) (v : Nat) : Bool := Table.test t.valves v (fun a => a.reported != .closed)

/-- The plan back in ISSUING (R134). -/
def Plan.returned (q : Plan) : Plan := { q with activeState := .issuing, verdict := .none, test := .none }

/-- The plan SECURED, with its test started (R164). -/
def Plan.securedNow (t : State) (q : Plan) : Plan := Plan.started t { q with activeState := .secured }

/-- A plan on which a report has no transfer or release to end. -/
def Plan.calm (v : Nat) (q : Plan) : Prop := v ∈ q.active → q.activeState ≠ .releasing ∧ q.draftState ≠ .committed

/-- A plan as a change of the reported position of valve `v` leaves it in the state `t`. -/
def Plan.reevaluated (t : State) (v : Nat) (q : Plan) : Plan :=
  if v ∉ q.active then q
  else
    match q.activeState with
    | .issuing => if allClosed t q.active then q.securedNow t else q
    | .secured => if leftClosed t v then q.returned else q
    | .tight => if leftClosed t v then q.returned else q
    | .passing => if leftClosed t v then q.returned else q
    | _ => q

/-- The state with plan `p` SECURED, before its test starts. -/
def securePlan (p : Nat) (t : State) : State := markPlan p (t.updPlan p (fun q => { q with activeState := .secured }))

section
variable {t : State} {v p : Nat} {q : Plan}

/-- All that a change of the reported position of `v` can do on plan `p` where no draft waits and the plan is not
RELEASING. -/
theorem reevaluate_cases (hq : Table.at? t.plans p = some q) (hcalm : q.calm v) :
    (reevaluate v p t = t ∧ q.reevaluated t v = q) ∨
    (v ∈ q.active ∧ q.activeState = .issuing ∧ allClosed t q.active = true ∧ q.reevaluated t v = q.securedNow t ∧
      reevaluate v p t = startTest p (securePlan p t)) ∨
    (v ∈ q.active ∧ q.secure ∧ leftClosed t v = true ∧ q.reevaluated t v = q.returned ∧
      reevaluate v p t = returnToIssuing p q t) := by
  by_cases hv : v ∈ q.active
  swap
  · exact .inl ⟨by rw [reevaluate, hq]; simp [hv], if_pos hv⟩
  obtain ⟨hreleasing, hcommitted⟩ := hcalm hv
  have hmodel : reevaluate v p t = match q.activeState with
      | .idle => t
      | .issuing => if allClosed t q.active then becomeSecured p t else t
      | .secured => if leftClosed t v then returnToIssuing p q t else t
      | .tight => if leftClosed t v then returnToIssuing p q t else t
      | .passing => if leftClosed t v then returnToIssuing p q t else t
      | .releasing => testPlan p t := by
    rw [reevaluate, hq]
    dsimp only
    rw [if_neg (by simpa using hv)]
    rfl
  have hrecord : q.reevaluated t v = match q.activeState with
      | .issuing => if allClosed t q.active then q.securedNow t else q
      | .secured => if leftClosed t v then q.returned else q
      | .tight => if leftClosed t v then q.returned else q
      | .passing => if leftClosed t v then q.returned else q
      | _ => q := if_neg (not_not.2 hv)
  have hreturns (hsecure : q.secure)
      (h1 : reevaluate v p t = if leftClosed t v then returnToIssuing p q t else t)
      (h2 : q.reevaluated t v = if leftClosed t v then q.returned else q) :
      (reevaluate v p t = t ∧ q.reevaluated t v = q) ∨ (q.secure ∧ leftClosed t v = true ∧
        q.reevaluated t v = q.returned ∧ reevaluate v p t = returnToIssuing p q t) := by
    by_cases hleft : leftClosed t v = true
    · rw [if_pos hleft] at h1 h2
      exact .inr ⟨hsecure, hleft, h2, h1⟩
    · rw [if_neg hleft] at h1 h2
      exact .inl ⟨h1, h2⟩
  cases hstate : q.activeState <;> rw [hstate] at hmodel hrecord
  case idle => exact .inl ⟨hmodel, hrecord⟩
  case releasing => exact absurd hstate hreleasing
  case issuing =>
    dsimp only at hmodel hrecord
    by_cases hclosed : allClosed t q.active = true
    · rw [if_pos hclosed] at hmodel hrecord
      refine .inr (.inl ⟨hv, rfl, hclosed, hrecord, hmodel.trans ?_⟩)
      have hready : Table.test (securePlan p t).plans p Plan.ready = false := by
        have hsecured : Table.at? (securePlan p t).plans p = some { q with activeState := .secured } := by
          simp [securePlan, Table.at?_upd, hq]
        rw [Table.test_some hsecured]
        simp [Plan.ready, hcommitted]
      rw [becomeSecured]
      exact if_neg (by simpa [securePlan] using hready)
    · rw [if_neg hclosed] at hmodel hrecord
      exact .inl ⟨hmodel, hrecord⟩
  case secured => rcases hreturns (.inl hstate) hmodel hrecord with h | h <;> tauto
  case tight => rcases hreturns (.inr (.inl hstate)) hmodel hrecord with h | h <;> tauto
  case passing => rcases hreturns (.inr (.inr hstate)) hmodel hrecord with h | h <;> tauto

/-! ## What the plan's hearing reads, and what it leaves -/

/-- What a plan's hearing of a report reads beside the plan is the same. -/
structure SameReading (s u : State) : Prop where
  valves : u.valves = s.valves
  segments : u.segments = s.segments
  points : u.points = s.points
  register : u.register = s.register
  clock : u.clock = s.clock

theorem SameReading.refl (s : State) : SameReading s s := ⟨rfl, rfl, rfl, rfl, rfl⟩

theorem SameReading.trans {s t u : State} (h : SameReading s t) (h' : SameReading t u) : SameReading s u :=
  ⟨h'.valves.trans h.valves, h'.segments.trans h.segments, h'.points.trans h.points, h'.register.trans h.register,
    h'.clock.trans h.clock⟩

theorem reevaluated_congr {s u : State} (h : SameReading s u) (q : Plan) : q.reevaluated u v = q.reevaluated s v := by
  have hclosed : allClosed u q.active = allClosed s q.active := by unfold allClosed; rw [h.valves]
  have hleft : leftClosed u v = leftClosed s v := by unfold leftClosed; rw [h.valves]
  have hsecured : q.securedNow u = q.securedNow s := Plan.started_congr h.segments h.points h.clock _
  unfold Plan.reevaluated
  rw [hclosed, hleft, hsecured]

theorem securedNow_eq (t : State) (q : Plan) : q.securedNow t = { q with
    activeState := .secured, verdict := (q.securedNow t).verdict, test := (q.securedNow t).test } :=
  Plan.started_eq t _

/-- What stays of a plan, and what state a plan is in that changed. -/
theorem reevaluated_keeps (t : State) (q : Plan) : (q.reevaluated t v).active = q.active ∧
    (q.reevaluated t v).incident = q.incident ∧ (q.reevaluated t v).draftState = q.draftState ∧
    ((q.reevaluated t v).activeState = q.activeState ∨ (q.reevaluated t v).activeState = .secured ∨
      (q.reevaluated t v).activeState = .issuing) := by
  have hreturned : q.returned.active = q.active ∧ q.returned.incident = q.incident ∧
      q.returned.draftState = q.draftState ∧ q.returned.activeState = .issuing := ⟨rfl, rfl, rfl, rfl⟩
  have hsecured : (q.securedNow t).active = q.active ∧ (q.securedNow t).incident = q.incident ∧
      (q.securedNow t).draftState = q.draftState ∧ (q.securedNow t).activeState = .secured := by
    rw [securedNow_eq]; exact ⟨rfl, rfl, rfl, rfl⟩
  unfold Plan.reevaluated
  split
  · exact ⟨rfl, rfl, rfl, .inl rfl⟩
  · split
    · split
      · obtain ⟨h1, h2, h3, h4⟩ := hsecured
        exact ⟨h1, h2, h3, .inr (.inl h4)⟩
      · exact ⟨rfl, rfl, rfl, .inl rfl⟩
    case h_5 => exact ⟨rfl, rfl, rfl, .inl rfl⟩
    all_goals
      split
      · obtain ⟨h1, h2, h3, h4⟩ := hreturned
        exact ⟨h1, h2, h3, .inr (.inr h4)⟩
      · exact ⟨rfl, rfl, rfl, .inl rfl⟩

theorem reevaluated_calm (t : State) (h : q.calm v) : (q.reevaluated t v).calm v := by
  obtain ⟨hactive, -, hdraft, hstate⟩ := reevaluated_keeps (v := v) t q
  intro hv
  obtain ⟨hreleasing, hcommitted⟩ := h (hactive ▸ hv)
  refine ⟨?_, hdraft ▸ hcommitted⟩
  rcases hstate with h | h | h <;> rw [h]
  · exact hreleasing
  · simp
  · simp

/-! ## The flags that a plan's hearing sets -/

/-- From `s` to `u` no plan but `p` is flagged. -/
def flagsOnePlan (p : Nat) (s u : State) : Prop :=
  ∃ ms fs, Indicates ms fs s u ∧ ∀ x ∈ fs, x.1 = .plan → x.2 = p

theorem flagsOnePlan.of_among {ns : List Notice} {cs : List RecordClass} {s u : State} (h : indicatesAmong ns cs s u)
    (hc : .plan ∉ cs) (p : Nat) : flagsOnePlan p s u := by
  obtain ⟨ms, fs, hi, -, hf⟩ := h
  exact ⟨ms, fs, hi, fun x hx hplan => absurd (hplan ▸ hf x hx) hc⟩

theorem flagsOnePlan.trans {s t u : State} (h : flagsOnePlan p s t) (h' : flagsOnePlan p t u) : flagsOnePlan p s u := by
  obtain ⟨ms, fs, hi, hf⟩ := h
  obtain ⟨ms', fs', hi', hf'⟩ := h'
  exact ⟨_, _, hi.trans hi', fun x hx => (List.mem_append.1 hx).elim (hf x) (hf' x)⟩

theorem flagsOnePlan.refl (p : Nat) (s : State) : flagsOnePlan p s s := ⟨_, _, .refl s, by simp⟩

theorem flagsOnePlan_mark (p : Nat) (s : State) : flagsOnePlan p s (markPlan p s) :=
  ⟨_, _, (Indicates.refl s).mark .plan p .plan, by simp⟩

theorem flagsOnePlan.after {s t u : State} (h : flagsOnePlan p t u)
    (hsame : t.notices = s.notices ∧ t.port.onPlace = s.port.onPlace) : flagsOnePlan p s u := by
  obtain ⟨ms, fs, hi, hf⟩ := h
  exact ⟨_, _, (Indicates.of_same hsame.1 hsame.2).trans hi, by simpa using hf⟩

theorem flagsOnePlan.other {s u : State} (h : flagsOnePlan p s u) {m : Nat} (hm : m ≠ p) : flagsIf .plan m false s u := by
  obtain ⟨ms, fs, hi, hf⟩ := h
  have hnot : (RecordClass.plan, m) ∉ fs := fun hmem => hm (hf _ hmem rfl)
  simpa [hnot] using hi.flags .plan m

/-- A flag and a notice that are set stay set. -/
theorem flagsOnePlan.keeps {s t u : State} (h' : flagsOnePlan p t u) {m : Nat}
    (h : flagsIf .plan m true s t ∧ raisesIf .plan true s t) : flagsIf .plan m true s u ∧ raisesIf .plan true s u := by
  obtain ⟨ms, fs, ⟨⟨-, -, -, hraises⟩, hflags⟩, -⟩ := h'
  exact ⟨flagsIf_trans h.1 (hflags .plan m), raisesIf_trans h.2 (hraises .plan)⟩

theorem startTest_flagsOnePlan (p : Nat) (t : State) : flagsOnePlan p t (startTest p t) := by
  have huntested (t : State) : flagsOnePlan p t (setVerdict p .untested t) := by
    unfold setVerdict
    split
    · exact .refl p t
    · split
      · exact .refl p t
      · exact (flagsOnePlan_mark p _).after (by simp)
  cases hq : Table.at? t.plans p with
  | none => rw [startTest, hq]; exact .refl p t
  | some q =>
    rw [startTest_eq hq]
    split
    · exact (huntested _).after (by simp)
    · exact (flagsOnePlan.refl p _).after (by simp)

/-! ## The return to ISSUING (R102, R134, R169) -/

/-- The incident of a plan that returns to ISSUING, graded by the state `u`. -/
def Incident.returned (q : Plan) (u : State) (i : Incident) : Incident :=
  if q.activeState = .tight then { i with safety := .makingSafe }
  else if q.activeState = .passing then regraded u i else i

/-- The plan's record written, before its incident hears of it. -/
def putReturned (p : Nat) (q : Plan) (t : State) : State := markPlan p (t.putPlan p q.returned)

theorem returnToIssuing_passing (h : q.activeState ≠ .tight) (hv : q.verdict = .passing) :
    returnToIssuing p q t = regradePlanIncident q.incident (putReturned p q t) := by
  simp [returnToIssuing, h, hv, putReturned, Plan.returned]

theorem returnToIssuing_tight (h : q.activeState = .tight) (hv : q.verdict ≠ .passing) :
    returnToIssuing p q t = planEvent .tightToIssuing q.incident (putReturned p q t) := by
  simp [returnToIssuing, h, hv, putReturned, Plan.returned]

theorem returnToIssuing_plain (h : q.activeState ≠ .tight) (hv : q.verdict ≠ .passing) :
    returnToIssuing p q t = putReturned p q t := by
  simp [returnToIssuing, h, hv, putReturned, Plan.returned]

theorem returnToIssuing_becomes (hq : Table.at? t.plans p = some q) :
    planBecomes p (fun _ => q.returned) t (returnToIssuing p q t) := by
  have hput : planBecomes p (fun _ => q.returned) t (t.putPlan p q.returned) := Table.becomes_put hq _
  exact hput.same (by simp [returnToIssuing, Plan.returned])

/-- After its mark a return to ISSUING flags no plan. -/
theorem returnToIssuing_after : indicatesAmong [.incident] [.incident] (putReturned p q t) (returnToIssuing p q t) := by
  unfold returnToIssuing
  extract_lets s1 s2
  have h2 : indicatesAmong [.incident] [.incident] s1 s2 := .ite (planEvent_among _ _ _) (.refl s1)
  exact .ite (h2.trans (regradePlanIncident_among _ _)) h2

/-- A return to ISSUING reaches no incident but the one that the plan names. -/
theorem returnToIssuing_other {k : Nat} (h : q.incident ≠ some k) :
    Table.at? (returnToIssuing p q t).incidents k = Table.at? t.incidents k := by
  have hevent (s : State) : Table.at? (planEvent .tightToIssuing q.incident s).incidents k = Table.at? s.incidents k := by
    cases hi : q.incident with
    | none => rfl
    | some m => exact (planEvent_becomes rfl _ s).other fun hk => h (hk ▸ hi)
  have hregrade (s : State) : Table.at? (regradePlanIncident q.incident s).incidents k = Table.at? s.incidents k := by
    cases hi : q.incident with
    | none => rfl
    | some m => exact (regradePlanIncident_becomes rfl s).other fun hk => h (hk ▸ hi)
  unfold returnToIssuing
  dsimp only
  split
  · rw [hregrade]
    split
    · rw [hevent]; simp
    · simp
  · split
    · rw [hevent]; simp
    · simp

theorem returnToIssuing_linked {k : Nat} (hsecure : q.secure) (hlegal : q.testLegal) (hk : q.incident = some k) :
    incidentBecomes k (Incident.returned q (returnToIssuing p q t)) t (returnToIssuing p q t) := by
  have hput : (putReturned p q t).incidents = t.incidents := by simp [putReturned]
  have hverdict : q.verdict = .passing ↔ q.activeState = .passing := by
    unfold Plan.testLegal at hlegal
    unfold Plan.secure at hsecure
    split at hlegal
    · obtain ⟨h1 | h1 | h1, -⟩ := hlegal <;> simp [h1] at hsecure
    · obtain ⟨h1, h2, -⟩ := hlegal
      simp [h1, h2]
    · rcases hlegal with ⟨h1, h2⟩ | ⟨h1, h2⟩ | ⟨h1, h2⟩ <;> simp [h1, h2]
  by_cases htight : q.activeState = .tight
  · have hnot : q.verdict ≠ .passing := fun h => by simp [hverdict.1 h] at htight
    rw [returnToIssuing_tight htight hnot]
    refine (Table.becomes.of_eq hput).trans ((planEvent_becomes hk .tightToIssuing _).congr fun i _ => ?_)
    rw [safetyAfter_tightToIssuing, Incident.returned, if_pos htight]
  · by_cases hpassing : q.activeState = .passing
    · rw [returnToIssuing_passing htight (hverdict.2 hpassing)]
      refine (Table.becomes.of_eq hput).trans ((regradePlanIncident_becomes hk _).congr fun i _ => ?_)
      rw [Incident.returned, if_neg htight, if_pos hpassing]
    · rw [returnToIssuing_plain htight (fun h => hpassing (hverdict.1 h))]
      refine (Table.becomes.of_eq hput).congr fun i _ => ?_
      rw [Incident.returned, if_neg htight, if_neg hpassing]
      rfl

/-! ## The hearing of one plan -/

section
variable (hq : Table.at? t.plans p = some q) (hcalm : q.calm v)
include hq hcalm

theorem reevaluate_becomes : planBecomes p (Plan.reevaluated t v) t (reevaluate v p t) := by
  have hself {g : Plan → Plan} (h : g q = q.reevaluated t v) (x : Plan) (hx : Table.at? t.plans p = some x) :
      g x = x.reevaluated t v := by
    obtain rfl : q = x := Option.some.inj (hq.symm.trans hx)
    exact h
  rcases reevaluate_cases hq hcalm with ⟨hstate, hrecord⟩ | ⟨-, -, -, hrecord, hstate⟩ | ⟨-, -, -, hrecord, hstate⟩ <;>
    rw [hstate]
  · exact (Table.becomes.of_eq rfl).congr (hself hrecord.symm)
  · have hupd : planBecomes p (fun q => { q with activeState := .secured }) t (securePlan p t) := by
      have h : planBecomes p (fun q => { q with activeState := .secured }) t
          (t.updPlan p (fun q => { q with activeState := .secured })) := Table.becomes_upd p _ _
      exact h.same (by simp [securePlan])
    have hstarted : Plan.started (securePlan p t) = Plan.started t :=
      funext (Plan.started_congr (by simp [securePlan]) (by simp [securePlan]) (by simp [securePlan]))
    have htest := startTest_becomes (hupd.self hq) rfl
    rw [hstarted] at htest
    exact (hupd.trans htest).congr (hself hrecord.symm)
  · exact (returnToIssuing_becomes hq).congr (hself hrecord.symm)

theorem reevaluate_sameReading : SameReading t (reevaluate v p t) := by
  rcases reevaluate_cases hq hcalm with ⟨h, -⟩ | ⟨-, -, -, -, h⟩ | ⟨-, -, -, -, h⟩ <;> rw [h]
  · exact .refl t
  · exact ⟨by simp [securePlan], by simp [securePlan], by simp [securePlan], by simp [securePlan], by simp [securePlan]⟩
  · exact ⟨by simp, by simp, by simp, by simp, by simp⟩

theorem reevaluate_flagsOnePlan : flagsOnePlan p t (reevaluate v p t) := by
  rcases reevaluate_cases hq hcalm with ⟨h, -⟩ | ⟨-, -, -, -, h⟩ | ⟨-, -, -, -, h⟩ <;> rw [h]
  · exact .refl p t
  · exact ((flagsOnePlan_mark p _).after (by simp)).trans (startTest_flagsOnePlan p _)
  · exact ((flagsOnePlan_mark p _).after (by simp)).trans (.of_among returnToIssuing_after (by simp) p)

/-- A plan that changes is flagged, with its notice. -/
theorem reevaluate_marks (hne : q.reevaluated t v ≠ q) :
    flagsIf .plan p true t (reevaluate v p t) ∧ raisesIf .plan true t (reevaluate v p t) := by
  have hmark (u : State) (hn : u.notices = t.notices) (hp : u.port.onPlace = t.port.onPlace) :
      flagsIf .plan p true t (markPlan p u) ∧ raisesIf .plan true t (markPlan p u) :=
    (indicatesAmong.of_same (ns := []) (cs := []) hn hp).mark .plan p .plan
  rcases reevaluate_cases hq hcalm with ⟨-, h⟩ | ⟨-, -, -, -, h⟩ | ⟨-, -, -, -, h⟩
  · exact absurd h hne
  · rw [h]
    exact (startTest_flagsOnePlan p _).keeps (hmark _ (by simp) (by simp))
  · rw [h]
    exact (flagsOnePlan.of_among returnToIssuing_after (by simp) p).keeps (hmark _ (by simp) (by simp))

theorem reevaluate_unchanged (h : q.reevaluated t v = q) : flagsIf .plan p false t (reevaluate v p t) := by
  rcases reevaluate_cases hq hcalm with ⟨hstate, -⟩ | ⟨hv, hstate, -, hrecord, -⟩ | ⟨hv, hsecure, -, hrecord, -⟩
  · rw [hstate]
    exact (flagsOnePlan.refl (p + 1) t).other (by omega)
  · have := congrArg Plan.activeState (hrecord.symm.trans h)
    rw [securedNow_eq, hstate] at this
    cases this
  · have := congrArg Plan.activeState (hrecord.symm.trans h)
    rcases hsecure with h' | h' | h' <;> rw [h'] at this <;> cases this

/-- A hearing reaches no incident but the one that a plan names whose valve left CLOSED. -/
theorem reevaluate_incident {k : Nat} (h : leftClosed t v = true → v ∈ q.active → q.incident ≠ some k) :
    Table.at? (reevaluate v p t).incidents k = Table.at? t.incidents k := by
  rcases reevaluate_cases hq hcalm with ⟨hstate, -⟩ | ⟨-, -, -, -, hstate⟩ | ⟨hv, -, hleft, -, hstate⟩ <;> rw [hstate]
  · rw [startTest_incidents]
    simp [securePlan]
  · exact returnToIssuing_other (h hleft hv)

theorem reevaluate_linked {k : Nat} (hv : v ∈ q.active) (hleft : leftClosed t v = true) (hlegal : q.testLegal)
    (hk : q.incident = some k) :
    incidentBecomes k (Incident.returned q (reevaluate v p t)) t (reevaluate v p t) := by
  have hopen : ¬ q.secure → Incident.returned q (reevaluate v p t) = id := by
    intro hnot
    funext i
    have htight : q.activeState ≠ .tight := fun h => hnot (.inr (.inl h))
    have hpassing : q.activeState ≠ .passing := fun h => hnot (.inr (.inr h))
    rw [Incident.returned, if_neg htight, if_neg hpassing]
    rfl
  rcases reevaluate_cases hq hcalm with ⟨hstate, hrecord⟩ | ⟨-, -, hclosed, -, -⟩ | ⟨-, hsecure, -, -, hstate⟩
  · rw [hopen, hstate]
    · exact .of_eq rfl
    · intro hsecure
      have hreturned : q.reevaluated t v = q.returned := by
        unfold Plan.reevaluated
        rw [if_neg (not_not.2 hv)]
        rcases hsecure with h | h | h <;> rw [h] <;> exact if_pos hleft
      have := congrArg Plan.activeState (hreturned.symm.trans hrecord)
      rcases hsecure with h' | h' | h' <;> rw [h'] at this <;> cases this
  · have hone := List.all_eq_true.1 hclosed v hv
    unfold leftClosed Table.test at hleft
    unfold Table.test at hone
    cases ha : Table.at? t.valves v with
    | none => simp [ha] at hleft
    | some a => simp [ha] at hleft hone; exact absurd hone hleft
  · rw [hstate]
    exact returnToIssuing_linked hsecure hlegal hk

end

end

/-! ## Every plan -/

/-- Some plans hear of a change of valve `v`, one after the other. -/
def hearAll (v : Nat) (l : List Nat) (s : State) : State := l.foldl (fun s p => reevaluate v p s) s

/-- As plans hear of a change of valve `v` in the state `s`, what they read is that of `s`, and none of them is to
transfer or to end its release. -/
structure Hears (v : Nat) (s t : State) : Prop where
  reading : SameReading s t
  calm : ∀ m r, Table.at? t.plans m = some r → r.calm v

section
variable {v k : Nat} {s t : State} (h : Hears v s t)
include h

theorem Hears.becomes (p : Nat) : planBecomes p (Plan.reevaluated s v) t (reevaluate v p t) := by
  cases hq : Table.at? t.plans p with
  | none =>
    have hsame : reevaluate v p t = t := by rw [reevaluate, hq]
    rw [hsame]
    exact .free hq _
  | some q =>
    have hcongr : Plan.reevaluated t v = Plan.reevaluated s v := funext (reevaluated_congr h.reading)
    exact hcongr ▸ reevaluate_becomes hq (h.calm p q hq)

theorem Hears.step (p : Nat) : Hears v s (reevaluate v p t) := by
  refine ⟨h.reading.trans ?_, fun m r hr => ?_⟩
  · cases hq : Table.at? t.plans p with
    | none => rw [reevaluate, hq]; exact .refl t
    | some q => exact reevaluate_sameReading hq (h.calm p q hq)
  · rw [h.becomes p m] at hr
    split at hr
    · obtain ⟨r', hr', rfl⟩ := Option.map_eq_some_iff.1 hr
      exact reevaluated_calm s (h.calm m r' hr')
    · exact h.calm m r hr

theorem Hears.flagsOnePlan (p : Nat) : flagsOnePlan p t (reevaluate v p t) := by
  cases hq : Table.at? t.plans p with
  | none => rw [reevaluate, hq]; exact .refl p t
  | some q => exact reevaluate_flagsOnePlan hq (h.calm p q hq)

theorem Hears.incident (p : Nat) (hk : ∀ q, Table.at? t.plans p = some q → leftClosed s v = true → v ∈ q.active →
    q.incident ≠ some k) : Table.at? (reevaluate v p t).incidents k = Table.at? t.incidents k := by
  cases hq : Table.at? t.plans p with
  | none => rw [reevaluate, hq]
  | some q =>
    refine reevaluate_incident hq (h.calm p q hq) fun hleft => hk q hq ?_
    unfold leftClosed at hleft ⊢
    rwa [h.reading.valves] at hleft

theorem Hears.foldl (l : List Nat) : Hears v s (hearAll v l t) :=
  List.foldlRecOn l _ h fun _ ht p _ => ht.step p

theorem Hears.at?_foldl {l : List Nat} (hl : l.Nodup) (m : Nat) :
    Table.at? (hearAll v l t).plans m =
      if m ∈ l then (Table.at? t.plans m).map (Plan.reevaluated s v) else Table.at? t.plans m :=
  at?_foldl_once (field := State.plans) (P := Hears v s) (fun _ p ht => ht.step p) (fun _ p ht => ht.becomes p) hl h m

/-- A run over other plans leaves a plan's flag, and keeps what is raised. -/
theorem Hears.foldl_indicates {l : List Nat} {p : Nat} (hp : p ∉ l) : ∃ ms fs,
    Indicates ms fs t (hearAll v l t) ∧ (RecordClass.plan, p) ∉ fs := by
  refine List.foldlRecOn (motive := fun u => Hears v s u ∧ ∃ ms fs, Indicates ms fs t u ∧ (RecordClass.plan, p) ∉ fs)
    l _ ⟨h, _, _, .refl t, by simp⟩ (fun u hu m hm => ⟨hu.1.step m, ?_⟩) |>.2
  obtain ⟨hhears, ms, fs, hi, hnot⟩ := hu
  obtain ⟨ms', fs', hi', hf'⟩ := hhears.flagsOnePlan m
  refine ⟨_, _, hi.trans hi', fun hmem => (List.mem_append.1 hmem).elim hnot fun hmem' => hp ?_⟩
  rw [show p = m from hf' _ hmem' rfl]
  exact hm

theorem Hears.foldl_incident {l : List Nat} (hl : l.Nodup) (hk : ∀ p ∈ l, ∀ q, Table.at? t.plans p = some q →
    leftClosed s v = true → v ∈ q.active → q.incident ≠ some k) :
    Table.at? (hearAll v l t).incidents k = Table.at? t.incidents k := by
  induction l generalizing t with
  | nil => rfl
  | cons p l ih =>
    obtain ⟨hp, hl'⟩ := List.nodup_cons.1 hl
    have hcons : hearAll v (p :: l) t = hearAll v l (reevaluate v p t) := rfl
    rw [hcons, ih (h.step p) hl', h.incident p (hk p List.mem_cons_self)]
    intro m hm q hq
    rw [(h.becomes p).other (fun heq => hp (heq ▸ hm))] at hq
    exact hk m (List.mem_cons_of_mem p hm) q hq

end

section
variable {v p : Nat} {s : State} {q : Plan} (hs : Table.rises s.plans) (hq : Table.at? s.plans p = some q)
  (hcalm : ∀ m r, Table.at? s.plans m = some r → r.calm v)
include hs hcalm

theorem positionChanged_plans (m : Nat) : Table.at? (positionChanged v s).plans m =
    (Table.at? s.plans m).map (Plan.reevaluated s v) := by
  have hhears : Hears v s s := ⟨.refl s, hcalm⟩
  rw [show positionChanged v s = hearAll v (Table.keys s.plans) s from rfl, hhears.at?_foldl (nodup_of_rising hs)]
  split
  · rfl
  · rename_i hmem
    rw [(Table.at?_none_iff _ _).2 (by rwa [← Bool.not_eq_true, ← Table.mem_keys])]
    rfl

/-- No incident changes but those that plans name whose valve left CLOSED. -/
theorem positionChanged_incident {k : Nat} (h : leftClosed s v = true → ∀ m r, Table.at? s.plans m = some r →
    v ∈ r.active → r.incident ≠ some k) :
    Table.at? (positionChanged v s).incidents k = Table.at? s.incidents k := by
  have hhears : Hears v s s := ⟨.refl s, hcalm⟩
  exact hhears.foldl_incident (nodup_of_rising hs) fun m _ r hr hleft => h hleft m r hr

include hq

/-- The hearing of one plan among those of the others. -/
theorem positionChanged_split : ∃ l1 l2 : List Nat, p ∉ l1 ∧ l1.Nodup ∧ p ∉ l2 ∧ l2.Nodup ∧
    positionChanged v s = hearAll v l2 (reevaluate v p (hearAll v l1 s)) ∧
    Hears v s (hearAll v l1 s) ∧
    Table.at? (hearAll v l1 s).plans p = some q := by
  have hhears : Hears v s s := ⟨.refl s, hcalm⟩
  obtain ⟨l1, l2, hkeys⟩ := List.append_of_mem (Table.mem_keys_of_at? hq)
  have hnodup := nodup_of_rising hs
  rw [hkeys] at hnodup
  obtain ⟨hnodup1, hnodup2, hapart⟩ := List.nodup_append.1 hnodup
  obtain ⟨hp2, hnodup2⟩ := List.nodup_cons.1 hnodup2
  have hp1 : p ∉ l1 := fun h => hapart p h p List.mem_cons_self rfl
  refine ⟨l1, l2, hp1, hnodup1, hp2, hnodup2, ?_, hhears.foldl l1, ?_⟩
  · rw [positionChanged, hkeys, List.foldl_append, List.foldl_cons]
    rfl
  · rw [hhears.at?_foldl hnodup1, if_neg hp1, hq]

theorem positionChanged_flags : flagsIf .plan p (decide (q.reevaluated s v ≠ q)) s (positionChanged v s) ∧
    (q.reevaluated s v ≠ q → raisesIf .plan true s (positionChanged v s)) := by
  obtain ⟨l1, l2, hp1, -, hp2, -, hsplit, hhears, hq1⟩ := positionChanged_split hs hq hcalm
  have hself : Hears v s s := ⟨.refl s, hcalm⟩
  obtain ⟨ms1, fs1, hi1, hnot1⟩ := hself.foldl_indicates hp1
  obtain ⟨ms2, fs2, hi2, hnot2⟩ := (hhears.step p).foldl_indicates hp2
  have hrecord := reevaluated_congr (v := v) hhears.reading q
  have hcalm1 := hhears.calm p q hq1
  rw [hsplit]
  by_cases hchange : q.reevaluated s v = q
  · have hmid := reevaluate_unchanged hq1 hcalm1 (hrecord.trans hchange)
    have hall := flagsIf_trans (flagsIf_trans (hi1.flags .plan p) hmid) (hi2.flags .plan p)
    refine ⟨by simpa [hnot1, hnot2, hchange] using hall, fun h => absurd hchange h⟩
  · obtain ⟨hflag, hraise⟩ := reevaluate_marks hq1 hcalm1 (fun h => hchange (hrecord.symm.trans h))
    obtain ⟨⟨-, -, -, hraises2⟩, hflags2⟩ := hi2
    have hall := flagsIf_trans (hi1.then_flags hflag) (hflags2 .plan p)
    refine ⟨by simpa [hchange] using hall, fun _ => ?_⟩
    simpa using raisesIf_trans (hi1.then_raises hraise) (hraises2 .plan)

/-- The incident that one plan names and no other plan of the valve hears of the return to ISSUING. -/
theorem positionChanged_linked {k : Nat} {i : Incident} (hlegal : q.testLegal) (hv : v ∈ q.active)
    (hleft : leftClosed s v = true) (hk : q.incident = some k) (hi : Table.at? s.incidents k = some i)
    (hlink : i.plan = some p)
    (honly : ∀ m r, Table.at? s.plans m = some r → v ∈ r.active → r.incident = some k → m = p) :
    Table.at? (positionChanged v s).incidents k = some (i.returned q (positionChanged v s)) := by
  obtain ⟨l1, l2, hp1, hl1, hp2, hl2, hsplit, hhears, hq1⟩ := positionChanged_split hs hq hcalm
  have hself : Hears v s s := ⟨.refl s, hcalm⟩
  have hi1 : Table.at? (hearAll v l1 s).incidents k = some i := by
    rw [hself.foldl_incident hl1, hi]
    intro m hm r hr _ hvr hrk
    exact hp1 (honly m r hr hvr hrk ▸ hm)
  have hleft1 : leftClosed (hearAll v l1 s) v = true := by
    unfold leftClosed at hleft ⊢
    rwa [hhears.reading.valves]
  have hi2 := (reevaluate_linked hq1 (hhears.calm p q hq1) hv hleft1 hlegal hk).self hi1
  have hhears2 := hhears.step p
  have hfinal : SameReading (reevaluate v p (hearAll v l1 s)) (positionChanged v s) := by
    have h1 := hhears2.reading
    have h2 := (hhears2.foldl l2).reading
    rw [← hsplit] at h2
    exact ⟨h2.valves.trans h1.valves.symm, h2.segments.trans h1.segments.symm, h2.points.trans h1.points.symm,
      h2.register.trans h1.register.symm, h2.clock.trans h1.clock.symm⟩
  have hplan : Table.at? (positionChanged v s).plans p =
      Table.at? (reevaluate v p (hearAll v l1 s)).plans p := by
    rw [hsplit, hhears2.at?_foldl hl2, if_neg hp2]
  have hkept : Table.at? (positionChanged v s).incidents k =
      Table.at? (reevaluate v p (hearAll v l1 s)).incidents k := by
    rw [hsplit]
    refine hhears2.foldl_incident hl2 fun m hm r hr _ hvr hrk => ?_
    have hne : m ≠ p := fun h => hp2 (h ▸ hm)
    rw [(hhears.becomes p).other hne, hself.at?_foldl hl1] at hr
    split at hr
    · obtain ⟨r', hr', rfl⟩ := Option.map_eq_some_iff.1 hr
      obtain ⟨hactive, hincident, -⟩ := reevaluated_keeps (v := v) s r'
      exact hne (honly m r' hr' (hactive ▸ hvr) (hincident ▸ hrk))
    · exact hne (honly m r hr hvr hrk)
  have hgraded : i.returned q (positionChanged v s) =
      i.returned q (reevaluate v p (hearAll v l1 s)) := by
    unfold Incident.returned
    rw [regraded_of_plan hlink hplan hfinal.segments hfinal.points hfinal.register hfinal.clock]
  rw [hkept, hi2, hgraded]

end

/-! ## A report with its plans' hearing -/

/-- From `s` to `u` a report of `pos` of valve `v` is heard by the plans, which read it in the state `w`. -/
structure Heard (v : Nat) (pos : Reported) (s w u : State) : Prop where
  plans : ∀ m, Table.at? u.plans m = (Table.at? s.plans m).map (Plan.reevaluated w v)
  marks : ∀ p q, Table.at? s.plans p = some q → flagsIf .plan p (decide (q.reevaluated w v ≠ q)) s u ∧
    (q.reevaluated w v ≠ q → raisesIf .plan true s u)
  incident : ∀ k, (pos = .closed ∨ ∀ m r, Table.at? s.plans m = some r → v ∈ r.active → r.incident ≠ some k) →
    Table.at? u.incidents k = Table.at? s.incidents k
  linked : ∀ p q k i, Table.at? s.plans p = some q → q.testLegal → v ∈ q.active → pos ≠ .closed →
    q.incident = some k → Table.at? s.incidents k = some i → i.plan = some p →
    (∀ m r, Table.at? s.plans m = some r → v ∈ r.active → r.incident = some k → m = p) →
    Table.at? u.incidents k = some (i.returned q u)
  left : leftClosed w v = (pos != .closed)
  closed : ∀ l, v ∈ l → (allClosed w l = true ↔ pos = .closed ∧
    ∀ x ∈ l, x ≠ v → ∃ b, Table.at? s.valves x = some b ∧ b.reported = .closed)
  tests : ∀ target window t x, testStarted w target window t x → testStarted s target window t x

section
variable {v : Nat} {pos : Reported} {s w u : State} {a : Valve}

/-- The report of a POSITION item is the report of a desk, but for the intake queue. -/
theorem Heard.of_taken {rest : List Item} (h : Heard v pos (s.taken rest) w u) : Heard v pos s w u :=
  ⟨h.plans, h.marks, h.incident, h.linked, h.left, h.closed, h.tests⟩

theorem leftClosed_reportWritten (ha : Table.at? s.valves v = some a) :
    leftClosed (reportWritten v a pos s) v = (pos != .closed) := by
  unfold leftClosed
  rw [test_reportWritten ha (fun _ => rfl), Table.test_some ha, if_pos rfl]
  rfl

theorem allClosed_reportWritten (ha : Table.at? s.valves v = some a) {l : List Nat} (hv : v ∈ l) :
    allClosed (reportWritten v a pos s) l = true ↔ pos = .closed ∧
      ∀ x ∈ l, x ≠ v → ∃ b, Table.at? s.valves x = some b ∧ b.reported = .closed := by
  have hself : Table.test (reportWritten v a pos s).valves v (fun b => b.reported = .closed) = true ↔ pos = .closed := by
    rw [test_reportWritten ha (fun _ => rfl), Table.test_some ha, if_pos rfl]
    exact decide_eq_true_iff
  have hother {x : Nat} (hx : x ≠ v) : Table.test (reportWritten v a pos s).valves x (fun b => b.reported = .closed) = true ↔
      ∃ b, Table.at? s.valves x = some b ∧ b.reported = .closed := by
    rw [test_reportWritten ha (fun _ => rfl)]
    simp [Table.test, hx, Option.any_eq_true]
  unfold allClosed
  rw [List.all_eq_true]
  constructor
  · intro h
    exact ⟨hself.1 (h v hv), fun x hx hne => (hother hne).1 (h x hx)⟩
  · rintro ⟨hpos, hrest⟩ x hx
    by_cases hne : x = v
    · subst hne; exact hself.2 hpos
    · exact (hother hne).2 (hrest x hx hne)

theorem positionReport_heard (ha : Table.at? s.valves v = some a) (hne : pos ≠ a.reported) (hs : Table.rises s.plans)
    (hcalm : ∀ m r, Table.at? s.plans m = some r → r.calm v) :
    Heard v pos s (reportWritten v a pos s) (positionReport v pos s) := by
  have hframe := reportWritten_frame (s := s) (v := v) (pos := pos) (a := a)
  obtain ⟨hplans, hincidents, hsegments, hpoints, -, hclock⟩ := hframe
  have hs' : Table.rises (reportWritten v a pos s).plans := hplans.symm ▸ hs
  have hcalm' : ∀ m r, Table.at? (reportWritten v a pos s).plans m = some r → r.calm v := hplans.symm ▸ hcalm
  have hu : (positionReport v pos s).plans = (positionChanged v (reportWritten v a pos s)).plans ∧
      (positionReport v pos s).incidents = (positionChanged v (reportWritten v a pos s)).incidents ∧
      (positionReport v pos s).notices = (positionChanged v (reportWritten v a pos s)).notices ∧
      (positionReport v pos s).port.onPlace = (positionChanged v (reportWritten v a pos s)).port.onPlace ∧
      SameGrading (positionChanged v (reportWritten v a pos s)) (positionReport v pos s) := by
    rw [positionReport_eq ha hne]
    split
    · exact ⟨by simp, by simp, by simp, by simp, by simp, by simp, by simp, by simp, by simp⟩
    · exact ⟨rfl, rfl, rfl, rfl, .refl _⟩
  obtain ⟨huplans, huincidents, hunotices, huport, hugrading⟩ := hu
  obtain ⟨ms, fs, hi, hms, hfs⟩ := reportWritten_among (s := s) (v := v) (a := a) (pos := pos)
  have hleft := leftClosed_reportWritten (pos := pos) ha
  refine ⟨fun m => ?_, fun p q hq => ?_, fun k hk => ?_, fun p q k i hq hlegal hv hpos hk hi hlink honly => ?_, hleft,
    fun l hv => allClosed_reportWritten ha hv, fun target window t x => testStarted_congr hsegments hpoints hclock⟩
  · rw [huplans, positionChanged_plans hs' hcalm', hplans]
  · obtain ⟨hflag, hraise⟩ := positionChanged_flags hs' (hplans.symm ▸ hq) hcalm'
    have hnot : (RecordClass.plan, p) ∉ fs := fun hmem => by simpa using hfs _ hmem
    have hend : Indicates [] [] (positionChanged v (reportWritten v a pos s)) (positionReport v pos s) :=
      .of_same hunotices huport
    obtain ⟨⟨-, -, -, hendRaises⟩, hendFlags⟩ := hend
    have hflags := flagsIf_trans (flagsIf_trans (hi.flags .plan p) hflag) (hendFlags .plan p)
    refine ⟨by simpa [hnot] using hflags, fun hchange => ?_⟩
    simpa using raisesIf_trans (hi.then_raises (hraise hchange)) (hendRaises .plan)
  · rw [huincidents, positionChanged_incident hs' hcalm', hincidents]
    rw [hleft, hplans]
    intro hnot
    exact hk.resolve_left (by simpa using hnot)
  · rw [huincidents, positionChanged_linked hs' (hplans.symm ▸ hq) hcalm' hlegal hv (by simpa [hleft] using hpos) hk
      (hincidents.symm ▸ hi) hlink (hplans.symm ▸ honly)]
    unfold Incident.returned
    rw [regraded_congr hugrading]

/-- Either form of a report is heard, and answered as a form with an answer is. -/
theorem exec_report_heard {c : Instr} (hs : s.awake) (htables : s.tablesLegal) (ha : Table.at? s.valves v = some a)
    (hne : pos ≠ a.reported) (hcalm : ∀ m r, Table.at? s.plans m = some r → r.calm v)
    (hc : (∃ h code, c = .reportValve h v code ∧ s.listening ∧ wellFormed c = true ∧ s.model = .running ∧ v < 6144 ∧
        Reported.ofCode? code = some pos ∧ (h.desk = 0 ∨ a.inWindow s h.desk = true)) ∨
      (∃ i rest, c = .positionItem ∧ s.intake.queue = i :: rest ∧ i.sort = .position ∧ pointByTag s i.tag = none ∧
        valveByTag s i.tag = some v ∧ positionOfCode i.value = pos)) :
    ∃ t w u, exec c s = .next t ∧ (t = u ∨ ∃ tag r, t = acting tag r u ∧ r.result = .done) ∧ Heard v pos s w u := by
  obtain ⟨-, -, -, -, -, ⟨hrises, -⟩, -⟩ := htables
  rcases hc with ⟨h, code, rfl, hlisten, hwell, hm, hv, hcode, hw⟩ | ⟨i, rest, rfl, hq, hk, hp, hv, hpos⟩
  · obtain ⟨r, hexec, hdone⟩ := exec_reportValve ⟨hlisten, hs.2⟩ hwell hm hv hcode hw ha
    exact ⟨_, _, _, hexec, .inr ⟨_, r, rfl, hdone⟩, positionReport_heard ha hne hrises hcalm⟩
  · have hheard : Heard v pos (s.taken rest) _ (positionReport v pos (s.taken rest)) :=
      positionReport_heard ha hne hrises hcalm
    exact ⟨_, _, _, exec_positionItem hs hq hk hp hv hpos, .inl rfl, hheard.of_taken⟩

end

/-! ## What the hearing makes of the plan, case by case -/

section
variable {v : Nat} {pos : Reported} {s w u : State} (h : Heard v pos s w u) {q : Plan}
include h

theorem Heard.secures (hv : v ∈ q.active) (hstate : q.activeState = .issuing) (hpos : pos = .closed)
    (hothers : ∀ x ∈ q.active, x ≠ v → ∃ b, Table.at? s.valves x = some b ∧ b.reported = .closed) :
    q.reevaluated w v = q.securedNow w := by
  unfold Plan.reevaluated
  rw [if_neg (not_not.2 hv), hstate]
  exact if_pos ((h.closed _ hv).2 ⟨hpos, hothers⟩)

theorem Heard.returns (hv : v ∈ q.active) (hsecure : q.secure) (hpos : pos ≠ .closed) :
    q.reevaluated w v = q.returned := by
  have hleft : leftClosed w v = true := by rw [h.left]; simpa using hpos
  unfold Plan.reevaluated
  rw [if_neg (not_not.2 hv)]
  rcases hsecure with hstate | hstate | hstate <;> rw [hstate] <;> exact if_pos hleft

theorem Heard.stays (hnot : ¬ (v ∈ q.active ∧ ((q.activeState = .issuing ∧ pos = .closed ∧
      ∀ x ∈ q.active, x ≠ v → ∃ b, Table.at? s.valves x = some b ∧ b.reported = .closed) ∨
      (q.secure ∧ pos ≠ .closed)))) : q.reevaluated w v = q := by
  unfold Plan.reevaluated
  by_cases hv : v ∈ q.active
  swap
  · exact if_pos hv
  have hsecure (hstate : q.secure) : leftClosed w v ≠ true := by
    rw [h.left]
    simpa using fun hpos => hnot ⟨hv, .inr ⟨hstate, hpos⟩⟩
  rw [if_neg (not_not.2 hv)]
  split
  · rename_i hstate
    exact if_neg fun hclosed => hnot ⟨hv, .inl ⟨hstate, (h.closed _ hv).1 hclosed⟩⟩
  · rename_i hstate; exact if_neg (hsecure (.inl hstate))
  · rename_i hstate; exact if_neg (hsecure (.inr (.inl hstate)))
  · rename_i hstate; exact if_neg (hsecure (.inr (.inr hstate)))
  · rfl

end

/-- Settles O53: each plan hears of the change, and none of those that list the valve has a transfer or a release to end. -/
theorem plansFollowReports : Obligations.PlansFollowReports := by
  unfold Obligations.PlansFollowReports
  intro c v pos s a hs htables hplans ha hne hc hcalm
  obtain ⟨t, w, u, hexec, hform, hheard⟩ := exec_report_heard hs htables ha hne hcalm hc
  refine ⟨t, u, hexec, hform, fun p hp => by rw [hheard.plans, hp]; rfl, fun p q hq => ?_, hheard.incident⟩
  obtain ⟨-, -, -, -, -, -, -, -, hlegal⟩ := hplans p q hq
  obtain ⟨hflag, hraise⟩ := hheard.marks p q hq
  refine ⟨q.reevaluated w v, by rw [hheard.plans, hq]; rfl, ?_⟩
  intro others held
  refine ⟨fun hv hstate hpos hothers => ?_, hheard.returns, hheard.stays, hflag, hraise,
    fun k i hv hpos hk hi hlink honly => hheard.linked p q k i hq hlegal hv hpos hk hi hlink honly⟩
  have hverdict : q.verdict = .none := by
    unfold Plan.testLegal at hlegal
    split at hlegal
    · exact hlegal.2
    · exact hlegal.2.1
    · rcases hlegal with ⟨h, -⟩ | ⟨h, -⟩ | ⟨h, -⟩ <;> rw [hstate] at h <;> cases h
  rw [hheard.secures hv hstate hpos hothers]
  exact ⟨securedNow_eq w q, hheard.tests _ _ _ _ (started_testStarted w { q with activeState := .secured } hverdict)⟩

end Sys2Proof.Machine
end

section
/-! SUPPORT. A release that completes with a committed draft: the transfer that follows in the same event, and the plans
RELEASING beside it that it lets end (R136 to R138). -/

namespace Sys2Proof.Machine

/-! ## A plan RELEASING with no draft to transfer -/

/-- The plan IDLE, as the end of its release leaves it (R138). -/
def Plan.idled (q : Plan) : Plan :=
  { q with activeState := .idle, active := [], orderFailed := false, needsRevision := false }

/-- A plan RELEASING, as a test of its release in the state `x` leaves it. -/
def Plan.releasedIn (x : State) (q : Plan) : Plan :=
  if q.activeState = .releasing ∧ q.active.all (settled x) = true then q.idled else q

/-- No plan RELEASING has a draft to transfer. -/
def noDraftWaits (t : State) : Prop :=
  ∀ m r, Table.at? t.plans m = some r → r.activeState = .releasing → r.draftState ≠ .committed

theorem completeRelease_becomes (p : Nat) (t : State) : planBecomes p Plan.idled t (completeRelease p t) := by
  have hupd : planBecomes p Plan.idled t (t.updPlan p Plan.idled) := Table.becomes_upd p _ _
  exact hupd.same (by simp [completeRelease]; rfl)

theorem settled_congr {x t : State} (h : t.valves = x.valves) : settled t = settled x := by
  funext v
  unfold settled
  rw [h]

section
variable {t : State} {p k : Nat} {q : Plan} (hq : Table.at? t.plans p = some q)
include hq

theorem testRelease_unsettled (h : ¬ (q.activeState = .releasing ∧ q.active.all (settled t) = true)) :
    testRelease (k + 1) p t = t := by
  rw [testRelease, hq]
  exact if_neg (by simpa using h)

/-- A release that ends with no draft to transfer. -/
theorem testRelease_ends (h : q.activeState = .releasing ∧ q.active.all (settled t) = true)
    (hdraft : q.draftState ≠ .committed) : testRelease (k + 1) p t = completeRelease p t := by
  have hready : Table.test (completeRelease p t).plans p Plan.ready = false := by
    rw [Table.test_some ((completeRelease_becomes p t).self hq)]
    simp [Plan.ready, Plan.idled, hdraft]
  rw [testRelease, hq]
  dsimp only
  rw [if_pos (by simpa using h)]
  exact if_neg (by simp [hready])

/-- A release that ends with a draft to transfer: the transfer, then the tests of the plans RELEASING beside it. -/
theorem testRelease_transfers (h : q.activeState = .releasing ∧ q.active.all (settled t) = true)
    (hdraft : q.draftState = .committed) (hne : q.draft ≠ []) : testRelease (k + 1) p t =
      (releasingOthers (transferCore p (completeRelease p t)).1 p (transferCore p (completeRelease p t)).2).foldl
        (fun s n => testRelease k n s) (transferCore p (completeRelease p t)).1 := by
  have hready : Table.test (completeRelease p t).plans p Plan.ready = true := by
    rw [Table.test_some ((completeRelease_becomes p t).self hq)]
    cases hmode : q.mode <;> simp [Plan.ready, Plan.idled, hdraft, hne, PlanMode.accepts, hmode]
  rw [testRelease, hq]
  dsimp only
  rw [if_pos (by simpa using h)]
  exact if_pos hready

end

/-! ## The plans RELEASING beside a transfer -/

/-- What a run of tests of releases keeps of the state `x`. -/
structure Releasing (x t : State) : Prop where
  valves : t.valves = x.valves
  drafts : noDraftWaits t

section
variable {x t : State} {k : Nat} (h : Releasing x t)
include h

theorem Releasing.cases (n : Nat) : testRelease (k + 1) n t = t ∧
      (∀ r, Table.at? t.plans n = some r → r.releasedIn x = r) ∨
    testRelease (k + 1) n t = completeRelease n t ∧
      (∀ r, Table.at? t.plans n = some r → r.releasedIn x = r.idled) := by
  cases hq : Table.at? t.plans n with
  | none => exact .inl ⟨by rw [testRelease, hq], by simp⟩
  | some q =>
    have hsettled := settled_congr h.valves
    by_cases hend : q.activeState = .releasing ∧ q.active.all (settled t) = true
    · refine .inr ⟨testRelease_ends hq hend (h.drafts n q hq hend.1), fun r hr => ?_⟩
      obtain rfl := Option.some.inj hr
      exact if_pos (hsettled ▸ hend)
    · refine .inl ⟨testRelease_unsettled hq hend, fun r hr => ?_⟩
      obtain rfl := Option.some.inj hr
      exact if_neg (hsettled ▸ hend)

theorem Releasing.becomes (n : Nat) : planBecomes n (Plan.releasedIn x) t (testRelease (k + 1) n t) := by
  rcases h.cases (k := k) n with ⟨hstate, hrecord⟩ | ⟨hstate, hrecord⟩ <;> rw [hstate]
  · exact (Table.becomes.of_eq rfl).congr fun r hr => (hrecord r hr).symm
  · exact (completeRelease_becomes n t).congr fun r hr => (hrecord r hr).symm

theorem Releasing.step (n : Nat) : Releasing x (testRelease (k + 1) n t) := by
  refine ⟨?_, fun m r hr hstate => ?_⟩
  · rcases h.cases (k := k) n with ⟨hstate, -⟩ | ⟨hstate, -⟩ <;> rw [hstate]
    · exact h.valves
    · rw [← h.valves]; simp
  · rw [h.becomes n m] at hr
    split at hr
    · obtain ⟨r', hr', rfl⟩ := Option.map_eq_some_iff.1 hr
      unfold Plan.releasedIn at hstate ⊢
      split at hstate
      · cases hstate
      · rename_i hnot
        rw [if_neg hnot]
        exact h.drafts m r' hr' hstate
    · exact h.drafts m r hr hstate

theorem Releasing.incidents (n : Nat) : (testRelease (k + 1) n t).incidents = t.incidents := by
  rcases h.cases (k := k) n with ⟨hstate, -⟩ | ⟨hstate, -⟩ <;> rw [hstate]
  simp

theorem Releasing.among (n : Nat) : indicatesAmong [.plan] [.plan] t (testRelease (k + 1) n t) := by
  rcases h.cases (k := k) n with ⟨hstate, -⟩ | ⟨hstate, -⟩ <;> rw [hstate]
  · exact .refl t
  · exact (indicatesAmong_mark .plan n .plan _).after (by simp) (by simp)

theorem Releasing.marks {n : Nat} {r : Plan} (hr : Table.at? t.plans n = some r) (hend : r.releasedIn x ≠ r) :
    flagsIf .plan n true t (testRelease (k + 1) n t) := by
  rcases h.cases (k := k) n with ⟨-, hrecord⟩ | ⟨hstate, -⟩
  · exact absurd (hrecord r hr) hend
  · rw [hstate]
    have hsame : indicatesAmong [] [] t (t.updPlan n Plan.idled) := .of_same (by simp) (by simp)
    exact (hsame.mark .plan n .plan).1

end

/-- The releases of the plans of a list are tested, one after the other. -/
def testAll (k : Nat) (l : List Nat) (t : State) : State := l.foldl (fun s n => testRelease k n s) t

section
variable {x t : State} {k : Nat} {l : List Nat} (h : Releasing x t)
include h

theorem Releasing.foldl : Releasing x (testAll (k + 1) l t) := List.foldlRecOn l _ h fun _ ht n _ => ht.step n

theorem Releasing.at?_foldl (hl : l.Nodup) (m : Nat) : Table.at? (testAll (k + 1) l t).plans m =
    if m ∈ l then (Table.at? t.plans m).map (Plan.releasedIn x) else Table.at? t.plans m :=
  at?_foldl_once (field := State.plans) (P := Releasing x) (fun _ n ht => ht.step n) (fun _ n ht => ht.becomes n) hl h m

theorem Releasing.foldl_incidents : (testAll (k + 1) l t).incidents = t.incidents :=
  (List.foldlRecOn (motive := fun u => Releasing x u ∧ u.incidents = t.incidents) l _ ⟨h, rfl⟩
    fun _ hu n _ => ⟨hu.1.step n, (hu.1.incidents n).trans hu.2⟩).2

theorem Releasing.foldl_among : indicatesAmong [.plan] [.plan] t (testAll (k + 1) l t) :=
  (List.foldlRecOn (motive := fun u => Releasing x u ∧ indicatesAmong [.plan] [.plan] t u) l _ ⟨h, .refl t⟩
    fun _ hu n _ => ⟨hu.1.step n, hu.2.trans (hu.1.among n)⟩).2

theorem Releasing.foldl_marks (hl : l.Nodup) {n : Nat} (hn : n ∈ l) {r : Plan} (hr : Table.at? t.plans n = some r)
    (hend : r.releasedIn x ≠ r) : flagsIf .plan n true t (testAll (k + 1) l t) := by
  obtain ⟨l1, l2, rfl⟩ := List.append_of_mem hn
  obtain ⟨hl1, -, hapart⟩ := List.nodup_append.1 hl
  have hn1 : n ∉ l1 := fun hmem => hapart n hmem n List.mem_cons_self rfl
  have hsplit : testAll (k + 1) (l1 ++ n :: l2) t = testAll (k + 1) l2 (testRelease (k + 1) n (testAll (k + 1) l1 t)) := by
    unfold testAll
    rw [List.foldl_append, List.foldl_cons]
  have h1 : Releasing x (testAll (k + 1) l1 t) := h.foldl
  have hr1 : Table.at? (testAll (k + 1) l1 t).plans n = some r := by rw [h.at?_foldl hl1, if_neg hn1, hr]
  obtain ⟨ms, fs, hi, -⟩ := h.foldl_among (k := k) (l := l1)
  rw [hsplit]
  exact (h1.step n).foldl_among.keeps_flag (hi.then_flags (h1.marks hr1 hend))

end

/-! ## A release that ends with a draft to transfer -/

theorem mem_releasingOthers {s : State} {p n : Nat} {l : List Nat} : n ∈ releasingOthers s p l ↔
    n ≠ p ∧ ∃ r, Table.at? s.plans n = some r ∧ r.activeState = .releasing ∧ r.active.any l.contains = true := by
  unfold releasingOthers
  rw [List.mem_filter, Table.mem_keys]
  cases hr : Table.at? s.plans n with
  | none => simp [Table.has, hr]
  | some r => simp [Table.has, hr, Table.test]

theorem movedTo_congr {s t : State} (hv : t.valves = s.valves) (hsegments : t.segments = s.segments)
    (hpoints : t.points = s.points) (hclock : t.clock = s.clock) (q : Plan) : q.movedTo t = q.movedTo s := by
  have htransferred : transferred t q = transferred s q :=
    transferred_congr q (fun v => by rw [hv]) (fun v => by rw [hv])
  unfold Plan.movedTo
  rw [htransferred, Plan.started_congr hsegments hpoints hclock]

theorem movedTo_verdict (s : State) (q : Plan) : (q.movedTo s).verdict ≠ .passing := by
  unfold Plan.movedTo Plan.started
  split
  · split <;> simp [transferred]
  · simp [transferred]

/-- A plan RELEASING beside a transfer of the list `draft` that ends in the state `u`: it names a valve whose hold went up,
and all its valves are settled. -/
def Plan.endsBeside (draft : List Nat) (u : State) (r : Plan) : Bool :=
  decide (r.activeState = .releasing) && r.active.any draft.contains && r.active.all (settled u)

/-- What the end of the release of plan `p`, with record `q`, makes of the state where its draft is transferred. -/
structure EndsWithDraft (p : Nat) (q : Plan) (x u : State) : Prop where
  plan : Table.at? u.plans p = some { q.idled.movedTo x with orderFailed := false }
  others : ∀ m, m ≠ p → Table.at? u.plans m =
    (Table.at? x.plans m).map (fun r => if r.endsBeside q.draft u then r.idled else r)
  flags : ∀ m r, m ≠ p → Table.at? x.plans m = some r → r.endsBeside q.draft u = true → flagsIf .plan m true x u
  valves : ∀ w, (Table.at? u.valves w).map Valve.unordered = (Table.at? x.valves w).map (fun b =>
    Valve.unordered { b with hold := if w ∈ q.draft then b.hold + 1 else b.hold })
  incidents : ∀ k, Table.at? u.incidents k = (Table.at? x.incidents k).map (fun i => if q.incident = some k
    then { i with safety := if i.safety = .opened then .makingSafe else i.safety } else i)
  marks : flagsIf .plan p true x u ∧ raisesIf .plan true x u
  reading : u.segments = x.segments ∧ u.points = x.points ∧ u.register = x.register ∧ u.clock = x.clock

section
variable {p : Nat} {x : State} {q : Plan} (hx : Table.wf x.plans Config.planSlots)
  (hq : Table.at? x.plans p = some q) (hdraft : q.draftState = .committed) (hne : q.draft ≠ [])
  (hnodup : q.draft.Nodup) (hend : q.activeState = .releasing ∧ q.active.all (settled x) = true)
  (hverdict : q.verdict = .none)
  (hothers : ∀ m r, Table.at? x.plans m = some r → m ≠ p → r.activeState = .releasing → r.draftState ≠ .committed)
include hx hq hdraft hne hnodup hend hverdict hothers

theorem testPlan_endsWithDraft : EndsWithDraft p q x (testPlan p x) := by
  obtain ⟨k, hk⟩ : ∃ k, x.plans.length = k + 1 :=
    Nat.exists_eq_succ_of_ne_zero fun hzero => by simp [List.length_eq_zero_iff.1 hzero, Table.at?] at hq
  have hidle := completeRelease_becomes p x
  have hq1 : Table.at? (completeRelease p x).plans p = some q.idled := hidle.self hq
  have hmoved := transferCore_moved hq1
  have htransfer := transferCore_transfers hq1 hnodup List.nodup_nil
  have hkeeps := (transferCore_keepsPlans (completeRelease_keepsPlans (.refl x) (p := p)) (p := p)).plans hx
  have htest : testPlan p x = testAll (k + 1) (releasingOthers (transferCore p (completeRelease p x)).1 p
      (transferCore p (completeRelease p x)).2) (transferCore p (completeRelease p x)).1 := by
    rw [testPlan, planFuel, hk, testRelease_transfers hq hend hdraft hne]
    rfl
  have hlist : q.idled.addedValves ++ q.idled.droppedValves = q.draft := by
    simp [Plan.addedValves, Plan.droppedValves, Plan.idled]
  have hreading : (testPlan p x).segments = x.segments ∧ (testPlan p x).points = x.points ∧
      (testPlan p x).register = x.register ∧ (testPlan p x).clock = x.clock := by simp
  rw [htest, hmoved, hlist] at hreading
  rw [htest, hmoved, hlist]
  generalize (transferCore p (completeRelease p x)).1 = y at htransfer hkeeps hreading
  have hmodel : q.idled.movedTo (completeRelease p x) = q.idled.movedTo x :=
    movedTo_congr (by simp) (by simp) (by simp) (by simp) _
  have hplan : Table.at? y.plans p = some { q.idled.movedTo x with orderFailed := false } :=
    (htransfer.plans.self hq1).trans (by rw [hmodel]; rfl)
  have hother {m : Nat} (hm : m ≠ p) : Table.at? y.plans m = Table.at? x.plans m :=
    (htransfer.plans.other hm).trans (hidle.other hm)
  have hreleasing : Releasing y y := by
    refine ⟨rfl, fun m r hr hstate => ?_⟩
    by_cases hm : m = p
    · subst hm
      obtain rfl := Option.some.inj (hplan.symm.trans hr)
      have hactive : (q.idled.movedTo x).activeState = .releasing := hstate
      rw [movedTo_activeState] at hactive
      split at hactive <;> cases hactive
    · exact hothers m r ((hother hm).symm.trans hr) hm hstate
  have hl : (releasingOthers y p q.draft).Nodup := (nodup_of_rising hkeeps.1).filter _
  have hp : p ∉ releasingOthers y p q.draft := fun hmem => (mem_releasingOthers.1 hmem).1 rfl
  have hvalves : (testAll (k + 1) (releasingOthers y p q.draft) y).valves = y.valves := hreleasing.foldl.valves
  have hbeside {m : Nat} (hm : m ≠ p) {r : Plan} (hr : Table.at? x.plans m = some r) :
      r.endsBeside q.draft (testAll (k + 1) (releasingOthers y p q.draft) y) = true ↔
        m ∈ releasingOthers y p q.draft ∧ r.activeState = .releasing ∧ r.active.all (settled y) = true := by
    rw [Plan.endsBeside, settled_congr hvalves, mem_releasingOthers, hother hm, hr]
    simp [hm]
    tauto
  obtain ⟨ms, fs, hi, -⟩ := htransfer.indicates
  have hbefore : Indicates [.plan] [(.plan, p)] x (completeRelease p x) :=
    (Indicates.of_same (by simp) (by simp)).mark .plan p .plan
  have hafter := hreleasing.foldl_among (k := k) (l := releasingOthers y p q.draft)
  obtain ⟨hflag, hraise⟩ := htransfer.marks
  refine ⟨?_, fun m hm => ?_, fun m r hm hr hb => ?_, fun w => ?_, fun n => ?_,
    ⟨hbefore.then_flags (hafter.keeps_flag hflag), hbefore.then_raises (hafter.keeps_raise hraise)⟩, hreading⟩
  · rw [hreleasing.at?_foldl hl, if_neg hp, hplan]
  · rw [hreleasing.at?_foldl hl, hother hm]
    cases hr : Table.at? x.plans m with
    | none => simp
    | some r =>
      have hiff := hbeside hm hr
      simp only [Option.map_some, hiff, Plan.releasedIn]
      by_cases hmem : m ∈ releasingOthers y p q.draft
      · simp only [hmem, true_and, if_true]
      · simp only [hmem, false_and, if_false]
  · obtain ⟨hmem, hstate⟩ := (hbeside hm hr).1 hb
    have hchanges : r.releasedIn y ≠ r := by
      rw [Plan.releasedIn, if_pos hstate]
      intro heq
      have hidled : ActiveState.idle = r.activeState := congrArg Plan.activeState heq
      rw [hstate.1] at hidled
      cases hidled
    exact (hbefore.trans hi).then_flags (hreleasing.foldl_marks hl hmem ((hother hm).trans hr) hchanges)
  · rw [hvalves, htransfer.valves w, show (completeRelease p x).valves = x.valves by simp]
    refine congrArg (fun f => (Table.at? x.valves w).map f) (funext fun b => ?_)
    rw [holdAfter_eq]
    simp [Plan.idled]
  · rw [hreleasing.foldl_incidents, htransfer.incidents n, show (completeRelease p x).incidents = x.incidents by simp]
    refine congrArg (fun f => (Table.at? x.incidents n).map f) (funext fun i => ?_)
    simp [Incident.transferred, hverdict, transferSafety, Plan.idled]

end

end Sys2Proof.Machine
end

section
/-! SUPPORT. The two events that end a release with a draft to transfer, a report and RELEASE PLAN (R136 to R138), and O54. -/

namespace Sys2Proof.Machine

/-! ## What a grading reads of the plans -/

/-- A score reads of the plans only which of them are PASSING. -/
theorem score_of_verdicts {s u : State} (hsegments : u.segments = s.segments) (hpoints : u.points = s.points)
    (hpassing : ∀ a, Table.test u.plans a (fun q => q.verdict = .passing) =
      Table.test s.plans a (fun q => q.verdict = .passing)) (i : Incident) : score u i = score s i := by
  have hband (g : Segment) (bands : List Band) : hasBand u g bands = hasBand s g bands := by
    unfold hasBand
    rw [hpoints]
  unfold score scoreSum
  simp only [hsegments, hband, hpassing]

theorem EndsWithDraft.regraded {p : Nat} {q : Plan} {x u : State} (h : EndsWithDraft p q x u)
    (hq : Table.at? x.plans p = some q) (hverdict : q.verdict = .none) : regraded u = regraded x := by
  obtain ⟨hsegments, hpoints, hregister, hclock⟩ := h.reading
  have hpassing (a : Nat) : Table.test u.plans a (fun q => q.verdict = .passing) =
      Table.test x.plans a (fun q => q.verdict = .passing) := by
    by_cases ha : a = p
    · subst ha
      rw [Table.test_some h.plan, Table.test_some hq]
      simp [movedTo_verdict, hverdict]
    · unfold Table.test
      rw [h.others a ha, Option.any_map]
      congr 1
      funext r
      split <;> rfl
  funext i
  unfold Machine.regraded
  rw [score_of_verdicts hsegments hpoints hpassing]
  simp [candidateDeadline, allowance, hregister, State.now, hclock]

/-! ## The state in which the release ends -/

/-- What the end of a release reads of a valve. -/
def Valve.view (a : Valve) : Reported × Bool × Position × Nat := (a.reported, a.inoperable, a.normal, a.hold)

/-- The plan RELEASING (R137). -/
def Plan.releasing (q : Plan) : Plan := { q with activeState := .releasing, verdict := .none, test := .none }

/-- A valve's hold count once the release of plan `q` has begun. -/
def Plan.lowered (q : Plan) (w n : Nat) : Nat := if w ∈ q.active ∧ q.activeState ≠ .releasing then n - 1 else n

/-- From `s` an event brings plan `p`, with record `q`, to the state `x` in which the end of its release is tested. The
event leaves the valves reported as `now` says. -/
structure BringsToEnd (p : Nat) (q : Plan) (now : Nat → Valve → Reported) (s x : State) : Prop where
  plans : planBecomes p (fun _ => q.releasing) s x
  wf : Table.wf x.plans Config.planSlots
  valves : ∀ w, (Table.at? x.valves w).map Valve.view =
    (Table.at? s.valves w).map (fun b => (now w b, b.inoperable, b.normal, q.lowered w b.hold))
  incidents : ∀ k, Table.at? x.incidents k = (Table.at? s.incidents k).map (fun i =>
    if q.incident = some k ∧ q.activeState ≠ .releasing ∧ q.verdict = .passing then regraded x i else i)
  indicates : ∃ ms fs, Indicates ms fs s x
  reading : x.segments = s.segments ∧ x.points = s.points ∧ x.clock = s.clock

section
variable {p : Nat} {q : Plan} {now : Nat → Valve → Reported} {s x : State} (h : BringsToEnd p q now s x)
include h

theorem BringsToEnd.test {P : Valve → Bool} {P' : Reported × Bool × Position × Nat → Bool} (hP : ∀ a, P a = P' a.view)
    (w : Nat) : Table.test x.valves w P =
      Table.test s.valves w (fun b => P' (now w b, b.inoperable, b.normal, q.lowered w b.hold)) := by
  have hv := congrArg (fun o => Option.any P' o) (h.valves w)
  simp only [Option.any_map] at hv
  unfold Table.test
  rw [funext hP]
  exact hv

/-- A valve is settled in the state of the end where it is held, inoperable, or reported in its normal position. -/
theorem BringsToEnd.settles {w : Nat} {b : Valve} (hb : Table.at? s.valves w = some b)
    (hsettles : 0 < q.lowered w b.hold ∨ b.inoperable = true ∨ now w b = b.normal.reported) : settled x w = true := by
  unfold settled
  rw [h.test (P := fun a => decide (0 < a.hold) || a.atWanted || a.inoperable) (P' := fun y => decide (0 < y.2.2.2) ||
    decide (y.1 = (if 0 < y.2.2.2 then Position.closed else y.2.2.1).reported) || y.2.1) (fun _ => rfl),
    Table.test_some hb]
  by_cases hheld : 0 < q.lowered w b.hold
  · simp [hheld]
  · rcases hsettles with hh | hi | hr
    · exact absurd hh hheld
    · simp [hi]
    · simp [hheld, hr]

end

/-- The release ends with its draft in the state of the end, where its valves are then settled. -/
theorem BringsToEnd.ends {p : Nat} {q : Plan} {now : Nat → Valve → Reported} {s x : State}
    (h : BringsToEnd p q now s x) (hq : Table.at? s.plans p = some q) (hlegal : s.plansLegal)
    (hdraft : q.draftState = .committed) (hne : q.draft ≠ [])
    (hsettles : ∀ w ∈ q.active, ∃ b, Table.at? s.valves w = some b ∧
      (0 < q.lowered w b.hold ∨ b.inoperable = true ∨ now w b = b.normal.reported))
    (hothers : ∀ m r, Table.at? s.plans m = some r → m ≠ p → r.activeState = .releasing → r.draftState ≠ .committed) :
    EndsWithDraft p q.releasing x (testPlan p x) := by
  obtain ⟨hnodup, -⟩ := hlegal p q hq
  have hsettled : q.active.all (settled x) = true := List.all_eq_true.2 fun w hw => by
    obtain ⟨b, hb, hcase⟩ := hsettles w hw
    exact h.settles hb hcase
  exact testPlan_endsWithDraft h.wf (h.plans.self hq) hdraft hne hnodup ⟨rfl, hsettled⟩ rfl
    fun m r hr hm => hothers m r ((h.plans.other hm).symm.trans hr) hm

/-- What a release's end is said of is the same. -/
theorem EndsWithDraft.same {p : Nat} {q : Plan} {x u u' : State} (h : EndsWithDraft p q x u)
    (hplans : u'.plans = u.plans) (hvalves : u'.valves = u.valves) (hincidents : u'.incidents = u.incidents)
    (hnotices : u'.notices = u.notices) (hplace : u'.port.onPlace = u.port.onPlace)
    (hreading : u'.segments = u.segments ∧ u'.points = u.points ∧ u'.register = u.register ∧ u'.clock = u.clock) :
    EndsWithDraft p q x u' := by
  have hsame : indicatesAmong [] [] u u' := .of_same hnotices hplace
  have hsettled : settled u' = settled u := settled_congr hvalves
  obtain ⟨hflag, hraise⟩ := h.marks
  obtain ⟨hsegments, hpoints, hregister, hclock⟩ := h.reading
  obtain ⟨hsegments', hpoints', hregister', hclock'⟩ := hreading
  have hbeside (r : Plan) : r.endsBeside q.draft u' = r.endsBeside q.draft u := by
    unfold Plan.endsBeside
    rw [hsettled]
  exact ⟨hplans ▸ h.plan, fun m hm => by simp only [hplans, hbeside, h.others m hm],
    fun m r hm hr hb => hsame.keeps_flag (h.flags m r hm hr (hbeside r ▸ hb)), fun w => hvalves ▸ h.valves w,
    fun k => hincidents ▸ h.incidents k, ⟨hsame.keeps_flag hflag, hsame.keeps_raise hraise⟩,
    hsegments'.trans hsegments, hpoints'.trans hpoints, hregister'.trans hregister, hclock'.trans hclock⟩

/-! ## A report that settles the last valve -/

/-- The reported positions as a report of valve `v` leaves them. -/
def nowReported (v : Nat) (pos : Reported) (w : Nat) (b : Valve) : Reported := if w = v then pos else b.reported

section
variable {v p : Nat} {t : State}

/-- A plan that does not list the valve hears nothing. -/
theorem reevaluate_unlisted (h : ∀ r, Table.at? t.plans p = some r → v ∉ r.active) : reevaluate v p t = t := by
  unfold reevaluate
  split
  · rfl
  · rename_i r hr
    exact if_pos (by simpa using h r hr)

theorem hearAll_unlisted {l : List Nat} (h : ∀ m ∈ l, ∀ r, Table.at? t.plans m = some r → v ∉ r.active) :
    hearAll v l t = t := by
  induction l with
  | nil => rfl
  | cons m l ih =>
    rw [show hearAll v (m :: l) t = hearAll v l (reevaluate v m t) from rfl,
      reevaluate_unlisted (h m List.mem_cons_self), ih fun n hn => h n (List.mem_cons_of_mem m hn)]

theorem reevaluate_releasing {q : Plan} (hq : Table.at? t.plans p = some q) (hv : v ∈ q.active)
    (hstate : q.activeState = .releasing) : reevaluate v p t = testPlan p t := by
  rw [reevaluate, hq]
  simp [hv, hstate]

/-- Where a plan RELEASING alone lists the valve, a change of its position is a test of that release. -/
theorem positionChanged_releasing {q : Plan} (hs : Table.rises t.plans) (hq : Table.at? t.plans p = some q)
    (hv : v ∈ q.active) (hstate : q.activeState = .releasing)
    (hbefore : ∀ m r, Table.at? t.plans m = some r → m ≠ p → v ∉ r.active)
    (hafter : ∀ m r, Table.at? (testPlan p t).plans m = some r → m ≠ p → v ∉ r.active) :
    positionChanged v t = testPlan p t := by
  obtain ⟨l1, l2, hkeys⟩ := List.append_of_mem (Table.mem_keys_of_at? hq)
  have hnodup := nodup_of_rising hs
  rw [hkeys] at hnodup
  obtain ⟨-, hnodup2, hapart⟩ := List.nodup_append.1 hnodup
  obtain ⟨hp2, -⟩ := List.nodup_cons.1 hnodup2
  have hp1 : p ∉ l1 := fun h => hapart p h p List.mem_cons_self rfl
  calc positionChanged v t
      = hearAll v l2 (reevaluate v p (hearAll v l1 t)) := by
        rw [positionChanged, hkeys, List.foldl_append, List.foldl_cons]
        rfl
    _ = hearAll v l2 (testPlan p t) := by
        rw [hearAll_unlisted fun m hm r hr => hbefore m r hr fun h => hp1 (h ▸ hm), reevaluate_releasing hq hv hstate]
    _ = testPlan p t := hearAll_unlisted fun m hm r hr => hafter m r hr fun h => hp2 (h ▸ hm)

end

section
variable {v p : Nat} {pos : Reported} {s : State} {q : Plan} {a : Valve}

theorem releasing_of_releasing (hlegal : q.testLegal) (hstate : q.activeState = .releasing) : q.releasing = q := by
  have htest : q.test = .none ∧ q.verdict = .none := by
    unfold Plan.testLegal at hlegal
    rw [hstate] at hlegal
    split at hlegal <;> simp_all
  obtain ⟨htest, hverdict⟩ := htest
  unfold Plan.releasing
  rw [← hstate, ← htest, ← hverdict]

theorem reportWritten_brings (hwf : Table.wf s.plans Config.planSlots) (hq : Table.at? s.plans p = some q)
    (ha : Table.at? s.valves v = some a) (hlegal : q.testLegal) (hstate : q.activeState = .releasing) :
    BringsToEnd p q (nowReported v pos) s (reportWritten v a pos s) := by
  obtain ⟨hplans, hincidents, hsegments, hpoints, -, hclock⟩ := reportWritten_frame (s := s) (v := v) (pos := pos) (a := a)
  obtain ⟨ms, fs, hi, -⟩ := reportWritten_among (s := s) (v := v) (a := a) (pos := pos)
  refine ⟨?_, hplans ▸ hwf, fun w => ?_, fun k => ?_, ⟨ms, fs, hi⟩, hsegments, hpoints, hclock⟩
  · refine (Table.becomes.of_eq hplans).congr fun r hr => ?_
    obtain rfl : q = r := Option.some.inj (hq.symm.trans hr)
    exact (releasing_of_releasing hlegal hstate).symm
  · have hv := congrArg (Option.map Valve.view) (reportWritten_valves (pos := pos) ha w)
    rw [Option.map_map, Option.map_map] at hv
    refine hv.trans (congrArg (fun f => (Table.at? s.valves w).map f) (funext fun b => ?_))
    simp only [Plan.lowered, hstate, nowReported, Function.comp_apply]
    split <;> simp [Valve.view, Valve.unordered, Valve.reportedAt]
  · rw [hincidents]
    simp [hstate]

/-- What is said of the state without an intake item is said of the state with it. -/
theorem BringsToEnd.of_taken {now : Nat → Valve → Reported} {x : State} {rest : List Item}
    (h : BringsToEnd p q now (s.taken rest) x) : BringsToEnd p q now s x := by
  obtain ⟨ms, fs, hi⟩ := h.indicates
  have hsame : Indicates [] [] s (s.taken rest) := .of_same rfl rfl
  exact ⟨h.plans, h.wf, h.valves, h.incidents, ⟨_, _, hsame.trans hi⟩, h.reading⟩

/-- A report that settles the last valve of a release is the end of that release, with its draft. -/
theorem positionReport_ends (hwf : Table.wf s.plans Config.planSlots)
    (hq : Table.at? s.plans p = some q) (ha : Table.at? s.valves v = some a) (hne : pos ≠ a.reported)
    (hv : v ∈ q.active) (hstate : q.activeState = .releasing)
    (halone : ∀ m r, Table.at? s.plans m = some r → m ≠ p → v ∉ r.active)
    (hends : EndsWithDraft p q.releasing (reportWritten v a pos s) (testPlan p (reportWritten v a pos s))) :
    EndsWithDraft p q.releasing (reportWritten v a pos s) (positionReport v pos s) := by
  obtain ⟨hplans, -⟩ := reportWritten_frame (s := s) (v := v) (pos := pos) (a := a)
  have hchanged : positionChanged v (reportWritten v a pos s) = testPlan p (reportWritten v a pos s) := by
    refine positionChanged_releasing (hplans.symm ▸ hwf.1) (hplans.symm ▸ hq) hv hstate (hplans.symm ▸ halone)
      fun m r hr hm => ?_
    rw [hends.others m hm, hplans] at hr
    obtain ⟨r', hr', rfl⟩ := Option.map_eq_some_iff.1 hr
    have hnot := halone m r' hr' hm
    split
    · simp [Plan.idled]
    · exact hnot
  rw [positionReport_eq ha hne, hchanged]
  split
  · exact hends.same (by simp) (by simp) (by simp) (by simp) (by simp) (by simp)
  · exact hends

end

/-! ## RELEASE PLAN -/

section
variable {p : Nat} {s : State} {q : Plan} (hq : Table.at? s.plans p = some q)

/-- The plan RELEASING and its holds down, before its incident hears of it. -/
def releaseBegun (p : Nat) (q : Plan) (s : State) : State :=
  wantedChanges (wantedMoved s (changeHolds [] q.active s) q.active)
    (markPlan p ((changeHolds [] q.active s).putPlan p q.releasing))

/-- The state in which RELEASE PLAN tests the end of its release. -/
def releaseTold (p : Nat) (q : Plan) (s : State) : State :=
  if q.verdict = .passing then regradePlanIncident q.incident (releaseBegun p q s) else releaseBegun p q s

theorem releaseBegun_frame : (releaseBegun p q s).incidents = s.incidents ∧ (releaseBegun p q s).segments = s.segments ∧
    (releaseBegun p q s).points = s.points ∧ (releaseBegun p q s).clock = s.clock := by
  simp [releaseBegun]

theorem releaseTold_incidents (k : Nat) : Table.at? (releaseTold p q s).incidents k =
    (Table.at? s.incidents k).map (fun i =>
      if q.incident = some k ∧ q.verdict = .passing then regraded (releaseTold p q s) i else i) := by
  obtain ⟨hincidents, -⟩ := releaseBegun_frame (p := p) (q := q) (s := s)
  unfold releaseTold
  by_cases hpassing : q.verdict = .passing
  · simp only [if_pos hpassing]
    cases hi : q.incident with
    | none => simp [regradePlanIncident, hincidents]
    | some n =>
      rw [regradePlanIncident_becomes rfl (releaseBegun p q s) k, hincidents]
      by_cases hk : k = n
      · subst hk; simp [hpassing]
      · simp [hk, Ne.symm hk]
  · simp [hpassing, hincidents]

include hq

theorem releaseBegun_becomes : planBecomes p (fun _ => q.releasing) s (releaseBegun p q s) := by
  have hput : planBecomes p (fun _ => q.releasing) s (s.putPlan p q.releasing) := Table.becomes_put hq _
  exact hput.same (by simp [releaseBegun])

theorem release_eq : release p s =
    let t := (releasingOthers (releaseBegun p q s) p q.active).foldl (fun s n => testPlan n s) (releaseBegun p q s)
    testPlan p (if q.verdict = .passing then regradePlanIncident q.incident t else t) := by
  rw [release, hq]
  rfl

/-- With no other plan RELEASING, RELEASE PLAN is the change of its own plan and the test of its end. -/
theorem release_alone (hothers : ∀ m r, Table.at? s.plans m = some r → m ≠ p → r.activeState ≠ .releasing) :
    release p s = testPlan p (releaseTold p q s) := by
  rw [release_eq hq, releasingOthers_eq_nil fun m r hr hm =>
    hothers m r (((releaseBegun_becomes hq).other hm).symm.trans hr) hm]
  rfl

theorem releaseTold_brings (hwf : Table.wf s.plans Config.planSlots) (hactive : q.active.Nodup)
    (hstate : q.activeState ≠ .releasing) :
    BringsToEnd p q (fun _ b => b.reported) s (releaseTold p q s) := by
  obtain ⟨-, hsegments, hpoints, hclock⟩ := releaseBegun_frame (p := p) (q := q) (s := s)
  have htold : (releaseTold p q s).plans = (releaseBegun p q s).plans ∧
      (releaseTold p q s).valves = (releaseBegun p q s).valves ∧
      (releaseTold p q s).segments = (releaseBegun p q s).segments ∧
      (releaseTold p q s).points = (releaseBegun p q s).points ∧
      (releaseTold p q s).clock = (releaseBegun p q s).clock := by
    unfold releaseTold
    split <;> simp
  obtain ⟨hplans, hvalves, hsegments', hpoints', hclock'⟩ := htold
  refine ⟨(releaseBegun_becomes hq).same hplans, ?_, fun w => ?_, fun k => ?_, ?_, hsegments'.trans hsegments,
    hpoints'.trans hpoints, hclock'.trans hclock⟩
  · rw [hplans]
    have hput : KeepsPlans s (s.putPlan p q.releasing) := (KeepsPlans.refl s).putPlan hq
    exact (hput.frame (u := releaseBegun p q s) (by simp [releaseBegun])).plans hwf
  · have horders : OrdersOnly (markPlan p ((changeHolds [] q.active s).putPlan p q.releasing)) (releaseBegun p q s) :=
      wantedChanges_ordersOnly (.refl _)
    have hv := congrArg (Option.map Valve.view) (horders.valves w)
    rw [Option.map_map, Option.map_map, show Valve.view ∘ Valve.unordered = Valve.view from rfl] at hv
    rw [hvalves, hv, show (markPlan p ((changeHolds [] q.active s).putPlan p q.releasing)).valves =
      (changeHolds [] q.active s).valves by simp, at?_changeHolds s List.nodup_nil hactive, Option.map_map]
    refine congrArg (fun f => (Table.at? s.valves w).map f) (funext fun b => ?_)
    simp [Valve.view, holdAfter, Plan.lowered, hstate]
  · rw [releaseTold_incidents k]
    simp [hstate]
  · have hheld : indicatesAmong [.plan, .order, .incident] [.plan, .valve, .incident] s (releaseTold p q s) := by
      have h1 : indicatesAmong [] [.valve] s (changeHolds [] q.active s) := changeHolds_among s [] q.active
      have h2 : indicatesAmong [.plan] [.plan] (changeHolds [] q.active s)
          (markPlan p ((changeHolds [] q.active s).putPlan p q.releasing)) :=
        (indicatesAmong_mark .plan p .plan _).after (by simp) (by simp)
      have h3 : indicatesAmong [.order] [.valve] _ (releaseBegun p q s) := (wantedChanges_ordersOnly (.refl _)).indicates
      have h4 : indicatesAmong [.incident] [.incident] (releaseBegun p q s) (releaseTold p q s) :=
        .ite (regradePlanIncident_among _ _) (.refl _)
      exact (((h1.mono (by simp) (by simp)).trans (h2.mono (by simp) (by simp))).trans
        (h3.mono (by simp) (by simp))).trans (h4.mono (by simp) (by simp))
    obtain ⟨ms, fs, hi, -⟩ := hheld
    exact ⟨ms, fs, hi⟩

theorem exec_releasePlan {h : Header} (hs : s.ready) (hwell : wellFormed (.releasePlan h p) = true)
    (hm : s.model = .running) (hp : p < 64) (hw : inWindow s h.desk q.target = true)
    (hstate : q.activeState.releasable = true) :
    ∃ r, exec (.releasePlan h p) s = .next (acting h.tag r (release p s)) ∧ r.result = .done := by
  have hexec : exec (.releasePlan h p) s = _ :=
    request_ready hs hwell h [.overdue, .timeout, .windowEnd] (releasePlan h p)
  have htests : ∀ x ∈ planTests h p s ++ [(Table.test s.plans p (fun q => q.activeState.releasable), .wrongState)],
      x.1 = true := by
    simp [planTests, running_iff.2 hm, hp, Table.has_some hq, Table.test_some hq, hw, hstate, Config.planSlots]
  rw [releasePlan, tested_passed htests] at hexec
  exact ⟨_, hexec, rfl⟩

end

/-! ## What the event leaves -/

section
variable {p : Nat} {q : Plan} {now : Nat → Valve → Reported} {s x u : State} (hb : BringsToEnd p q now s x)
  (he : EndsWithDraft p q.releasing x u)

include he in
/-- What a valve's record says without its order's fields and its hold is the same after the draft is transferred. -/
theorem EndsWithDraft.test {P : Valve → Bool} (hP : ∀ (b : Valve) n, P { b with hold := n } = P b)
    (hP' : ∀ b : Valve, P b.unordered = P b) (w : Nat) : Table.test u.valves w P = Table.test x.valves w P := by
  have hv := congrArg (fun o : Option Valve => o.any P) (he.valves w)
  simp only [Option.any_map, hP', hP] at hv
  exact hv

include hb he

/-- The plan as the event leaves it. -/
theorem BringsToEnd.plan_after : ∃ q', Table.at? u.plans p = some q' ∧
    q' = { q with draftState := .empty, editor := none, draft := [], active := q.draft
                  activeState := if allClosed u q.draft then .secured else .issuing
                  verdict := q'.verdict, test := q'.test, orderFailed := false
                  needsRevision := q.draft.any (fun v => Table.test s.valves v (fun a => a.inoperable)) } ∧
    (q'.activeState = .issuing → q'.verdict = .none ∧ q'.test = .none) ∧
    (q'.activeState = .secured → testStarted s q.target q.window q'.test q'.verdict) := by
  obtain ⟨hsegments, hpoints, hclock⟩ := hb.reading
  obtain ⟨hrecord, hissuing, hsecured⟩ := movedTo_spec x q.releasing.idled
  have hclosed : allClosed x q.draft = allClosed u q.draft :=
    (allClosed_congr (he.test (fun _ _ => rfl) (fun _ => rfl)) q.draft).symm
  have hrevised (v : Nat) : Table.test x.valves v (fun a => a.inoperable) =
      Table.test s.valves v (fun a => a.inoperable) := hb.test (P' := fun y => y.2.1) (fun _ => rfl) v
  refine ⟨_, he.plan, ?_, hissuing, fun h => testStarted_congr hsegments hpoints hclock (hsecured h)⟩
  conv_lhs => rw [hrecord]
  simp only [← hclosed, ← hrevised]
  rfl

theorem BringsToEnd.valve_after {w : Nat} {b : Valve} (hw : Table.at? s.valves w = some b) :
    ∃ b', Table.at? u.valves w = some b' ∧ b'.reported = now w b ∧ b'.inoperable = b.inoperable ∧
      b'.hold = if w ∈ q.draft then q.lowered w b.hold + 1 else q.lowered w b.hold := by
  have hview := hb.valves w
  rw [hw, Option.map_some] at hview
  obtain ⟨b1, hb1, hview⟩ := Option.map_eq_some_iff.1 hview
  have hafter := he.valves w
  rw [hb1, Option.map_some] at hafter
  obtain ⟨b', hb', hfields⟩ := Option.map_eq_some_iff.1 hafter
  obtain ⟨hhold, hreported, -, hinoperable, -⟩ := Valve.fields_of_unordered hfields
  simp only [Valve.view, Prod.mk.injEq] at hview
  obtain ⟨hreported1, hinoperable1, -, hhold1⟩ := hview
  exact ⟨b', hb', hreported.trans hreported1, hinoperable.trans hinoperable1, hhold1 ▸ hhold⟩

theorem BringsToEnd.incident_after (hq : Table.at? s.plans p = some q) (k : Nat) :
    Table.at? u.incidents k = (Table.at? s.incidents k).map (fun i =>
      if q.incident = some k then
        let i' := { i with safety := if i.safety = .opened then .makingSafe else i.safety }
        if q.activeState ≠ .releasing ∧ q.verdict = .passing then regraded u i' else i'
      else i) := by
  rw [he.incidents k, hb.incidents k, Option.map_map]
  refine congrArg (fun f => (Table.at? s.incidents k).map f) (funext fun i => ?_)
  have hgraded : regraded u = regraded x := he.regraded (hb.plans.self hq) rfl
  by_cases hk : q.incident = some k
  · have hk' : q.releasing.incident = some k := hk
    simp only [Function.comp_apply, hk, hk', true_and, if_true, hgraded]
    split <;> rfl
  · have hk' : ¬ q.releasing.incident = some k := hk
    simp only [Function.comp_apply, hk, hk', false_and, if_false]

theorem BringsToEnd.marks_after : flagsIf .plan p true s u ∧ raisesIf .plan true s u := by
  obtain ⟨ms, fs, hi⟩ := hb.indicates
  obtain ⟨hflag, hraise⟩ := he.marks
  exact ⟨hi.then_flags hflag, hi.then_raises hraise⟩

/-- A plan beside the one whose draft is transferred, as the event leaves it. -/
theorem BringsToEnd.other_after {m : Nat} {r : Plan} (hr : Table.at? s.plans m = some r) (hm : m ≠ p) :
    ∃ r', Table.at? u.plans m = some r' ∧
      (r.activeState = .releasing → (∃ w ∈ r.active, w ∈ q.draft) → (∀ w ∈ r.active, settled u w = true) →
        r' = { r with activeState := .idle, active := [], orderFailed := false, needsRevision := false } ∧
        flagsIf .plan m true s u) ∧
      (r.activeState ≠ .releasing ∨ (∀ w ∈ r.active, w ∉ q.draft) ∨ (∃ w ∈ r.active, settled u w = false) →
        r' = r) := by
  have hrx : Table.at? x.plans m = some r := (hb.plans.other hm).trans hr
  have hafter : Table.at? u.plans m = some (if r.endsBeside q.draft u then r.idled else r) := by
    rw [he.others m hm, hrx]
    rfl
  have hiff : r.endsBeside q.draft u = true ↔ (r.activeState = .releasing ∧ ∃ w ∈ r.active, w ∈ q.draft) ∧
      ∀ w ∈ r.active, settled u w = true := by
    simp [Plan.endsBeside]
  refine ⟨_, hafter, fun hstate hnames hsettled => ?_, fun hnot => if_neg fun hends => ?_⟩
  · have hends := hiff.2 ⟨⟨hstate, hnames⟩, hsettled⟩
    obtain ⟨ms, fs, hi⟩ := hb.indicates
    exact ⟨if_pos hends, hi.then_flags (he.flags m r hm hrx hends)⟩
  · obtain ⟨⟨hstate, w, hw, hdraft⟩, hsettled⟩ := hiff.1 hends
    rcases hnot with hnot | hnot | ⟨w', hw', hunsettled⟩
    · exact hnot hstate
    · exact hnot w hw hdraft
    · simp [hsettled w' hw'] at hunsettled

end

/-- Settles O54: the event brings the plan to the state in which its release ends, and the end transfers the draft. -/
theorem releaseEndsWithTheWaitingDraft : Obligations.ReleaseEndsWithTheWaitingDraft := by
  unfold Obligations.ReleaseEndsWithTheWaitingDraft
  intro c h p s q report hs htables hlegal hm hwell hq hdraft hne hothers now settles hevent
  obtain ⟨-, -, -, -, -, hwf, -⟩ := htables
  obtain ⟨-, -, -, hactive, -, -, -, -, htest⟩ := hlegal p q hq
  obtain ⟨t, x, u, hexec, hform, hb, he⟩ : ∃ t x u, exec c s = .next t ∧
      (t = u ∨ ∃ r, t = acting h.tag r u ∧ r.result = .done) ∧ BringsToEnd p q now s x ∧
      EndsWithDraft p q.releasing x u := by
    rcases hevent with ⟨v, pos, a, rfl, ha, hpos, hv, hstate, hsettles, halone, hreport⟩ |
      ⟨rfl, rfl, hlisten, hp, hw, hstate, hsettles, halone⟩
    · have hlowered (w n : Nat) : q.lowered w n = n := if_neg fun hnot => hnot.2 hstate
      rcases hreport with ⟨code, rfl, hlisten, hv', hcode, hw⟩ | ⟨i, rest, rfl, hqueue, hsort, hpoint, htag, hcode⟩
      · obtain ⟨r, hexec, hdone⟩ := exec_reportValve ⟨hlisten, hs.2⟩ hwell hm hv' hcode hw ha
        have hb : BringsToEnd p q (nowReported v pos) s _ := reportWritten_brings hwf hq ha htest hstate
        exact ⟨_, _, _, hexec, .inr ⟨r, rfl, hdone⟩, hb, positionReport_ends hwf hq ha hpos hv hstate halone
          (hb.ends hq hlegal hdraft hne (fun w hw => by simp only [hlowered]; exact hsettles w hw) hothers)⟩
      · have hb : BringsToEnd p q (nowReported v pos) (s.taken rest) _ :=
          reportWritten_brings hwf hq ha htest hstate
        exact ⟨_, _, _, exec_positionItem hs hqueue hsort hpoint htag hcode, .inl rfl, hb.of_taken,
          positionReport_ends (s := s.taken rest) hwf hq ha hpos hv hstate halone
          (hb.ends hq hlegal hdraft hne (fun w hw => by simp only [hlowered]; exact hsettles w hw) hothers)⟩
    · have hstate' : q.activeState ≠ .releasing ∧ q.activeState.releasable = true := by
        rcases hstate with hstate | hstate | hstate | hstate <;> simp [hstate, ActiveState.releasable]
      obtain ⟨hnot, hreleasable⟩ := hstate'
      have hlowered (w : Nat) (hw : w ∈ q.active) (n : Nat) : q.lowered w n = n - 1 := if_pos ⟨hw, hnot⟩
      obtain ⟨r, hexec, hdone⟩ := exec_releasePlan hq ⟨hlisten, hs.2⟩ hwell hm hp hw hreleasable
      have hb := releaseTold_brings hq hwf hactive hnot
      rw [release_alone hq halone] at hexec
      exact ⟨_, _, _, hexec, .inr ⟨r, rfl, hdone⟩, hb,
        hb.ends hq hlegal hdraft hne (fun w hw => by simpa only [hlowered w hw] using hsettles w hw) hothers⟩
  obtain ⟨q', hplan, hrecord, hissuing, hsecured⟩ := hb.plan_after he
  obtain ⟨hflag, hraise⟩ := hb.marks_after he
  exact ⟨t, u, q', hexec, hform, hplan, hrecord, hissuing, hsecured, hflag, hraise,
    fun w b hw => hb.valve_after he hw, hb.incident_after he hq, fun m r hr hm => hb.other_after he hr hm⟩

end Sys2Proof.Machine
end
